-- ==== Sys2Proof/Word.lean ====
section
/-! DEFINITION. Word types of the Orlep 4816: the fields of a frame and the bytes of the Local Port, each at
the width that Table 3-3, Table 3-4 and Section 9 give it, and the two levels of the Line. -/

namespace Sys2Proof

/-- One byte of the Local Port, or of a payload. -/
abbrev Byte := BitVec 8

/-- A station address, 1..62 when valid; 0 and 63 are format errors on the Line (Table 3-6). -/
abbrev Address := BitVec 6

/-- The second part of an identity, 0..255. -/
abbrev Serial := BitVec 8

/-- An event's class, 0..63. -/
abbrev ClassNo := BitVec 6

/-- Urgency, 0..7; 0 is most urgent. -/
abbrev Priority := BitVec 3

/-- Service attempts already ended, 0..6 in an entry, 0..7 in a frame. -/
abbrev Attempt := BitVec 3

/-- The attempt limit, 1..7. -/
abbrev Limit := BitVec 3

/-- A deadline or a remaining time, in deadline units of 10 ms. -/
abbrev Units := BitVec 8

/-- The two levels of the Line (Conventions): dominant is logic 0, recessive is logic 1. -/
inductive Level where
  | dominant
  | recessive
deriving DecidableEq, Repr

/-- The logic value of a level: dominant 0 (`false`), recessive 1 (`true`). -/
def Level.bit : Level → Bool
  | .dominant => false
  | .recessive => true

end Sys2Proof
end

