-- ==== Sys2Proof/Syntax.lean ====
section
/-! DEFINITION. The commands of the Orlep 4816: one constructor of `Instr` for each row of
spec/opcode_table.json, and the operands they carry (identities, frames, request bytes). -/

namespace Sys2Proof

/-- R2: an event's identity is the pair of its origin address and its serial. -/
structure Identity where
  origin : Address
  serial : Serial
deriving DecidableEq, Repr

/-- The fields of Table 3-3 that every frame carries, with its payload bytes; the class bit and the
kind follow from the frame's body, the length from the payload. -/
structure Header where
  priority : Priority
  load     : BitVec 3
  sender   : Address
  id       : Identity
  attempt  : Attempt
  payload  : List Byte
deriving DecidableEq, Repr

/-- The kinds of frame and their bodies (Table 3-4). -/
inductive Body where
  | join (fresh : Bool)
  | restate (cls : ClassNo) (limit : Limit) (deadline : Units) (claimed : Bool) (station : Address)
      (remaining : Units)
  | finish (result : BitVec 4)
  | withdraw
  | release (reserved : BitVec 2)
  | lapse
  | bid
  | raise (cls : ClassNo) (limit : Limit) (deadline : Units)
deriving DecidableEq, Repr

/-- One frame of the Line, as named fields (R54). -/
structure Frame where
  head : Header
  body : Body
deriving DecidableEq, Repr

/-- How a frame of this station comes to start (R62): alone on an idle Line, or at the start edge of
another station. -/
inductive StartEdge where
  | alone
  | peerEdge
deriving DecidableEq, Repr

/-- How an own frame ends that is not taken (R70): the OBJECT slot is dominant, with the level sampled
in the ACCEPT slot, or the frame ends in the transmitter's own objection run. -/
inductive Ending where
  | objected (accept : Level)
  | objectionRun
deriving DecidableEq, Repr

/-- The commands of the block: one constructor for each row of spec/opcode_table.json, in its order.
A request carries its body bytes (Table 9-5), a taken frame its fields and the level of its ACCEPT slot. -/
inductive Instr where
  /-- PIN_RESET (R159). -/
  | pinReset
  /-- SEL_FALLING_EDGE (R171). -/
  | selFallingEdge
  /-- SEL_RISING_EDGE (R172): the complete bytes shifted in during the transaction (R170). -/
  | selRisingEdge (bytes : List Byte)
  /-- MALFORMED (R173): processing of a malformed request, with the complete bytes shifted in. -/
  | malformed (bytes : List Byte)
  /-- NOP (R174). -/
  | nop (body : List Byte)
  /-- SETUP (R162). -/
  | setup (body : List Byte)
  /-- CLASS (R164). -/
  | classPage (body : List Byte)
  /-- START (R142). -/
  | start (body : List Byte)
  /-- RAISE request (R127). -/
  | raiseRequest (body : List Byte)
  /-- WITHDRAW request (R130). -/
  | withdrawRequest (body : List Byte)
  /-- TAKE (R107). -/
  | take (body : List Byte)
  /-- FINISH request (R108). -/
  | finishRequest (body : List Byte)
  /-- RELEASE request (R109). -/
  | releaseRequest (body : List Byte)
  /-- NOTICE (R186). -/
  | notice (body : List Byte)
  /-- STATUS (R190). -/
  | status (body : List Byte)
  /-- LOOKUP (R192). -/
  | lookup (body : List Byte)
  /-- FIND (R196). -/
  | find (body : List Byte)
  /-- LEAVE (R150). -/
  | leave (body : List Byte)
  /-- REJOIN (R153). -/
  | rejoin (body : List Byte)
  /-- RESTART (R157). -/
  | restart (body : List Byte)
  /-- RESTART_PROCEEDS (R158). -/
  | restartProceeds
  /-- DEADLINE_TICK (R11). -/
  | deadlineTick
  /-- CLAIMANT_EXPIRY (R15): the timer of the entry of this identity runs out at its claimant. -/
  | claimantExpiry (id : Identity)
  /-- EXPIRED_MARK (R16): the timer of the entry of this identity runs out at another station. -/
  | expiredMark (id : Identity)
  /-- FRAME_START (R62). -/
  | frameStart (edge : StartEdge)
  /-- RAISE_FRAME (R29). -/
  | raiseFrame (h : Header) (cls : ClassNo) (limit : Limit) (deadline : Units) (accept : Level)
  /-- BID_FRAME (R31). -/
  | bidFrame (h : Header) (accept : Level)
  /-- FINISH_FRAME (R33). -/
  | finishFrame (h : Header) (result : BitVec 4) (accept : Level)
  /-- RELEASE_FRAME (R34). -/
  | releaseFrame (h : Header) (reserved : BitVec 2) (accept : Level)
  /-- LAPSE_FRAME (R35). -/
  | lapseFrame (h : Header) (accept : Level)
  /-- WITHDRAW_FRAME (R38). -/
  | withdrawFrame (h : Header) (accept : Level)
  /-- FRESH_JOIN (R40). -/
  | freshJoin (h : Header) (accept : Level)
  /-- JOIN (R41). -/
  | join (h : Header) (accept : Level)
  /-- RESTATE_FRAME (R44). -/
  | restateFrame (h : Header) (cls : ClassNo) (limit : Limit) (deadline : Units) (claimed : Bool)
      (station : Address) (remaining : Units) (accept : Level)
  /-- FRAME_REFUSED (R90): OBJECT and ACCEPT both dominant. -/
  | frameRefused
  /-- FRAME_CORRUPTED (R91). -/
  | frameCorrupted (ending : Ending)
  /-- ARBITRATION_LOST (R63). -/
  | arbitrationLost
  /-- STUCK_LINE (R74). -/
  | stuckLine
  /-- RECOVERY_COMPLETE (R75). -/
  | recoveryComplete
  /-- SPACING_COMPLETE (R60). -/
  | spacingComplete
  /-- START_UP_IDLE (R143). -/
  | startUpIdle
  /-- JOIN_WINDOW_END (R147). -/
  | joinWindowEnd
  /-- LEAVE_DRAIN_COMPLETE (R151). -/
  | leaveDrainComplete
  /-- FRAME_TAKEN_NOWHERE (R71): a peer's frame ends here without being taken; the bits this station
  sampled of its edge-insertion span, inserted bits included, and the level of the ACCEPT slot. -/
  | frameTakenNowhere (bits : List Bool) (accept : Level)
  /-- END_OF_PIN_RESET (R177). -/
  | endOfPinReset
deriving DecidableEq, Repr

end Sys2Proof
end

