-- ==== Sys2Proof/Decode.lean ====
section
/-! DEFINITION. The block decodes no instruction words: spec/opcode_table.json gives no row a bit pattern
(spec/98_reader.md counts no row with fixed bits or fields). A command reaches the block as a request of the
Local Port, an event of a pin or an event of the Line, and its operands are its constructor's. -/

namespace Sys2Proof

/-- The command that a table word spells: none, since the table gives no row any bits. -/
def decodeTableWord (_nbits _w : Nat) : Option Instr := none

end Sys2Proof
end

