-- ==== Sys2Proof/Config.lean ====
section
/-! DEFINITION. The numbers that the manual fixes for every Orlep 4816: capacities, thresholds of the Line's
counts, CLK divisions, and the markers and codes of the Local Port; and the one value that it leaves open. -/

namespace Sys2Proof.Config

/-- R2: no Event Table holds more than 48 entries. -/
def tableCapacity : Nat := 48

/-- R125: the Origin List holds at most 8 records. -/
def originCapacity : Nat := 8

/-- R181: the capacity of the Notice Queue. -/
def noticeCapacity : Nat := 20

/-- R72: the failure count that brings the station into MUTE. -/
def failureLimit : Nat := 8

/-- R60: consecutive recessive samples that complete the spacing. -/
def spacingSamples : Nat := 8

/-- R60: recessive samples of the spacing after which an edge is a start edge. -/
def earlyEdgeSamples : Nat := 7

/-- R61: the start-up idle count at which a station may start frames. -/
def startUpSamples : Nat := 16

/-- R60: the idle count that is reported to the Station Controller. -/
def idleSamples : Nat := 32

/-- R74: consecutive dominant samples that mark the Line as stuck. -/
def stuckSamples : Nat := 12

/-- R75: consecutive recessive samples that complete a recovery. -/
def recoverySamples : Nat := 16

/-- R57: equal bits after which an edge is inserted. -/
def edgeRun : Nat := 6

/-- R68: dominant bit times of an objection run. -/
def objectionRun : Nat := 8

/-- A free value (DESIGN CHOICE, log entry 15): the attempt of an entry of this limit that is reopened from attempt
7. R36 raises the attempt by 1, and the manual gives an attempt of 8 no place in its three bits. -/
opaque attemptPastSeven (limit : Limit) : Attempt

/-- R11: CLK periods of one deadline unit. -/
def clkPerTick : Nat := 160000

/-- Table 3-1: CLK periods per bit, by bit rate code. -/
def clkPerBit (rate : BitVec 2) : Nat :=
  if rate = 0 then 320 else if rate = 1 then 160 else if rate = 2 then 80 else 40

/-- R173: the longest request body. -/
def maxBody : Nat := 32

/-- Table 9-2. -/
def markerReply : Byte := 0x96
/-- Table 9-2. -/
def markerNone : Byte := 0x69
/-- Table 9-2. -/
def markerBusy : Byte := 0x3C

/-- R59: the check register's preset. -/
def crcPreset : BitVec 16 := 0xFFFF
/-- R59: the generator, combined into the check register. -/
def crcGenerator : BitVec 16 := 0x4805

end Sys2Proof.Config
end

