-- ==== Sys2Proof/Machine/FrameBits.lean ====
section
/-! DEFINITION. The bits of a frame on the Line (Sections 3.2, 3.3 and 3.6): its layout, the check field, edge
insertion, the arbitration field, and the checks that a receiver makes. A bit is `false` when dominant (0) and
`true` when recessive (1). -/

namespace Sys2Proof

/-- A field's bits, most significant first (R54). -/
def bitsOf (n : Nat) (x : BitVec n) : List Bool := (List.range n).map fun i => x.getMsbD i

/-- The number that a field's bits spell, most significant first (R54). -/
def natOfBits (l : List Bool) : Nat := l.foldl (fun acc b => 2 * acc + b.toNat) 0

/-- The field of `n` bits of a frame that begins at position `at_` (Table 3-3, start bit at position 0). -/
def fieldAt (l : List Bool) (at_ n : Nat) : BitVec n := BitVec.ofNat n (natOfBits ((l.drop at_).take n))

/-- Table 3-4: the class bit of a frame, `true` for event traffic. -/
def Body.eventTraffic : Body → Bool
  | .join _ => false
  | .restate _ _ _ _ _ _ => false
  | .finish _ => true
  | .withdraw => true
  | .release _ => true
  | .lapse => true
  | .bid => true
  | .raise _ _ _ => true

/-- Table 3-4: the kind code of a frame. -/
def Body.kind : Body → BitVec 3
  | .join _ => 0
  | .restate _ _ _ _ _ _ => 1
  | .finish _ => 0
  | .withdraw => 1
  | .release _ => 2
  | .lapse => 3
  | .bid => 4
  | .raise _ _ _ => 5

/-- Table 3-4: the bits of a frame's body. -/
def Body.bits : Body → List Bool
  | .join fresh => [fresh]
  | .restate cls limit deadline claimed station remaining =>
      bitsOf 6 cls ++ bitsOf 3 limit ++ bitsOf 8 deadline ++ [claimed] ++ bitsOf 6 station ++ bitsOf 8 remaining
  | .finish result => bitsOf 4 result
  | .withdraw => []
  | .release reserved => bitsOf 2 reserved
  | .lapse => []
  | .bid => []
  | .raise cls limit deadline => bitsOf 6 cls ++ bitsOf 3 limit ++ bitsOf 8 deadline

/-- R54: the arbitration field, positions 1 to 16. -/
def Frame.arbitrationField (f : Frame) : BitVec 16 :=
  BitVec.ofBool f.body.eventTraffic ++ f.head.priority ++ f.body.kind ++ f.head.load ++ f.head.sender

/-- The bits of a payload: its bytes in order (Table 3-3). -/
def payloadBits (payload : List Byte) : List Bool := payload.flatMap (bitsOf 8)

/-- Positions 1 up to the last payload bit: the bits that the check field covers (R54). -/
def Frame.coveredBits (f : Frame) : List Bool :=
  bitsOf 16 f.arbitrationField ++ bitsOf 6 f.head.id.origin ++ bitsOf 8 f.head.id.serial
    ++ bitsOf 3 f.head.attempt ++ bitsOf 4 (BitVec.ofNat 4 f.head.payload.length)
    ++ f.body.bits ++ payloadBits f.head.payload

/-- R59: the check register updated for one covered bit. -/
def crcStep (r : BitVec 16) (b : Bool) : BitVec 16 :=
  if r.msb = b then r <<< 1 else (r <<< 1) ^^^ Config.crcGenerator

/-- R59: the check field of the covered bits. -/
def crc16 (covered : List Bool) : BitVec 16 := covered.foldl crcStep Config.crcPreset

/-- R54, R59: the edge-insertion span before insertion: start bit, covered bits, check field. -/
def Frame.spanBits (f : Frame) : List Bool :=
  false :: (f.coveredBits ++ bitsOf 16 (crc16 f.coveredBits))

/-- R57: edge insertion after a bit `last` that ends a run of `run` equal bits. -/
def insertEdgesFrom (last : Bool) (run : Nat) : List Bool → List Bool
  | [] => []
  | b :: rest =>
    if run = Config.edgeRun then
      (!last) :: b :: insertEdgesFrom b (if b = !last then 2 else 1) rest
    else
      b :: insertEdgesFrom b (if b = last then run + 1 else 1) rest

/-- R57: the bits as sent: after six equal bits, with a further bit of the span to come, one bit of the
opposite value is inserted. -/
def insertEdges : List Bool → List Bool
  | [] => []
  | b :: rest => b :: insertEdgesFrom b 1 rest

/-- R58: removal of inserted bits after a bit `last` that ends a run of `run` equal bits, with whether an
edge error (seven equal bits) ended it. -/
def removeEdgesFrom (last : Bool) (run : Nat) : List Bool → List Bool × Bool
  | [] => ([], false)
  | b :: rest =>
    if run = Config.edgeRun then
      if b = last then ([], true) else removeEdgesFrom b 1 rest
    else
      let r := removeEdgesFrom b (if b = last then run + 1 else 1) rest
      (b :: r.1, r.2)

/-- R58: the bits of the span without the inserted ones, up to an edge error if there is one. -/
def removeEdges : List Bool → List Bool × Bool
  | [] => ([], false)
  | b :: rest =>
    let r := removeEdgesFrom b 1 rest
    (b :: r.1, r.2)

/-- R57: the bits of a frame as sent, from the start bit to the last bit of the check field. -/
def Frame.wireBits (f : Frame) : List Bool := insertEdges f.spanBits

/-- R57: how many bits as sent carry the start bit and the arbitration field (positions 0 to 16). -/
def Frame.arbitrationLength (f : Frame) : Nat := (insertEdges (f.spanBits.take 17)).length

/-- What a receiver finds in a frame (R65): its place lost, an error with its place kept, or no error. -/
inductive Verdict where
  | placeLost
  | placeKept
  | clean (f : Frame)
deriving DecidableEq, Repr

/-- Table 3-4, R56: the length of the body of a kind, absent when the code names no frame kind. -/
def bodyLength (eventTraffic : Bool) (kind : BitVec 3) : Option Nat :=
  match eventTraffic, kind.toNat with
  | false, 0 => some 1
  | false, 1 => some 32
  | true, 0 => some 4
  | true, 1 => some 0
  | true, 2 => some 2
  | true, 3 => some 0
  | true, 4 => some 0
  | true, 5 => some 17
  | _, _ => none

/-- Table 3-4: the body that the bits from position 38 spell, for the kinds that Table 3-4 names. -/
def bodyOfBits (eventTraffic : Bool) (kind : BitVec 3) (l : List Bool) : Option Body :=
  match eventTraffic, kind.toNat with
  | false, 0 => some (.join (l.getD 38 false))
  | false, 1 => some (.restate (fieldAt l 38 6) (fieldAt l 44 3) (fieldAt l 47 8) (l.getD 55 false)
      (fieldAt l 56 6) (fieldAt l 62 8))
  | true, 0 => some (.finish (fieldAt l 38 4))
  | true, 1 => some .withdraw
  | true, 2 => some (.release (fieldAt l 38 2))
  | true, 3 => some .lapse
  | true, 4 => some .bid
  | true, 5 => some (.raise (fieldAt l 38 6) (fieldAt l 44 3) (fieldAt l 47 8))
  | _, _ => none

/-- Table 3-6: limit 0, deadline 0, or attempt at or above limit, in a RAISE or a RESTATE. -/
def Body.badParameters (attempt : Attempt) : Body → Bool
  | .raise _ limit deadline => limit = 0 ∨ deadline = 0 ∨ limit ≤ attempt
  | .restate _ limit deadline _ _ _ => limit = 0 ∨ deadline = 0 ∨ limit ≤ attempt
  | .join _ => false
  | .finish _ => false
  | .withdraw => false
  | .release _ => false
  | .lapse => false
  | .bid => false

/-- Table 3-6: a sender field of 0 or 63. -/
def badSender (sender : Address) : Bool := sender = 0 ∨ sender = 63

/-- `count` bytes of payload from position `at_`. -/
def payloadOfBits (l : List Bool) (at_ : Nat) : Nat → List Byte
  | 0 => []
  | count + 1 => fieldAt l at_ 8 :: payloadOfBits l (at_ + 8) count

/-- R54, R65: the checks of Table 3-6 over the bits of a span, inserted bits removed, in the order in which the
bits arrive; the first error found decides. Bits that end before a check is reached leave the receiver waiting
for the rest, and the recessive Line that follows gives it an edge error (R69): its place is lost. -/
def checkSpan (l : List Bool) : Verdict :=
  if l.length < 17 then .placeLost
  else
    let event := l.getD 1 false
    let kind : BitVec 3 := fieldAt l 5 3
    match bodyLength event kind, bodyOfBits event kind l with
    | some bodyLen, some body =>
      let head : Header :=
        { priority := fieldAt l 2 3, load := fieldAt l 8 3, sender := fieldAt l 11 6,
          id := { origin := fieldAt l 17 6, serial := fieldAt l 23 8 }, attempt := fieldAt l 31 3, payload := [] }
      let length := (fieldAt l 34 4).toNat
      let covered := 38 + bodyLen + 8 * length
      if badSender head.sender then .placeKept
      else if l.length < 38 then .placeLost
      else if 8 < length then .placeLost
      else if l.length < 38 + bodyLen then .placeLost
      else if body.badParameters head.attempt then .placeKept
      else if l.length < covered + 16 then .placeLost
      else if crc16 ((l.take covered).drop 1) = fieldAt l covered 16 then
        .clean { head := { head with payload := payloadOfBits l (38 + bodyLen) length }, body := body }
      else .placeKept
    | _, _ => .placeLost

/-- R58, R65: what a receiver finds in the bits it samples from the start bit on, inserted bits included. -/
def receive (sampled : List Bool) : Verdict := checkSpan (removeEdges sampled).1

/-- R65: what a receiver finds in a frame that reaches it as it was sent: the checks of Table 3-6 on its
fields. A payload of more than 8 bytes stands for a length of 9..15. -/
def Frame.formatVerdict (f : Frame) : Verdict :=
  if badSender f.head.sender then .placeKept
  else if 8 < f.head.payload.length then .placeLost
  else if f.body.badParameters f.head.attempt then .placeKept
  else .clean f

end Sys2Proof
end

