-- ==== Sys2Proof/Machine/State.lean ====
section
/-! DEFINITION. The state of one Orlep 4816, block by block as Figure 0-1 gives it, as plain data; the
machine right after reset; the reasons a step could stop. -/

namespace Sys2Proof.Machine

/-- R140: the station states of Figure 7-1. -/
inductive StationState where
  | config
  | listen
  | active
  | leaving
  | detached
  | mute
deriving DecidableEq, Repr

/-- R140: progress of the join in LISTEN. -/
inductive JoinStage where
  | idleWait
  | joinSending
  | window
deriving DecidableEq, Repr

/-- R140: why the station last entered MUTE; `noCause` is the manual's NONE. -/
inductive MuteCause where
  | noCause
  | failures
  | addressClash
deriving DecidableEq, Repr

/-- R53: the seven line phases of Table 3-2. -/
inductive LinePhase where
  | idle
  | spacing
  | arbitrating
  | sending
  | receiving
  | slots
  | recovering
deriving DecidableEq, Repr

/-- R70: the outcomes of a frame at its transmitter. -/
inductive FrameOutcome where
  | taken
  | refused
  | corrupted
  | lost
deriving DecidableEq, Repr

/-- R161: one entry of the Class Table (Table 8-1). -/
structure ClassEntry where
  defined  : Bool
  capable  : Bool
  priority : Priority
  deadline : Units
  limit    : Limit
deriving DecidableEq, Repr

/-- Table 8-1, after pin reset: undefined, not capable, priority 7, deadline 1, limit 1. -/
def ClassEntry.cleared : ClassEntry :=
  { defined := false, capable := false, priority := 7, deadline := 1, limit := 1 }

/-- R161: eight pages of eight entries; page p holds classes 8p to 8p + 7. -/
abbrev ClassTable := Vector (Vector ClassEntry 8) 8

/-- R161: the station parameters and the Class Table. -/
structure Configuration where
  address : Option Address
  rate    : BitVec 2
  slots   : Nat
  classes : ClassTable
deriving DecidableEq, Repr

/-- R4: what an entry has exactly while it is CLAIMED: the claimant, its deadline timer (R13) and the
expired mark (R16). -/
structure Claim where
  claimant  : Address
  remaining : Units
  expired   : Bool
deriving DecidableEq, Repr

/-- R1: an entry of the Event Table (Table 1-1). It is CLAIMED when `claim` is present, OPEN when absent. -/
structure Entry where
  id           : Identity
  cls          : ClassNo
  priority     : Priority
  claim        : Option Claim
  lastClaimant : Option Address
  attempt      : Attempt
  limit        : Limit
  deadline     : Units
  payload      : List Byte
deriving DecidableEq, Repr

/-- R79: a queued frame, with the contents that Table 4-2 keeps for its kind. -/
inductive Queued where
  | raise (id : Identity) (cls : ClassNo) (priority : Priority) (limit : Limit) (deadline : Units)
      (payload : List Byte)
  | restate (id : Identity)
  | withdraw (id : Identity) (priority : Priority)
  | bid (id : Identity) (priority : Priority) (attempt : Attempt)
  | lapse (id : Identity) (priority : Priority) (attempt : Attempt)
  | finish (id : Identity) (priority : Priority) (attempt : Attempt) (result : BitVec 4)
      (payload : List Byte)
  | release (id : Identity) (priority : Priority) (attempt : Attempt)
  | join (fresh : Bool)
deriving DecidableEq, Repr

/-- R78: the frame places. An identity place and a held place are named by the identity of the record
they are bound to; they are bound exactly while that record exists. -/
inductive Place where
  | identity (id : Identity)
  | held (id : Identity)
  | bid
  | lapse
  | join
deriving DecidableEq, Repr

/-- R79: a queued frame with its on-Line mark. Its posting order is its place in the queue's list. -/
structure QueuedFrame where
  frame  : Queued
  onLine : Bool
deriving DecidableEq, Repr

/-- R85: the transmit image: the frame on the Line as composed at its start, and its bits from the start
bit to the end of the check field, inserted bits included. -/
structure TransmitImage where
  frame : Frame
  bits  : List Bool
deriving DecidableEq, Repr

/-- Table 5-2. -/
inductive HeldState where
  | awaiting
  | inService
  | ending
  | closed
deriving DecidableEq, Repr

/-- R97: a record of the Held List (Table 5-1). -/
structure HeldRecord where
  id              : Identity
  attempt         : Attempt
  priority        : Priority
  state           : HeldState
  unread          : Nat
  deadlineNoticed : Bool
deriving DecidableEq, Repr

/-- R124: the outcome an Origin record closed with. -/
inductive FinalOutcome where
  | finished
  | abandoned
  | withdrawn
  | refused
deriving DecidableEq, Repr

/-- Table 6-2; the final outcome is present only in CLOSED (Table 6-1). -/
inductive OriginState where
  | queued
  | live
  | withdrawing
  | closed (outcome : FinalOutcome)
deriving DecidableEq, Repr

/-- R124: a record of the Origin List (Table 6-1). -/
structure OriginRecord where
  serial          : Serial
  state           : OriginState
  withdrawPending : Bool
deriving DecidableEq, Repr

/-- Table 6-7: why a RAISE was refused. -/
inductive RefuseCause where
  | capacity
  | muted
deriving DecidableEq, Repr

/-- Table 5-4. -/
inductive RevokeCause where
  | lapsed
  | withdrawn
  | originRestarted
deriving DecidableEq, Repr

/-- R149: the causes of a STATION notice. -/
inductive StationCause where
  | joined
  | alone
  | peered
  | muted
  | detached
  | lineFault
  | addressClash
  | restarted
deriving DecidableEq, Repr

/-- R182: the seven kinds of notice (Table 10-1). A STATION notice holds its cause set as the byte of
Table 9-8; its state is read when it is popped (R185). -/
inductive Notice where
  | finished (id : Identity) (claimant : Address) (result : BitVec 4) (payload : List Byte)
  | abandoned (id : Identity) (attempts : Limit) (lastClaimant : Address)
  | withdrawn (id : Identity)
  | refused (id : Identity) (cause : RefuseCause)
  | deadline (id : Identity)
  | revoked (id : Identity) (cause : RevokeCause)
  | station (causes : Byte)
deriving DecidableEq, Repr

/-- Table 9-4; `atEnd` is the manual's END. -/
inductive ReplyCode where
  | ok
  | empty
  | atEnd
  | malformed
  | state
  | badArg
  | full
  | unknown
  | late
deriving DecidableEq, Repr

/-- A reply message (Section 9.6): the echoed code, the outcome and the body. -/
structure Reply where
  code    : Byte
  outcome : ReplyCode
  body    : List Byte
deriving DecidableEq, Repr

/-- A request as taken at the rising edge of SEL: malformed by R173, with the code byte to be echoed, or a
code of Table 9-3 with its body. -/
inductive Request where
  | malformed (echo : Byte)
  | good (code : Byte) (body : List Byte)
deriving DecidableEq, Repr

/-- Table 9-1, transaction: none, open, or open-BUSY. -/
inductive Transaction where
  | closed
  | opened
  | busy
deriving DecidableEq, Repr

/-- R140: the Station Controller, less the configuration. `restartWaiting`: a RESTART waits for the outcome
of an own frame (R157). -/
structure Controller where
  state          : StationState
  freshOwed      : Bool
  joinStage      : Option JoinStage
  draining       : Bool
  muteCause      : MuteCause
  restartWaiting : Bool
deriving DecidableEq, Repr

/-- Section 3: the Line Interface Unit. `firstSpacing` is set in the spacing that follows a release (R76);
`txSent` counts the bits of the transmit image sent so far; `droveAccept`, `droveObject` and `droveRun` record
what this station drove at the end of the last frame (R66, R67, R68). -/
structure Liu where
  phase        : LinePhase
  failures     : Nat
  alone        : Bool
  startUpIdle  : Nat
  recessive    : Nat
  dominant     : Nat
  idle         : Nat
  firstSpacing : Bool
  txSent       : Nat
  droveAccept  : Bool
  droveObject  : Bool
  droveRun     : Bool
deriving DecidableEq, Repr

/-- R169: the Local Port (Table 9-1). `selLow` is the level of the SEL pin; `shiftOut` is the message that the
open transaction shifts out on SDO, decided at its falling edge (R171). -/
structure Port where
  selLow       : Bool
  transaction  : Transaction
  shiftOut     : List Byte
  pendingReply : Option Reply
  processing   : Option Request
  restartClose : Bool
deriving DecidableEq, Repr

/-- The whole part. `pending` is the queue of commands that wait, first in, first out; it is the model's own
and no block of the part. -/
structure State where
  pending       : List Instr
  inReset       : Bool
  divider       : Nat
  config        : Configuration
  ctl           : Controller
  liu           : Liu
  table         : List Entry
  queue         : List QueuedFrame
  image         : Option TransmitImage
  held          : List HeldRecord
  origin        : List OriginRecord
  serialCounter : Serial
  notices       : List Notice
  port          : Port
deriving DecidableEq, Repr

/-- The reasons a command could stop the machine with a fault. There is none: the manual gives every command an
effect in every state, so the type has no constructor (safe: nothing is stopped). -/
inductive Fault where
deriving DecidableEq, Repr

/-- The reasons a command could be refused. -/
inductive Refusal where
  /-- Raised by the dispatch for a command that has no meaning yet, with its mnemonic (safe); no command is. -/
  | notModelled (mnemonic : String)
deriving DecidableEq, Repr

/-- Table 8-1: the configuration after a pin reset. -/
def Configuration.cleared : Configuration :=
  { address := none, rate := 0, slots := 1,
    classes := Vector.replicate 8 (Vector.replicate 8 ClassEntry.cleared) }

/-- Table 7-1, after pin reset. -/
def Controller.cleared : Controller :=
  { state := .config, freshOwed := false, joinStage := none, draining := false, muteCause := .noCause,
    restartWaiting := false }

/-- R76, after pin reset: phase IDLE, held, with every count 0 and the Alone flag clear. -/
def Liu.cleared : Liu :=
  { phase := .idle, failures := 0, alone := false, startUpIdle := 0, recessive := 0, dominant := 0, idle := 0,
    firstSpacing := false, txSent := 0, droveAccept := false, droveObject := false, droveRun := false }

/-- R177, after pin reset, with the SEL pin at the level given. -/
def Port.cleared (selLow : Bool) : Port :=
  { selLow := selLow, transaction := .closed, shiftOut := [], pendingReply := none, processing := none,
    restartClose := false }

/-- The part right after a pin reset has ended (R159, R177), with SEL high and no command waiting. -/
def State.reset : State :=
  { pending := [], inReset := false, divider := 0, config := Configuration.cleared,
    ctl := Controller.cleared, liu := Liu.cleared, table := [], queue := [], image := none, held := [],
    origin := [], serialCounter := 0, notices := [], port := Port.cleared false }

end Sys2Proof.Machine
end

