-- ==== Sys2Proof/Machine/Ops.lean ====
section
/-! DEFINITION. The named operations over the part's lists and counts: the Event Table, the Frame Queue and its
posting, the Notice Queue and its STATION notice, the LIU's counts of samples, the completion of a request. -/

namespace Sys2Proof.Machine

/-- The first element of a list among those whose key is least. -/
def pickLeast {α : Type} (key : α → Nat) : List α → Option α
  | [] => none
  | a :: rest =>
    match pickLeast key rest with
    | none => some a
    | some b => if key b < key a then some b else some a

/-- This station's address; 0, which is no address, while SETUP has written none. -/
def State.address (s : State) : Address := s.config.address.getD 0

/-- The station state (R140). -/
abbrev State.station (s : State) : StationState := s.ctl.state

/-- R76: the LIU is held, and so samples and drives nothing, in CONFIG and in DETACHED. -/
def State.liuHeld (s : State) : Bool := s.station = .config ∨ s.station = .detached

/-- R80: the Frame Queue takes posts in LISTEN, ACTIVE and LEAVING. -/
def State.takesPosts (s : State) : Bool :=
  s.station = .listen ∨ s.station = .active ∨ s.station = .leaving

/-- R165: the Class Table's entry of a class. -/
def ClassTable.entry (t : ClassTable) (c : ClassNo) : ClassEntry :=
  (t[c.toNat / 8]'(by have := c.isLt; omega))[c.toNat % 8]'(by omega)

/-! ### The Event Table -/

/-- The entry of an identity (R2). -/
def findEntry (t : List Entry) (id : Identity) : Option Entry := t.find? fun e => e.id = id

/-- R9: removal of the entry of an identity; the later entries close up. -/
def removeEntry (t : List Entry) (id : Identity) : List Entry := t.filter fun e => ¬ e.id = id

/-- R10: a change of the entry of an identity at its position. -/
def updateEntry (t : List Entry) (id : Identity) (f : Entry → Entry) : List Entry :=
  t.map fun e => if e.id = id then f e else e

/-- R7: the entry is CLAIMED by the station of address `a`, at the attempt given. -/
def claimedBy (t : List Entry) (id : Identity) (a : Address) (attempt : Attempt) : Bool :=
  match findEntry t id with
  | some e => e.attempt = attempt ∧ (e.claim.map Claim.claimant) = some a
  | none => false

/-- R16: the entry's expired mark is set. -/
def Entry.isExpired (e : Entry) : Bool :=
  match e.claim with
  | some c => c.expired
  | none => false

/-! ### The Frame Queue -/

/-- R78: the place that a queued frame stands in. -/
def Queued.place : Queued → Place
  | .raise id _ _ _ _ _ => .identity id
  | .restate id => .identity id
  | .withdraw id _ => .identity id
  | .bid _ _ _ => .bid
  | .lapse _ _ _ => .lapse
  | .finish id _ _ _ _ => .held id
  | .release id _ _ => .held id
  | .join _ => .join

/-- The frame that a place holds. -/
def framePlaced (q : List QueuedFrame) (p : Place) : Option QueuedFrame := q.find? fun f => f.frame.place = p

/-- Table 4-4: a queued frame, not on the Line, gives way to a post into its place: a RESTATE to a WITHDRAW, a
BID to a BID, a LAPSE to a LAPSE. -/
def givesWay (held post : Queued) : Bool :=
  match held, post with
  | .restate _, .withdraw _ _ => true
  | .bid _ _ _, .bid _ _ _ => true
  | .lapse _ _ _, .lapse _ _ _ => true
  | _, _ => false

/-- R81: the answers to a post; `closed` where the station state takes no post (R80). -/
inductive PostAnswer where
  | placed
  | replaced
  | onLine
  | occupied
  | closed
deriving DecidableEq, Repr

/-- The queue without the frame of a place. -/
def withoutPlace (q : List QueuedFrame) (p : Place) : List QueuedFrame := q.filter fun f => ¬ f.frame.place = p

/-- R81: the answer to a post, by what the named place holds. -/
def State.postAnswer (s : State) (f : Queued) : PostAnswer :=
  if s.takesPosts then
    match framePlaced s.queue f.place with
    | none => .placed
    | some g => if g.onLine then .onLine else if givesWay g.frame f then .replaced else .occupied
  else .closed

/-- R81: a post. A frame that enters a place takes the last place in posting order. -/
def State.post (s : State) (f : Queued) : State :=
  match s.postAnswer f with
  | .placed => { s with queue := s.queue ++ [{ frame := f, onLine := false }] }
  | .replaced => { s with queue := withoutPlace s.queue f.place ++ [{ frame := f, onLine := false }] }
  | .onLine => s
  | .occupied => s
  | .closed => s

/-- R83: a poster's removal of its frame from a place, refused while the frame is on the Line. -/
def State.removeFrame (s : State) (p : Place) : State :=
  { s with queue := s.queue.filter fun f => ¬ (f.frame.place = p ∧ ¬ f.onLine) }

/-- R85: the frame on the Line, if an own frame is. -/
def State.frameOnLine (s : State) : Option QueuedFrame := s.queue.find? fun f => f.onLine

/-- R43, R79, R85: the frame composed in full from a queued frame and the station's state at its start. A RESTATE
is composed from its entry, which R43 says is present; without it there is nothing to compose. -/
def State.compose (s : State) : Queued → Option Frame
  | .raise id cls priority limit deadline payload =>
      some { head := { priority := priority, load := 0, sender := s.address, id := id, attempt := 0,
                       payload := payload },
             body := .raise cls limit deadline }
  | .restate id =>
      match findEntry s.table id with
      | none => none
      | some e =>
        some { head := { priority := e.priority, load := 0, sender := s.address, id := id, attempt := e.attempt,
                         payload := e.payload },
               body :=
                 match e.claim with
                 | some c => .restate e.cls e.limit e.deadline true c.claimant c.remaining
                 | none => .restate e.cls e.limit e.deadline false (e.lastClaimant.getD 0) 0 }
  | .withdraw id priority =>
      some { head := { priority := priority, load := 0, sender := s.address, id := id, attempt := 0,
                       payload := [] },
             body := .withdraw }
  | .bid id priority attempt =>
      some { head := { priority := priority, load := BitVec.ofNat 3 s.held.length, sender := s.address, id := id,
                       attempt := attempt, payload := [] },
             body := .bid }
  | .lapse id priority attempt =>
      some { head := { priority := priority, load := 0, sender := s.address, id := id, attempt := attempt,
                       payload := [] },
             body := .lapse }
  | .finish id priority attempt result payload =>
      some { head := { priority := priority, load := 0, sender := s.address, id := id, attempt := attempt,
                       payload := payload },
             body := .finish result }
  | .release id priority attempt =>
      some { head := { priority := priority, load := 0, sender := s.address, id := id, attempt := attempt,
                       payload := [] },
             body := .release 0 }
  | .join fresh =>
      some { head := { priority := 0, load := 0, sender := s.address, id := { origin := s.address, serial := 0 },
                       attempt := 0, payload := [] },
             body := .join fresh }

/-- R84: a frame that the queue could hand over now, as composed. -/
def State.candidates (s : State) : List (QueuedFrame × Frame) :=
  s.queue.filterMap fun q => (s.compose q.frame).map fun f => (q, f)

/-- R84: the frame with the lowest arbitration field, the earliest in posting order among equals. -/
def State.selected (s : State) : Option (QueuedFrame × Frame) :=
  pickLeast (fun c => c.2.arbitrationField.toNat) s.candidates

/-- R61, R84: the station may start a frame at a start of the LIU, and the queue is ready. -/
def State.readyToStart (s : State) : Bool :=
  s.takesPosts ∧ s.liu.startUpIdle = Config.startUpSamples ∧ s.frameOnLine = none ∧ s.image = none
    ∧ s.selected.isSome

/-- R62, R85: the selected frame is handed to the LIU: its on-Line mark is set, it is composed into the transmit
image, and the LIU enters ARBITRATING. The sample before a start bit is recessive (R74). -/
def State.startFrame (s : State) : State :=
  match s.selected with
  | none => s
  | some (q, f) =>
    { s with
      queue := s.queue.map fun g => if g.frame.place = q.frame.place then { g with onLine := true } else g
      image := some { frame := f, bits := f.wireBits }
      liu := { s.liu with phase := .arbitrating, dominant := 0, txSent := 0 } }

/-- R91, R92: the frame on the Line stays in its place, no longer on the Line, and the transmit image is cleared. -/
def State.keepFrame (s : State) : State :=
  { s with queue := s.queue.map fun f => { f with onLine := false }, image := none }

/-- R89, R90: the frame on the Line leaves its place, and the transmit image is cleared. -/
def State.dropFrame (s : State) : State :=
  { s with queue := s.queue.filter fun f => ¬ f.onLine, image := none }

/-- Table 4-5: the table has made a queued frame pointless. -/
def superseded (t : List Entry) (me : Address) : Queued → Bool
  | .raise _ _ _ _ _ _ => false
  | .restate id => (findEntry t id).isNone
  | .withdraw _ _ => false
  | .bid id _ attempt =>
      match findEntry t id with
      | some e => ¬ (e.claim = none ∧ e.attempt = attempt)
      | none => true
  | .lapse id _ attempt =>
      match findEntry t id with
      | some e => ¬ (e.claim.isSome ∧ e.attempt = attempt)
      | none => true
  | .finish id _ attempt _ _ => ¬ claimedBy t id me attempt
  | .release id _ attempt => ¬ claimedBy t id me attempt
  | .join _ => false

/-- R87: the supersession purge passes by the frame on the Line and removes every other superseded frame. -/
def State.purge (s : State) : State :=
  { s with queue := s.queue.filter fun f => f.onLine ∨ ¬ superseded s.table s.address f.frame }

/-! ### The Notice Queue -/

/-- R181: a notice joins the end of the queue. -/
def State.notify (s : State) (n : Notice) : State := { s with notices := s.notices ++ [n] }

/-- Table 9-8: the bit of a cause in the cause set of a STATION notice. -/
def StationCause.bit : StationCause → Byte
  | .joined => 0x01
  | .alone => 0x02
  | .peered => 0x04
  | .muted => 0x08
  | .detached => 0x10
  | .lineFault => 0x20
  | .addressClash => 0x40
  | .restarted => 0x80

/-- R182: a STATION notice. -/
def Notice.isStation : Notice → Bool
  | .station _ => true
  | .finished _ _ _ _ => false
  | .abandoned _ _ _ => false
  | .withdrawn _ => false
  | .refused _ _ => false
  | .deadline _ => false
  | .revoked _ _ => false

/-- R184: a cause joins the cause set of a waiting STATION notice. -/
def Notice.addCause (c : StationCause) : Notice → Notice
  | .station causes => .station (causes ||| c.bit)
  | .finished id a r p => .finished id a r p
  | .abandoned id n a => .abandoned id n a
  | .withdrawn id => .withdrawn id
  | .refused id k => .refused id k
  | .deadline id => .deadline id
  | .revoked id k => .revoked id k

/-- R149, R184: a cause is raised: it joins the waiting STATION notice, or a new one is queued. -/
def State.raiseCause (s : State) (c : StationCause) : State :=
  if s.notices.any Notice.isStation then { s with notices := s.notices.map (Notice.addCause c) }
  else s.notify (.station c.bit)

/-! ### The LIU's counts -/

/-- R60, R61, R74, R75: the counts after one sample. Each count stops at the value at which it last does
something; a dominant sample is not counted toward a stuck Line in RECOVERING. -/
def Liu.sample (l : Liu) (bit : Bool) : Liu :=
  if bit then
    { l with
      recessive := min (l.recessive + 1) Config.recoverySamples
      idle := min (l.idle + 1) Config.idleSamples
      startUpIdle := min (l.startUpIdle + 1) Config.startUpSamples
      dominant := 0 }
  else
    { l with
      recessive := 0
      idle := 0
      startUpIdle := if l.startUpIdle = Config.startUpSamples then l.startUpIdle else 0
      dominant := if l.phase = .recovering then l.dominant else min (l.dominant + 1) Config.stuckSamples }

/-- The counts after a row of samples. -/
def Liu.sampleAll (l : Liu) (bits : List Bool) : Liu := bits.foldl Liu.sample l

/-- R60: the end of a frame after the bits sampled: the LIU enters SPACING, with the counts of recessive samples
at 0, having driven the slots or the objection run given. -/
def Liu.endFrame (l : Liu) (bits : List Bool) (accept object run : Bool) : Liu :=
  { l.sampleAll bits with
    phase := .spacing, recessive := 0, idle := 0, firstSpacing := false, txSent := 0
    droveAccept := accept, droveObject := object, droveRun := run }

/-- R68: what a station samples from the bit in which it found its error to the end of its objection run. -/
def runBits : List Bool := true :: List.replicate Config.objectionRun false

/-- R76: release of the LIU into SPACING with its counts at 0; R60's allowance for an early start edge does not
apply to this first spacing. -/
def Liu.release (l : Liu) : Liu :=
  { l with
    phase := .spacing, startUpIdle := 0, recessive := 0, dominant := 0, idle := 0, firstSpacing := true,
    txSent := 0 }

/-- R76: the LIU held at entry to DETACHED; the failure count and the Alone flag keep their values. -/
def Liu.hold (l : Liu) : Liu :=
  { l with
    phase := .idle, startUpIdle := 0, recessive := 0, dominant := 0, idle := 0, firstSpacing := false,
    txSent := 0 }

/-- R60: a recessive-to-dominant edge that comes now is the start edge of a frame: in IDLE, or after the seventh
recessive sample of a spacing other than the first after a release (R76). -/
def Liu.seesStartEdge (l : Liu) : Bool :=
  l.phase = .idle ∨ (l.phase = .spacing ∧ ¬ l.firstSpacing ∧ Config.earlyEdgeSamples ≤ l.recessive)

/-- R74: an edge follows a recessive sample, which has set the count of dominant samples to 0. -/
def Liu.atEdge (l : Liu) : Liu := { l with dominant := 0 }

/-- R26: a peer's frame that ends now was received from its start bit: the LIU is in RECEIVING, or the frame's start
edge, which a command that stands for the whole frame brings with it, is one for this station. -/
def Liu.receivesFrame (l : Liu) : Bool := l.phase = .receiving ∨ l.seesStartEdge

/-! ### The Local Port -/

/-- R174: completion of a request: its reply becomes pending and processing idle. -/
def State.complete (s : State) (code : Byte) (outcome : ReplyCode) (body : List Byte) : State :=
  { s with
    port := { s.port with pendingReply := some { code := code, outcome := outcome, body := body },
                          processing := none } }

/-- R174, R175: the part processes a request now: it is out of reset, and either no request is in processing or
the one in processing is this one. -/
def State.processes (s : State) (r : Request) : Bool :=
  ¬ s.inReset ∧ (s.port.processing = none ∨ s.port.processing = some r)

/-- What an owner block answers: the state after its step, the outcome and the reply's body. -/
structure Answer where
  after   : State
  outcome : ReplyCode
  body    : List Byte

/-- An answer that changes nothing and carries no body (R179). -/
def State.answers (s : State) (outcome : ReplyCode) : Answer := { after := s, outcome := outcome, body := [] }

/-- R173, R174: the processing of a request whose owner answers with `owner`. A body longer than 32 bytes makes
the request malformed; a request that is not in processing while another is has no effect (R175). -/
def State.request (s : State) (code : Byte) (body : List Byte) (owner : State → Answer) : State :=
  if s.processes (.good code body) then
    if body.length ≤ Config.maxBody then
      let a := owner s
      a.after.complete code a.outcome a.body
    else s.complete code .malformed []
  else s

end Sys2Proof.Machine
end

