-- ==== Sys2Proof/Machine/Apply.lean ====
section
/-! DEFINITION. Section 2: the effect of a taken frame on the Event Table, the applies-when test of each kind,
the storage test of R3, and the reports that an application hands on (R20, R21). -/

namespace Sys2Proof.Machine

/-- R20: the cause of a removal, with the contents its report carries. -/
inductive RemovalCause where
  | finished (claimant : Address) (result : BitVec 4) (payload : List Byte)
  | abandoned (attempts : Limit) (lastClaimant : Address)
  | withdrawn
  | originRestarted
deriving DecidableEq, Repr

/-- R21: the cause of a reopening. -/
inductive ReopenCause where
  | released
  | lapsed
deriving DecidableEq, Repr

/-- R20, R21: the reports of the Event Table Unit. -/
inductive Report where
  | removed (id : Identity) (attempt : Attempt) (cause : RemovalCause)
  | claimed (id : Identity) (claimant : Address) (attempt : Attempt)
  | reopened (id : Identity) (cause : ReopenCause) (takenBack : Address) (attempt : Attempt)
  | updated (id : Identity) (claimant : Option Address) (attempt : Attempt)
  | inserted (id : Identity) (claimant : Option Address)
  | expired (id : Identity) (attempt : Attempt)
deriving DecidableEq, Repr

/-- The table after a change, with the reports of the change in table order (R19). -/
structure Applied where
  table   : List Entry
  reports : List Report
deriving DecidableEq, Repr

/-- A change that is none: the frame was stale, or leaves the table as it is. -/
def Applied.unchanged (t : List Entry) : Applied := { table := t, reports := [] }

/-- R27: the sender test, the part of the applies-when test common to every kind. -/
def passesSenderTest (me : Address) (transmitter : Bool) (f : Frame) : Bool :=
  transmitter ∨ f.head.sender ≠ me

/-- R44: the station field of a RESTATE is valid for the restated state. -/
def stationFieldValid (claimed : Bool) (station : Address) : Bool :=
  if claimed then 1 ≤ station.toNat ∧ station.toNat ≤ 62 else station.toNat ≤ 62

/-- The part of the applies-when test that is the kind's own (Table 2-1). -/
def kindApplies (t : List Entry) (f : Frame) : Bool :=
  let h := f.head
  match f.body with
  | .raise _ _ _ => h.sender = h.id.origin ∧ h.attempt = 0
  | .bid =>
    match findEntry t h.id with
    | some e => e.claim = none ∧ e.attempt = h.attempt
    | none => false
  | .finish _ => claimedBy t h.id h.sender h.attempt ∧ h.payload.length ≤ 4
  | .release _ => claimedBy t h.id h.sender h.attempt
  | .lapse =>
    match findEntry t h.id with
    | some e => e.claim.isSome ∧ e.attempt = h.attempt
    | none => false
  | .withdraw => (findEntry t h.id).isSome ∧ h.sender = h.id.origin
  | .join _ => h.id.origin = h.sender
  | .restate _ _ _ claimed station _ => h.sender = h.id.origin ∧ stationFieldValid claimed station

/-- R27: the applies-when test of a taken frame at the station of address `me`. -/
def applies (me : Address) (transmitter : Bool) (t : List Entry) (f : Frame) : Bool :=
  passesSenderTest me transmitter f ∧ kindApplies t f

/-- R3: this station cannot store the entry that a RAISE or RESTATE carries. The test is made only for a frame
that would pass its applies-when test (R27). -/
def storageObjects (me : Address) (transmitter : Bool) (t : List Entry) (f : Frame) : Bool :=
  match f.body with
  | .raise _ _ _ =>
    applies me transmitter t f
      ∧ (Config.tableCapacity ≤ t.length ∨ (findEntry t f.head.id).isSome)
  | .restate _ _ _ _ _ _ =>
    applies me transmitter t f
      ∧ Config.tableCapacity ≤ t.length ∧ (findEntry t f.head.id).isNone
  | .bid => false
  | .finish _ => false
  | .release _ => false
  | .lapse => false
  | .withdraw => false
  | .join _ => false

/-- R36: the attempt of an entry reopened, raised by 1; past 7, the highest that three bits hold, a free value (log
entry 15). -/
def Entry.nextAttempt (e : Entry) : Attempt :=
  if e.attempt = 7 then Config.attemptPastSeven e.limit else e.attempt + 1

/-- R36: the attempt, raised by 1, equals the entry's limit. -/
def Entry.atLimit (e : Entry) : Bool := e.limit.toNat = e.attempt.toNat + 1

/-- R36, R37: the reopening of an entry taken back from `takenBack`, which abandons the entry instead when the raised
attempt equals its limit. -/
def reopen (t : List Entry) (e : Entry) (cause : ReopenCause) (takenBack : Address) : Applied :=
  if e.atLimit then
    { table := removeEntry t e.id, reports := [.removed e.id e.attempt (.abandoned e.limit takenBack)] }
  else
    { table := updateEntry t e.id fun x =>
        { x with attempt := e.nextAttempt, claim := none, lastClaimant := some takenBack }
      reports := [.reopened e.id cause takenBack e.nextAttempt] }

/-- R12, R13, R16: the claim that a RESTATE sets at a station other than its origin: a remaining value of 0 has
run out, and sets the expired mark at a station that is not the claimant. -/
def restatedClaim (me station : Address) (remaining : Units) : Claim :=
  { claimant := station, remaining := remaining, expired := remaining = 0 ∧ station ≠ me }

/-- R13, R15: the expiry report of a RESTATE that sets a timer to 0 at the claimant. -/
def restatedExpiry (me : Address) (id : Identity) (attempt : Attempt) (claimed : Bool) (station : Address)
    (remaining : Units) : List Report :=
  if claimed ∧ remaining = 0 ∧ station = me then [.expired id attempt] else []

/-- R44 to R47: an applied RESTATE. -/
def applyRestate (me : Address) (transmitter : Bool) (t : List Entry) (h : Header) (cls : ClassNo)
    (limit : Limit) (deadline : Units) (claimed : Bool) (station : Address) (remaining : Units) : Applied :=
  let claim := if claimed then some (restatedClaim me station remaining) else none
  let claimant := if claimed then some station else none
  let last := if station = 0 then none else some station
  match findEntry t h.id with
  | none =>
    { table := t ++ [{ id := h.id, cls := cls, priority := h.priority, claim := claim,
                       lastClaimant := if claimed then none else last, attempt := h.attempt, limit := limit,
                       deadline := deadline, payload := h.payload }]
      reports := .inserted h.id claimant :: restatedExpiry me h.id h.attempt claimed station remaining }
  | some _ =>
    if transmitter then Applied.unchanged t
    else
      { table := updateEntry t h.id fun x =>
          { x with attempt := h.attempt, claim := claim,
                   lastClaimant := if claimed then x.lastClaimant else last }
        reports := .updated h.id claimant h.attempt
          :: restatedExpiry me h.id h.attempt claimed station remaining }

/-- R29 to R47: the change that a frame which passes its applies-when test makes to the table. -/
def applyKind (me : Address) (transmitter : Bool) (t : List Entry) (f : Frame) : Applied :=
  let h := f.head
  match f.body with
  | .raise cls limit deadline =>
    { table := t ++ [{ id := h.id, cls := cls, priority := h.priority, claim := none, lastClaimant := none,
                       attempt := 0, limit := limit, deadline := deadline, payload := h.payload }]
      reports := [.inserted h.id none] }
  | .bid =>
    { table := updateEntry t h.id fun x =>
        { x with claim := some { claimant := h.sender, remaining := x.deadline, expired := false } }
      reports := [.claimed h.id h.sender h.attempt] }
  | .finish result =>
    { table := removeEntry t h.id
      reports := [.removed h.id h.attempt (.finished h.sender result h.payload)] }
  | .release _ =>
    match findEntry t h.id with
    | some e => reopen t e .released h.sender
    | none => Applied.unchanged t
  | .lapse =>
    match findEntry t h.id with
    | some e => reopen t e .lapsed ((e.claim.map Claim.claimant).getD 0)
    | none => Applied.unchanged t
  | .withdraw =>
    match findEntry t h.id with
    | some e => { table := removeEntry t h.id, reports := [.removed h.id e.attempt .withdrawn] }
    | none => Applied.unchanged t
  | .join fresh =>
    if fresh then
      { table := t.filter fun e => ¬ e.id.origin = h.sender
        reports := (t.filter fun e => e.id.origin = h.sender).map fun e =>
          .removed e.id e.attempt .originRestarted }
    else Applied.unchanged t
  | .restate cls limit deadline claimed station remaining =>
    applyRestate me transmitter t h cls limit deadline claimed station remaining

/-- R25, R27: a taken frame at a station: applied in full when it passes its test, ignored when it is stale. -/
def applyFrame (me : Address) (transmitter : Bool) (t : List Entry) (f : Frame) : Applied :=
  if applies me transmitter t f then applyKind me transmitter t f else Applied.unchanged t

/-! ### Deadline timers (Section 1.3) -/

/-- R11, R16: an entry after a deadline tick. -/
def Entry.tick (me : Address) (e : Entry) : Entry :=
  match e.claim with
  | none => e
  | some c =>
    if c.remaining = 0 then e
    else
      { e with claim := some { c with
          remaining := c.remaining - 1
          expired := c.expired ∨ (c.remaining = 1 ∧ c.claimant ≠ me) } }

/-- R13, R15: the timer of an entry claimed by this station reaches 0 at this tick. -/
def Entry.tickExpiry (me : Address) (e : Entry) : List Report :=
  match e.claim with
  | none => []
  | some c => if c.remaining = 1 ∧ c.claimant = me then [.expired e.id e.attempt] else []

/-- R11, R183: a deadline tick over the whole table; the expiry reports stand in table order. -/
def tickTable (me : Address) (t : List Entry) : Applied :=
  { table := t.map (Entry.tick me), reports := t.flatMap (Entry.tickExpiry me) }

/-- R13, R15, R16: the timer of an entry has run out: it holds 0, and the expiry rule of the claimant or of any
other station applies. -/
def Entry.runOut (me : Address) (e : Entry) : Entry :=
  match e.claim with
  | none => e
  | some c => { e with claim := some { c with remaining := 0, expired := c.expired ∨ c.claimant ≠ me } }

end Sys2Proof.Machine
end

