-- ==== Sys2Proof/Machine/Operands.lean ====
section
/-! DEFINITION. The operands of requests: what a transaction's bytes spell (R170, R173), and what each request
body of Table 9-5 holds, with the range checks of its owner's rule. -/

namespace Sys2Proof.Machine

/-- R170: the complete bytes that the bits sampled on SDI spell, most significant bit first; the bits of an incomplete
byte are discarded. A transaction's bytes are the operand of SEL_RISING_EDGE. -/
def bytesOfBits : List Bool → List Byte
  | b7 :: b6 :: b5 :: b4 :: b3 :: b2 :: b1 :: b0 :: rest =>
    BitVec.ofNat 8 (natOfBits [b7, b6, b5, b4, b3, b2, b1, b0]) :: bytesOfBits rest
  | _ => []

/-- R173: the request that the complete bytes of a transaction spell. -/
def Request.ofBytes : List Byte → Request
  | [] => .malformed 0xFF
  | [code] => .malformed code
  | code :: len :: rest =>
    if 15 < code.toNat then .malformed code
    else if Config.maxBody < len.toNat then .malformed code
    else if rest.length < len.toNat then .malformed code
    else .good code (rest.take len.toNat)

/-- R162: the three parameters of a SETUP body, absent when the answer is BADARG. -/
def setupOperands : List Byte → Option (Address × BitVec 2 × Nat)
  | [address, rate, slots] =>
    if 1 ≤ address.toNat ∧ address.toNat ≤ 62 ∧ rate.toNat ≤ 3 ∧ 1 ≤ slots.toNat ∧ slots.toNat ≤ 4 then
      some (address.setWidth 6, rate.setWidth 2, slots.toNat)
    else none
  | _ => none

/-- Table 9-9, R164: one entry of a CLASS body from its flags, deadline and limit bytes. -/
def classEntryOperand (flags deadline limit : Byte) : Option ClassEntry :=
  if flags.extractLsb' 3 3 = 0 ∧ deadline ≠ 0 ∧ 1 ≤ limit.toNat ∧ limit.toNat ≤ 7 then
    some { defined := flags.getLsbD 7, capable := flags.getLsbD 6, priority := flags.extractLsb' 0 3,
           deadline := deadline, limit := limit.setWidth 3 }
  else none

/-- R163: the entries of a CLASS body in class order, absent when one of them is invalid (R164). -/
def classEntriesOperand : List Byte → Option (List ClassEntry)
  | [] => some []
  | flags :: deadline :: limit :: rest =>
    match classEntryOperand flags deadline limit, classEntriesOperand rest with
    | some e, some es => some (e :: es)
    | _, _ => none
  | _ => none

/-- R163, R164: the page number and the page of a CLASS body, absent when the answer is BADARG. -/
def classOperands : List Byte → Option (Fin 8 × Vector ClassEntry 8)
  | [] => none
  | page :: entries =>
    match classEntriesOperand entries with
    | none => none
    | some es =>
      if hp : page.toNat < 8 then
        if he : es.toArray.size = 8 then some (⟨page.toNat, hp⟩, ⟨es.toArray, he⟩) else none
      else none

/-- R127, R178: the class and payload of a RAISE body, absent when it names no class, a class above 63, or a
payload of more than 8 bytes. -/
def raiseOperands : List Byte → Option (ClassNo × List Byte)
  | [] => none
  | cls :: payload =>
    if cls.toNat ≤ 63 ∧ payload.length ≤ 8 then some (cls.setWidth 6, payload) else none

/-- The identity that two bytes of a request name; absent when no identity has that origin byte. -/
def identityOperand (origin serial : Byte) : Option Identity :=
  if origin.toNat ≤ 63 then some { origin := origin.setWidth 6, serial := serial } else none

/-- R108: the identity, result and result payload of a FINISH body, absent when the answer is BADARG. -/
def finishOperands : List Byte → Option (Option Identity × BitVec 4 × List Byte)
  | origin :: serial :: result :: payload =>
    if result.toNat ≤ 15 ∧ payload.length ≤ 4 then
      some (identityOperand origin serial, result.setWidth 4, payload)
    else none
  | _ => none

/-- R109: the identity of a RELEASE body, absent when the answer is BADARG. -/
def releaseOperands : List Byte → Option (Option Identity)
  | [origin, serial] => some (identityOperand origin serial)
  | _ => none

/-- R194: a FIND pattern; an absent field is ANY. -/
structure Pattern where
  start    : Nat
  cls      : Option ClassNo
  origin   : Option Address
  claimed  : Option Bool
  claimant : Option Address
  bound    : Priority
deriving DecidableEq, Repr

/-- Table 9-10: a byte that is ANY (FFh) or lies in a range; absent when it is neither. -/
def anyOr {α : Type} (b : Byte) (inRange : Bool) (value : α) : Option (Option α) :=
  if b = 0xFF then some none else if inRange then some (some value) else none

/-- R194: the pattern of a FIND body, absent when the answer is BADARG. -/
def findOperands : List Byte → Option Pattern
  | [start, cls, origin, state, claimant, bound] =>
    match anyOr cls (cls.toNat ≤ 63) (cls.setWidth 6),
          anyOr origin (1 ≤ origin.toNat ∧ origin.toNat ≤ 62) (origin.setWidth 6),
          anyOr state (state.toNat ≤ 1) (decide (state = 1)),
          anyOr claimant (1 ≤ claimant.toNat ∧ claimant.toNat ≤ 62) (claimant.setWidth 6) with
    | some c, some o, some st, some cl =>
      if start.toNat ≤ 47 ∧ bound.toNat ≤ 7 then
        some { start := start.toNat, cls := c, origin := o, claimed := st, claimant := cl,
               bound := bound.setWidth 3 }
      else none
    | _, _, _, _ => none
  | _ => none

end Sys2Proof.Machine
end

