-- ==== Sys2Proof/Machine/Flags.lean ====
section
/-! DEFINITION. What is read off the state: the offer and ATTN, the levels of LTX and SDO, and the bytes in which
replies show notices, entries and the station's standing (Section 9.6). -/

namespace Sys2Proof.Machine

/-- R105: the offered record: the most urgent AWAITING record, the oldest among equals, provided it is strictly
more urgent than every IN_SERVICE record. -/
def offerOf (held : List HeldRecord) : Option HeldRecord :=
  match pickLeast (fun r => r.priority.toNat) (held.filter fun r => r.state = .awaiting) with
  | none => none
  | some r => if held.all fun q => q.state = .inService → r.priority < q.priority then some r else none

/-- R106: the offer that the Service Unit presents. -/
def State.offer (s : State) : Option HeldRecord := offerOf s.held

/-- R180: ATTN is high exactly while a notice waits or an offer exists. -/
def State.attn (s : State) : Bool := ¬ s.notices = [] ∨ s.offer.isSome

/-- The level that this station drives on LTX in the present bit time (R57, R64): the next bit of its transmit
image while it sends one, recessive otherwise. -/
def State.ltx (s : State) : Level :=
  if s.liu.phase = .arbitrating ∨ s.liu.phase = .sending then
    match s.image with
    | some img => if img.bits.getD s.liu.txSent true then .recessive else .dominant
    | none => .recessive
  else .recessive

/-- R170, R177: the byte stream on SDO, absent while it is at high impedance: with SEL high, and from a pin reset
until the next transaction opens. -/
def State.sdo (s : State) : Option (List Byte) :=
  match s.port.transaction with
  | .closed => none
  | .opened => some s.port.shiftOut
  | .busy => some s.port.shiftOut

/-- R170: the bit on SDO after `n` falling edges of SCK in this transaction, most significant bit of each byte first;
fill bytes of 00h follow the message. -/
def State.sdoBit (s : State) (n : Nat) : Option Bool :=
  s.sdo.map fun message => (message.getD (n / 8) 0).getMsbD (n % 8)

/-- Table 9-4. -/
def ReplyCode.byte : ReplyCode → Byte
  | .ok => 0x00
  | .empty => 0x01
  | .atEnd => 0x02
  | .malformed => 0x03
  | .state => 0x04
  | .badArg => 0x05
  | .full => 0x06
  | .unknown => 0x07
  | .late => 0x08

/-- R171: the message of a pending reply: marker, echoed code, outcome, length, body. -/
def Reply.message (r : Reply) : List Byte :=
  Config.markerReply :: r.code :: r.outcome.byte :: BitVec.ofNat 8 r.body.length :: r.body

/-- Table 9-7: the code of a station state. -/
def StationState.byte : StationState → Byte
  | .config => 0
  | .listen => 1
  | .active => 2
  | .leaving => 3
  | .detached => 4
  | .mute => 5

/-- Table 9-7: the code of the last mute cause. -/
def MuteCause.byte : MuteCause → Byte
  | .noCause => 0
  | .failures => 1
  | .addressClash => 2

/-- Table 9-8. -/
def RefuseCause.byte : RefuseCause → Byte
  | .capacity => 0
  | .muted => 1

/-- Table 9-8. -/
def RevokeCause.byte : RevokeCause → Byte
  | .lapsed => 0
  | .withdrawn => 1
  | .originRestarted => 2

/-- An identity as two bytes, origin then serial (Section 9.6). -/
def Identity.bytes (id : Identity) : List Byte := [id.origin.setWidth 8, id.serial]

/-- Table 9-8, R185: a notice as its reply body, popped in the station state given. -/
def Notice.bytes (station : StationState) : Notice → List Byte
  | .finished id claimant result payload =>
      1 :: Identity.bytes id ++ [claimant.setWidth 8, result.setWidth 8] ++ payload
  | .abandoned id attempts last => 2 :: Identity.bytes id ++ [attempts.setWidth 8, last.setWidth 8]
  | .withdrawn id => 3 :: Identity.bytes id
  | .refused id cause => 4 :: Identity.bytes id ++ [cause.byte]
  | .deadline id => 5 :: Identity.bytes id
  | .revoked id cause => 6 :: Identity.bytes id ++ [cause.byte]
  | .station causes => [7, station.byte, causes]

/-- Table 9-11, byte 4: the state in bit 0, the expired mark in bit 1. -/
def Entry.stateByte (e : Entry) : Byte :=
  match e.claim with
  | some c => if c.expired then 3 else 1
  | none => 0

/-- Table 9-11, R193: an entry record. -/
def Entry.record (e : Entry) : List Byte :=
  Identity.bytes e.id ++
    [e.cls.setWidth 8, e.priority.setWidth 8, e.stateByte,
     ((e.claim.map Claim.claimant).getD 0).setWidth 8, (e.lastClaimant.getD 0).setWidth 8,
     e.attempt.setWidth 8, e.limit.setWidth 8, e.deadline, (e.claim.map Claim.remaining).getD 0]
    ++ e.payload

/-- R107: the contents of an entry as TAKE replies them (Table 9-6). -/
def Entry.takeBytes (e : Entry) : List Byte :=
  Identity.bytes e.id ++
    [e.cls.setWidth 8, e.priority.setWidth 8, e.attempt.setWidth 8, e.limit.setWidth 8, e.deadline]
    ++ e.payload

/-- R190: the body of a STATUS reply (Table 9-7). -/
def State.statusBytes (s : State) : List Byte :=
  [s.station.byte, s.address.setWidth 8, if s.liu.alone then 1 else 0, BitVec.ofNat 8 s.table.length,
   BitVec.ofNat 8 s.origin.length, BitVec.ofNat 8 s.held.length, BitVec.ofNat 8 s.queue.length,
   BitVec.ofNat 8 s.notices.length, BitVec.ofNat 8 s.liu.failures, s.ctl.muteCause.byte]

/-- R195: an entry fits a pattern. -/
def Pattern.fits (p : Pattern) (e : Entry) : Bool :=
  (p.cls = none ∨ p.cls = some e.cls) ∧ (p.origin = none ∨ p.origin = some e.id.origin)
    ∧ (p.claimed = none ∨ p.claimed = some e.claim.isSome)
    ∧ (p.claimant = none ∨ p.claimant = e.claim.map Claim.claimant) ∧ e.priority ≤ p.bound

/-- R196: the first entry that fits at or after a position, with its position; `here` is the position of the
list's first entry. -/
def findFrom (p : Pattern) (here : Nat) : List Entry → Option (Nat × Entry)
  | [] => none
  | e :: rest => if p.start ≤ here ∧ p.fits e then some (here, e) else findFrom p (here + 1) rest

end Sys2Proof.Machine
end

