-- ==== Sys2Proof/Machine/Units.lean ====
section
/-! DEFINITION. The Service Unit, the Origin Unit, the Event Table Unit's LAPSE place and the Station
Controller (Sections 1.3, 5, 6 and 7): choices, settling of records, and changes of station state. -/

namespace Sys2Proof.Machine

/-! ### Bidding (Section 5.2) and the LAPSE place (R17) -/

/-- R100: an entry is eligible for a bid from this station. -/
def State.eligible (s : State) (e : Entry) : Bool :=
  s.station = .active ∧ e.claim = none ∧ (ClassTable.entry s.config.classes e.cls).capable
    ∧ e.lastClaimant ≠ some s.address ∧ (s.held.all fun r => r.id ≠ e.id) ∧ s.held.length < s.config.slots

/-- R101: the bid choice: the eligible entry of the most urgent priority, first in table order among equals. -/
def State.bidChoice (s : State) : Option Entry :=
  pickLeast (fun e => e.priority.toNat) (s.table.filter s.eligible)

/-- R102: the BID place brought into line with the bid choice. -/
def State.remakeBid (s : State) : State :=
  match framePlaced s.queue .bid with
  | none =>
    match s.bidChoice with
    | none => s
    | some e => s.post (.bid e.id e.priority e.attempt)
  | some g =>
    if g.onLine then s
    else
      match s.bidChoice with
      | none => s.removeFrame .bid
      | some e =>
        if g.frame = .bid e.id e.priority e.attempt then s else s.post (.bid e.id e.priority e.attempt)

/-- R17: the LAPSE choice: the oldest entry whose expired mark is set. -/
def State.lapseChoice (s : State) : Option Entry := s.table.find? Entry.isExpired

/-- R17: the identity that a queued LAPSE names. -/
def Queued.lapses : Queued → Identity → Bool
  | .lapse id _ _, i => id = i
  | .raise _ _ _ _ _ _, _ => false
  | .restate _, _ => false
  | .withdraw _ _, _ => false
  | .bid _ _ _, _ => false
  | .finish _ _ _ _ _, _ => false
  | .release _ _ _, _ => false
  | .join _, _ => false

/-- R17: the LAPSE place brought into line with the LAPSE choice, while the station is ACTIVE. -/
def State.remakeLapse (s : State) : State :=
  if s.station = .active then
    match framePlaced s.queue .lapse with
    | none =>
      match s.lapseChoice with
      | none => s
      | some e => s.post (.lapse e.id e.priority e.attempt)
    | some g =>
      if g.onLine then s
      else
        match s.lapseChoice with
        | none => s.removeFrame .lapse
        | some e => if g.frame.lapses e.id then s else s.post (.lapse e.id e.priority e.attempt)
  else s

/-- R19: the re-choices that follow a taken frame. -/
def State.remakeChoices (s : State) : State := s.remakeLapse.remakeBid

/-! ### The Held List (Sections 5.1, 5.5, 5.6) -/

/-- The record of an identity; R98 allows one. -/
def State.heldRecord (s : State) (id : Identity) : Option HeldRecord := s.held.find? fun r => r.id = id

/-- A change of the record of an identity. -/
def State.setHeld (s : State) (id : Identity) (f : HeldRecord → HeldRecord) : State :=
  { s with held := s.held.map fun r => if r.id = id then f r else r }

/-- A record leaves the Held List, and its held place is freed. -/
def State.freeHeld (s : State) (id : Identity) : State := { s with held := s.held.filter fun r => ¬ r.id = id }

/-- R115: the expiry of a timer at the claimant: one DEADLINE notice for a record that is not CLOSED. -/
def State.noticeDeadline (s : State) (id : Identity) (attempt : Attempt) : State :=
  match s.heldRecord id with
  | none => s
  | some r =>
    if r.attempt = attempt ∧ r.state ≠ .closed ∧ ¬ r.deadlineNoticed then
      (s.setHeld id fun r => { r with deadlineNoticed := true, unread := r.unread + 1 }).notify (.deadline id)
    else s

/-- R111: a report that leaves a record's entry no longer CLAIMED by this station at the record's attempt closes
the record and queues a REVOKED notice. -/
def State.revoke (s : State) (id : Identity) (cause : RevokeCause) : State :=
  match s.heldRecord id with
  | none => s
  | some r =>
    if r.state ≠ .closed ∧ ¬ claimedBy s.table id s.address r.attempt then
      (s.setHeld id fun r => { r with state := .closed, unread := r.unread + 1 }).notify (.revoked id cause)
    else s

/-- R99, R119: a held record for a claim won by this station's own BID, in AWAITING, or in LEAVING in ENDING with
its RELEASE posted. -/
def State.createHeld (s : State) (id : Identity) (attempt : Attempt) : State :=
  let priority := ((findEntry s.table id).map Entry.priority).getD 0
  let leaving : Bool := s.station = .leaving
  let s := { s with
    held := s.held ++ [{ id := id, attempt := attempt, priority := priority,
                         state := if leaving then .ending else .awaiting, unread := 0,
                         deadlineNoticed := false }] }
  if leaving then s.post (.release id priority attempt) else s

/-- R110: the record of this station's own FINISH or RELEASE, at its TAKEN outcome: it leaves the list, or goes
to CLOSED while a notice of it is unread. -/
def State.settleHeld (s : State) (id : Identity) : State :=
  match s.heldRecord id with
  | none => s
  | some r => if r.unread = 0 then s.freeHeld id else s.setHeld id fun r => { r with state := .closed }

/-- R117: the pop of a held notice. -/
def State.popHeld (s : State) (id : Identity) : State :=
  let s := s.setHeld id fun r => { r with unread := r.unread - 1 }
  match s.heldRecord id with
  | none => s
  | some r => if r.state = .closed ∧ r.unread = 0 then (s.freeHeld id).remakeBid else s

/-! ### The Origin List (Sections 6.1 to 6.5) -/

/-- The identity of an event of this station (R124). -/
def State.ownId (s : State) (serial : Serial) : Identity := { origin := s.address, serial := serial }

/-- The record of a serial; R125 allows one. -/
def State.originRecord (s : State) (serial : Serial) : Option OriginRecord :=
  s.origin.find? fun r => r.serial = serial

/-- A change of the record of a serial. -/
def State.setOrigin (s : State) (serial : Serial) (f : OriginRecord → OriginRecord) : State :=
  { s with origin := s.origin.map fun r => if r.serial = serial then f r else r }

/-- R134: a record goes to CLOSED with its one final notice. -/
def State.closeOrigin (s : State) (serial : Serial) (outcome : FinalOutcome) (n : Notice) : State :=
  (s.setOrigin serial fun r => { r with state := .closed outcome, withdrawPending := false }).notify n

/-- R132: a WITHDRAW is posted for an event of this station, carrying its entry's priority. -/
def State.postWithdraw (s : State) (serial : Serial) : State :=
  s.post (.withdraw (s.ownId serial) (((findEntry s.table (s.ownId serial)).map Entry.priority).getD 0))

/-- R132: a LIVE record goes to WITHDRAWING, and its WITHDRAW is posted. -/
def State.beginWithdraw (s : State) (serial : Serial) : State :=
  (s.setOrigin serial fun r => { r with state := .withdrawing, withdrawPending := false }).postWithdraw serial

/-- The WITHDRAW kind of queued frame. -/
def Queued.isWithdraw : Queued → Bool
  | .withdraw _ _ => true
  | .raise _ _ _ _ _ _ => false
  | .restate _ => false
  | .bid _ _ _ => false
  | .lapse _ _ _ => false
  | .finish _ _ _ _ _ => false
  | .release _ _ _ => false
  | .join _ => false

/-- R133: a removal report of a mine entry closes its LIVE or WITHDRAWING record with the final notice given, and
a WITHDRAW in its place that is not on the Line is removed. -/
def State.originRemoved (s : State) (id : Identity) (outcome : FinalOutcome) (n : Notice) : State :=
  match s.originRecord id.serial with
  | none => s
  | some r =>
    if r.state = .live ∨ r.state = .withdrawing then
      { s with queue := s.queue.filter fun f =>
          ¬ (f.frame.place = Place.identity id ∧ f.frame.isWithdraw ∧ ¬ f.onLine) }.closeOrigin id.serial outcome n
    else s

/-- R42: the restatement duty: a RESTATE for each LIVE record whose identity place is empty, in Origin List
order. -/
def State.restateAll (s : State) : State :=
  s.origin.foldl
    (fun s r =>
      if r.state = .live ∧ framePlaced s.queue (.identity (s.ownId r.serial)) = none then
        s.post (.restate (s.ownId r.serial))
      else s) s

/-- R136: the pop of a final notice: the CLOSED record of its serial leaves the list. -/
def State.popOrigin (s : State) (serial : Serial) : State :=
  { s with origin := s.origin.filter fun r => ¬ r.serial = serial }

/-! ### Reports (R20, R21) -/

/-- Whether a report concerns the record that this station's own taken FINISH or RELEASE settles (R110). -/
def settlesOwn (transmitter : Bool) (f : Frame) (id : Identity) : Bool :=
  match f.body with
  | .finish _ => transmitter ∧ f.head.id = id
  | .release _ => transmitter ∧ f.head.id = id
  | .raise _ _ _ => false
  | .bid => false
  | .lapse => false
  | .withdraw => false
  | .join _ => false
  | .restate _ _ _ _ _ _ => false

/-- R20, R133: a removal report at the Origin Unit, for an entry that is mine. A removal by a fresh JOIN is not
reported to it. -/
def State.reportOrigin (s : State) (id : Identity) (cause : RemovalCause) : State :=
  if id.origin = s.address then
    match cause with
    | .finished claimant result payload =>
        s.originRemoved id .finished (.finished id claimant result payload)
    | .abandoned attempts last => s.originRemoved id .abandoned (.abandoned id attempts last)
    | .withdrawn => s.originRemoved id .withdrawn (.withdrawn id)
    | .originRestarted => s
  else s

/-- Table 5-4: the REVOKED cause of a removal. -/
def RemovalCause.revokeCause : RemovalCause → RevokeCause
  | .finished _ _ _ => .lapsed
  | .abandoned _ _ => .lapsed
  | .withdrawn => .withdrawn
  | .originRestarted => .originRestarted

/-- R19, R183: one report of a taken frame: first to the Origin Unit, then to the Service Unit. -/
def State.deliver (transmitter : Bool) (f : Frame) (s : State) : Report → State
  | .removed id _ cause =>
    let s := s.reportOrigin id cause
    if settlesOwn transmitter f id then s else s.revoke id cause.revokeCause
  | .claimed id claimant attempt =>
    if transmitter ∧ claimant = s.address then s.createHeld id attempt else s
  | .reopened id _ _ _ => if settlesOwn transmitter f id then s else s.revoke id .lapsed
  | .updated id _ _ => s.revoke id .lapsed
  | .inserted _ _ => s
  | .expired id attempt => s.noticeDeadline id attempt

/-- R115, R183: the reports of a deadline tick are expiries at the claimant. -/
def State.deliverExpiry (s : State) : Report → State
  | .expired id attempt => s.noticeDeadline id attempt
  | .removed _ _ _ => s
  | .claimed _ _ _ => s
  | .reopened _ _ _ _ => s
  | .updated _ _ _ => s
  | .inserted _ _ => s

/-! ### Changes of station state (Section 7) -/

/-- R143, R61: entry to LISTEN, keeping the line phase. -/
def State.enterListen (s : State) : State :=
  { s with
    ctl := { s.ctl with state := .listen, joinStage := some .idleWait, draining := false }
    liu := { s.liu with startUpIdle := 0 } }

/-- R148: entry to ACTIVE. -/
def State.enterActive (s : State) : State :=
  ({ s with ctl := { s.ctl with state := .active, joinStage := none } }.raiseCause .joined).remakeBid.remakeLapse

/-- R138: the QUEUED records at entry to MUTE close with REFUSED (MUTED), in Origin List order. -/
def State.refuseQueued (s : State) : State :=
  s.origin.foldl
    (fun s r =>
      if r.state = .queued then s.closeOrigin r.serial .refused (.refused (s.ownId r.serial) .muted) else s) s

/-- R93, R138: on entry to MUTE every frame is purged, and the QUEUED records close. -/
def State.mutePurge (s : State) : State := { s with queue := [], image := none }.refuseQueued

/-- R154: entry to MUTE, less its causes. -/
def State.toMute (s : State) (cause : MuteCause) : State :=
  { s with ctl := { s.ctl with state := .mute, joinStage := none, draining := false, muteCause := cause } }

/-- R154: entry to MUTE at a failure count of 8, from LISTEN, ACTIVE or LEAVING. -/
def State.muteFailures (s : State) : State :=
  if s.takesPosts ∧ s.liu.failures = Config.failureLimit then
    ((s.toMute .failures).raiseCause .muted).mutePurge
  else s

/-- R155: an address clash. -/
def State.addressClash (s : State) : State :=
  if s.station = .mute then
    { s with ctl := { s.ctl with muteCause := .addressClash } }.raiseCause .addressClash
  else (((s.toMute .addressClash).raiseCause .muted).raiseCause .addressClash).mutePurge

/-- Table 6-2, R137: a record that is QUEUED, LIVE or WITHDRAWING. -/
def OriginRecord.unsettled (r : OriginRecord) : Bool :=
  match r.state with
  | .queued => true
  | .live => true
  | .withdrawing => true
  | .closed _ => false

/-- R151: the leave drain's completion condition. -/
def State.drainComplete (s : State) : Bool :=
  (s.origin.all fun r => ¬ r.unsettled) ∧ (s.held.all fun r => r.state = .closed) ∧ s.queue = [] ∧ s.image = none

/-- R152, R24, R76: entry to DETACHED. -/
def State.enterDetached (s : State) : State :=
  { s with
    ctl := { s.ctl with state := .detached, draining := false }
    table := []
    liu := s.liu.hold }.raiseCause .detached

/-- R151: the test of the leave drain. -/
def State.testDrain (s : State) : State :=
  if s.station = .leaving ∧ s.ctl.draining ∧ s.drainComplete then s.enterDetached else s

/-- R118: the Service Unit at entry to LEAVING. -/
def State.releaseAwaiting (s : State) : State :=
  s.held.foldl
    (fun s r =>
      if r.state = .awaiting then
        (s.post (.release r.id r.priority r.attempt)).setHeld r.id fun r => { r with state := .ending }
      else s) s

/-- R137: the Origin Unit at entry to LEAVING, one record. -/
def State.leaveRecord (s : State) (r : OriginRecord) : State :=
  match r.state with
  | .queued =>
    match framePlaced s.queue (.identity (s.ownId r.serial)) with
    | some g =>
      if g.onLine then s.setOrigin r.serial fun r => { r with withdrawPending := true }
      else
        (s.removeFrame (.identity (s.ownId r.serial))).closeOrigin r.serial .withdrawn
          (.withdrawn (s.ownId r.serial))
    | none => s.closeOrigin r.serial .withdrawn (.withdrawn (s.ownId r.serial))
  | .live => s.beginWithdraw r.serial
  | .withdrawing => s
  | .closed _ => s

/-- R150, R94, R118, R137: entry to LEAVING. -/
def State.enterLeaving (s : State) : State :=
  let s := { s with ctl := { s.ctl with state := .leaving, draining := true } }
  let s := ((s.removeFrame .bid).removeFrame .lapse).releaseAwaiting
  (s.origin.foldl State.leaveRecord s).testDrain

/-- R138: the WITHDRAWs owed at REJOIN from MUTE, for WITHDRAWING records with empty places. -/
def State.repostWithdraws (s : State) : State :=
  s.origin.foldl
    (fun s r =>
      if r.state = .withdrawing ∧ framePlaced s.queue (.identity (s.ownId r.serial)) = none then
        s.postWithdraw r.serial
      else s) s

/-- R158, R176: the restart proceeds, as one change. -/
def State.restartNow (s : State) : State :=
  let liu := { s.liu with failures := 0, alone := false }
  let liu := if s.station = .detached then liu.release else { liu with startUpIdle := 0 }
  { s with
    ctl := { s.ctl with state := .listen, freshOwed := true, joinStage := some .idleWait, draining := false,
                        restartWaiting := false }
    liu := liu
    table := [], queue := [], image := none, held := [], origin := [], serialCounter := 0
    notices := [.station (StationCause.bit .restarted)]
    port := { s.port with pendingReply := some { code := 0x0F, outcome := .ok, body := [] },
                          processing := none, restartClose := true } }

/-- R143: the start-up idle count has reached 16: in join stage IDLE_WAIT the JOIN is posted. -/
def State.startUpReached (s : State) : State :=
  if s.ctl.joinStage = some .idleWait then
    { s with ctl := { s.ctl with joinStage := some .joinSending } }.post (.join s.ctl.freshOwed)
  else s

/-- R147: the Line has been idle for 32 bit times after a frame: in join stage WINDOW the station enters
ACTIVE. -/
def State.idleReached (s : State) : State :=
  if s.station = .listen ∧ s.ctl.joinStage = some .window then s.enterActive else s

/-- R146: the TAKEN outcome of this station's own JOIN. -/
def State.joinTaken (s : State) (fresh : Bool) (accept : Level) : State :=
  let s := if fresh then { s with ctl := { s.ctl with freshOwed := false } } else s
  match accept with
  | .recessive => s.enterActive
  | .dominant => { s with ctl := { s.ctl with joinStage := some .window } }

end Sys2Proof.Machine
end

