-- ==== Sys2Proof/Machine/Outcomes.lean ====
section
/-! DEFINITION. The outcomes of an own frame (R70, R89 to R92): what its poster does, and the end of an own frame that
is not taken. -/

namespace Sys2Proof.Machine

/-! ### Outcomes told to the poster (Section 4.5) -/

/-- R89: the poster's action at a TAKEN outcome. -/
def State.toldTaken (s : State) (accept : Level) : Queued → State
  | .raise id _ _ _ _ _ =>
    match s.originRecord id.serial with
    | none => s
    | some r =>
      if r.withdrawPending then s.beginWithdraw id.serial
      else s.setOrigin id.serial fun r => { r with state := .live }
  | .restate id =>
    match s.originRecord id.serial with
    | none => s
    | some r => if r.state = .withdrawing then s.postWithdraw id.serial else s
  | .withdraw _ _ => s
  | .bid _ _ _ => s.remakeBid
  | .lapse _ _ _ => s.remakeLapse
  | .finish id _ _ _ _ => (s.settleHeld id).remakeBid
  | .release id _ _ => (s.settleHeld id).remakeBid
  | .join fresh => s.joinTaken fresh accept

/-- R131, Table 6-6: the record of a RAISE with withdraw-pending set, whose RAISE was not taken, closes with
WITHDRAWN; a RAISE still in its place is removed. -/
def State.closeWithdrawn (s : State) (id : Identity) : State :=
  (s.removeFrame (.identity id)).closeOrigin id.serial .withdrawn (.withdrawn id)

/-- R90: the poster's action at a REFUSED outcome, which only a RAISE or a RESTATE has. -/
def State.toldRefused (s : State) : Queued → State
  | .raise id _ _ _ _ _ =>
    match s.originRecord id.serial with
    | none => s
    | some r =>
      if r.withdrawPending then s.closeWithdrawn id
      else s.closeOrigin id.serial .refused (.refused id .capacity)
  | .restate id =>
    match s.originRecord id.serial with
    | none => s
    | some r => if r.state = .withdrawing then s.postWithdraw id.serial else s
  | .withdraw _ _ => s
  | .bid _ _ _ => s
  | .lapse _ _ _ => s
  | .finish _ _ _ _ _ => s
  | .release _ _ _ => s
  | .join _ => s

/-- R91, R92: the poster's action at a CORRUPTED or LOST outcome. The own BID's outcome has the bid choice re-made, and
the own LAPSE's the LAPSE choice (R101, R17); in LEAVING a BID or LAPSE is removed (R94). -/
def State.toldKept (s : State) : Queued → State
  | .raise id _ _ _ _ _ =>
    match s.originRecord id.serial with
    | none => s
    | some r => if r.withdrawPending then s.closeWithdrawn id else s
  | .restate id =>
    match s.originRecord id.serial with
    | none => s
    | some r => if r.state = .withdrawing then s.postWithdraw id.serial else s
  | .withdraw _ _ => s
  | .bid _ _ _ => if s.station = .leaving then s.removeFrame .bid else s.remakeBid
  | .lapse _ _ _ => if s.station = .leaving then s.removeFrame .lapse else s.remakeLapse
  | .finish _ _ _ _ _ => s
  | .release _ _ _ => s
  | .join _ => s

/-- R89 to R92: an outcome acts on the frame on the Line in its place, and its poster is told. -/
def State.reportOutcome (s : State) (o : FrameOutcome) (accept : Level) : State :=
  match s.frameOnLine with
  | none => { s with image := none }
  | some q =>
    match o with
    | .taken => s.dropFrame.toldTaken accept q.frame
    | .refused => s.dropFrame.toldRefused q.frame
    | .corrupted => s.keepFrame.toldKept q.frame
    | .lost => s.keepFrame.toldKept q.frame

/-! ### The end of an own frame -/

/-- R149: a change of the Alone flag is told to the Station Controller. -/
def State.tellAlone (s : State) (before : Bool) : State :=
  if s.liu.alone = before then s
  else if s.liu.alone then s.raiseCause .alone else s.raiseCause .peered

/-- R70, R72: the failure count after an outcome that is not TAKEN. -/
def Liu.outcome (l : Liu) : FrameOutcome → Liu
  | .taken => { l with failures := 0 }
  | .refused => { l with failures := 0, alone := false }
  | .corrupted => { l with failures := min (l.failures + 1) Config.failureLimit }
  | .lost => l

/-- R71, R154: the end of an own frame that is not taken, after the LIU has left its slots: the outcome is
reported, then changes of the Alone flag and a failure count of 8 are told. A waiting restart proceeds
instead (R157). In LEAVING one CORRUPTED outcome may both bring the count to 8 and settle the last record of the drain:
the count is told before the drain is tested, so that the station enters MUTE (DEDUCED, log entry 29). -/
def State.ownEnds (s : State) (o : FrameOutcome) (accept : Level) : State :=
  let before := s.liu.alone
  let s := { s with liu := s.liu.outcome o }
  if s.ctl.restartWaiting then s.restartNow
  else (((s.reportOutcome o accept).tellAlone before).muteFailures).testDrain

/-- R63, R92: arbitration is lost to a dominant sample: the LIU receives the frame that continues, and the outcome LOST
is reported at once. -/
def State.loseArbitration (s : State) : State :=
  { s with liu := { s.liu.sample false with phase := .receiving, txSent := 0 } }.ownEnds .lost .recessive

end Sys2Proof.Machine
end

