-- ==== Sys2Proof/Machine/Samples.lean ====
section
/-! DEFINITION. What one sample of the Line does at a station that is not sending: the counts and what they bring about
at their thresholds, start edges, and a stuck Line (R60 to R62, R74, R75). -/

namespace Sys2Proof.Machine

/-! ### Dominant samples -/

/-- R74: the LIU at the detection of a stuck Line. -/
def Liu.stick (l : Liu) : Liu :=
  { l with
    phase := .recovering, recessive := 0, idle := 0, dominant := Config.stuckSamples
    startUpIdle := if l.startUpIdle = Config.startUpSamples then l.startUpIdle else 0
    firstSpacing := false, txSent := 0 }

/-- R74: an own frame on the Line ends CORRUPTED at a stuck Line, before LINE_FAULT is raised. -/
def State.stuckFrame (s : State) : State :=
  if s.image.isSome then
    let s := { s with liu := s.liu.outcome .corrupted }
    if s.ctl.restartWaiting then s else s.reportOutcome .corrupted .recessive
  else s

/-- R74: the Line is stuck. In RECOVERING no second stuck Line is counted (R75). A failure count of 8 is told before the
drain of R151 is tested (DEDUCED, log entry 29). -/
def State.stuckLine (s : State) : State :=
  if s.liuHeld ∨ s.liu.phase = .recovering then s
  else
    let s := ({ s with liu := s.liu.stick }.stuckFrame).raiseCause .lineFault
    if s.ctl.restartWaiting then s.restartNow else s.muteFailures.testDrain

/-- R74: one sample, whose dominant level may bring the count of dominant samples to 12. -/
def State.sampleLine (s : State) (bit : Bool) : State :=
  let s := { s with liu := s.liu.sample bit }
  if s.liu.phase ≠ .recovering ∧ s.liu.dominant = Config.stuckSamples then s.stuckLine else s

/-- R60 to R62: a dominant sample at a station that sends nothing. At a start edge the station joins when it is ready,
and receives when it is not; at any other time only the counts change. -/
def State.dominantSample (s : State) : State :=
  if s.liu.seesStartEdge then
    if s.readyToStart then s.startFrame
    else { s with liu := { s.liu.atEdge.sample false with phase := .receiving } }
  else s.sampleLine false

/-! ### Recessive samples -/

/-- R60: the LIU at the end of the spacing. -/
def Liu.spaced (l : Liu) : Liu :=
  { l with
    phase := .idle, recessive := max l.recessive Config.spacingSamples, dominant := 0
    idle := max l.idle Config.spacingSamples, firstSpacing := false }

/-- R60: the spacing is complete. -/
def State.spacingComplete (s : State) : State :=
  if ¬ s.liuHeld ∧ s.liu.phase = .spacing then { s with liu := s.liu.spaced } else s

/-- R75: the LIU at the end of a recovery. -/
def Liu.recover (l : Liu) : Liu :=
  { l with
    phase := .idle, recessive := Config.recoverySamples, dominant := 0
    idle := max l.idle Config.recoverySamples, startUpIdle := Config.startUpSamples }

/-- R75, R143: a recovery is complete. -/
def State.recoveryComplete (s : State) : State :=
  if ¬ s.liuHeld ∧ s.liu.phase = .recovering then { s with liu := s.liu.recover }.startUpReached else s

/-- R60, R61, R75: one recessive sample outside any frame, with what the counts bring about at their
thresholds. -/
def State.quietSample (s : State) : State :=
  let before := s.liu
  let s := { s with liu := s.liu.sample true }
  let s := if s.liu.phase = .spacing ∧ Config.spacingSamples ≤ s.liu.recessive then s.spacingComplete else s
  let s :=
    if s.liu.phase = .recovering ∧ Config.recoverySamples ≤ s.liu.recessive then s.recoveryComplete
    else if before.startUpIdle < Config.startUpSamples ∧ s.liu.startUpIdle = Config.startUpSamples then
      s.startUpReached
    else s
  if before.idle < Config.idleSamples ∧ s.liu.idle = Config.idleSamples then s.idleReached else s

/-! ### Rows of samples -/

/-- One sample at a station that sends nothing. A held LIU samples nothing (R76); a station that sends has the samples
of its own frame. -/
def State.hear (s : State) (bit : Bool) : State :=
  if s.liuHeld ∨ s.image.isSome then s else if bit then s.quietSample else s.dominantSample

/-- A row of samples at a station that sends nothing. -/
def State.watch (s : State) (bits : List Bool) : State := bits.foldl State.hear s

/-- R60: a recessive-to-dominant edge of another station. -/
def State.edge (s : State) : State :=
  if s.liuHeld ∨ s.image.isSome then s else { s with liu := s.liu.atEdge }.dominantSample

/-- R74: a row of samples holds twelve dominant ones in succession; `run` dominant samples precede it. -/
def holdsStuck (run : Nat) : List Bool → Bool
  | [] => run = Config.stuckSamples
  | b :: rest => run = Config.stuckSamples ∨ holdsStuck (if b then 0 else run + 1) rest

end Sys2Proof.Machine
end

