-- ==== Sys2Proof/Machine/Taken.lean ====
section
/-! DEFINITION. The end of a frame at this station: the handling of a taken frame in the order of R19 and R71, the end
of an own frame that is objected to, and the peer's frame that is taken nowhere. -/

namespace Sys2Proof.Machine

/-! ### Taken frames (R19, R71) -/

/-- R71, R73: the failure count and the Alone flag after a taken frame. -/
def Liu.frameTaken (l : Liu) (me : Address) (transmitter : Bool) (f : Frame) (accept : Level) : Liu :=
  if transmitter then { l with failures := 0, alone := accept = .recessive }
  else if f.head.sender = me then l
  else { l with alone := false }

/-- R42: an applied JOIN gives a restatement duty in LISTEN, ACTIVE and LEAVING. -/
def State.restatementDuty (s : State) (f : Frame) (applied : Bool) : State :=
  match f.body with
  | .join _ => if applied ∧ s.takesPosts then s.restateAll else s
  | .raise _ _ _ => s
  | .bid => s
  | .finish _ => s
  | .release _ => s
  | .lapse => s
  | .withdraw => s
  | .restate _ _ _ _ _ _ => s

/-- R19: the Event Table Unit's handling of a taken frame: application, reports, restatement duty, supersession
purge, re-choices. -/
def State.handleTaken (s : State) (transmitter : Bool) (f : Frame) : State :=
  let applied := applyFrame s.address transmitter s.table f
  let s' := applied.reports.foldl (State.deliver transmitter f) { s with table := applied.table }
  ((s'.restatementDuty f (applies s.address transmitter s.table f)).purge).remakeChoices

/-- R71: this station's own frame is taken. -/
def State.ownTaken (s : State) (f : Frame) (accept : Level) : State :=
  let before := s.liu.alone
  let liu := (s.liu.endFrame (f.wireBits ++ [accept.bit, true]) false false false).frameTaken
    s.address true f accept
  let s := { s with liu := liu }.handleTaken true f
  if s.ctl.restartWaiting then s.restartNow
  else ((s.reportOutcome .taken accept).tellAlone before).testDrain

/-- R71, R49: a peer's frame is taken at this station, which drove ACCEPT for it (R66). -/
def State.peerTaken (s : State) (f : Frame) : State :=
  let before := s.liu.alone
  let liu := (s.liu.atEdge.endFrame (f.wireBits ++ [false, true]) true false false).frameTaken
    s.address false f .dominant
  let s := ({ s with liu := liu }.handleTaken false f).tellAlone before
  if f.head.sender = s.address then s.addressClash else s.testDrain

/-! ### Frames that are not taken -/

/-- R70, Table 3-7: the outcome of a frame whose OBJECT slot was dominant, by its kind and the ACCEPT level. -/
def objectedOutcome (b : Body) (accept : Level) : FrameOutcome :=
  match accept, b with
  | .dominant, .raise _ _ _ => .refused
  | .dominant, .restate _ _ _ _ _ _ => .refused
  | .dominant, .bid => .corrupted
  | .dominant, .finish _ => .corrupted
  | .dominant, .release _ => .corrupted
  | .dominant, .lapse => .corrupted
  | .dominant, .withdraw => .corrupted
  | .dominant, .join _ => .corrupted
  | .recessive, _ => .corrupted

/-- R70: an own frame whose OBJECT slot is dominant; `own` when this station drove it, by R3. -/
def State.ownObjected (s : State) (f : Frame) (accept : Level) (own : Bool) : State :=
  { s with liu := s.liu.endFrame (f.wireBits ++ [accept.bit, false]) false own false }.ownEnds
    (objectedOutcome f.body accept) accept

/-- R68: an objection run, after which the LIU enters SPACING. It follows a recessive sample, so that its eight dominant
bits are no stuck Line (R74). -/
def State.objectionRun (s : State) : State := { s with liu := s.liu.endFrame runBits false false true }

/-- R64, R68, R70: an own frame that ends in the transmitter's own objection run. -/
def State.ownRun (s : State) : State := s.objectionRun.ownEnds .corrupted .recessive

/-- R66: the LIU at the ACCEPT slot, which it drives as given. R60: the idle count is 0 at entry to SLOTS. -/
def Liu.atAccept (l : Liu) (own : Bool) : Liu :=
  { l with phase := .slots, idle := 0, droveAccept := own, droveObject := false, droveRun := false }

/-- R67: the LIU at the OBJECT slot, which it drives as given. -/
def Liu.atObject (l : Liu) (own : Bool) : Liu := { l with droveObject := own }

/-- R67, R74: the dominant OBJECT slot of a peer's frame, at whose end the LIU enters SPACING unless the Line is stuck. -/
def State.objectSlot (s : State) (ownAccept ownObject : Bool) : State :=
  let s := { s with liu := s.liu.atObject ownObject }.sampleLine false
  if s.liu.phase ≠ .slots then s else { s with liu := s.liu.endFrame [] ownAccept ownObject false }

/-- R66, R67, R71: the slots of a peer's frame whose OBJECT slot is dominant, at a station that drives the slots given;
nothing but the LIU changes. R74: the dominant samples of the slots count on from those of the span, and the twelfth in
succession is a stuck Line, at which the station drives no slot that is to come. -/
def State.objectedSlots (s : State) (accept : Level) (ownAccept ownObject : Bool) : State :=
  let s := { s with liu := s.liu.atAccept ownAccept }.sampleLine accept.bit
  if s.liu.phase ≠ .slots then s else s.objectSlot ownAccept ownObject

/-- R66 to R68: the end of a peer's frame that is taken nowhere, after its span, by what this station found in it. A
station that found no error drives ACCEPT, and drives OBJECT when it cannot store the entry (R3). -/
def State.peerNowhere (s : State) (accept : Level) : Verdict → State
  | .placeLost => s.objectionRun
  | .placeKept => s.objectedSlots accept false true
  | .clean f => s.objectedSlots .dominant true (storageObjects s.address false s.table f)

/-- The samples of a peer's whole span, from its start edge on. In a frame as sent no seven bits in a row are equal, so
that no count reaches a threshold, in the span or in the slots after it. -/
def State.span (s : State) (f : Frame) : State := { s with liu := s.liu.atEdge.sampleAll f.wireBits }

/-- A frame reaches its slots at this station as transmitter, with no other station objecting. R67: the
transmitter too objects to its own RAISE when it cannot store the entry. -/
def State.ownFrame (s : State) (f : Frame) (accept : Level) : State :=
  if storageObjects s.address true s.table f then s.ownObjected f accept true else s.ownTaken f accept

/-- A peer's frame reaches its slots at this station, with no other station objecting: a format error or the
storage test makes this station object, and the frame is then taken nowhere; otherwise it is taken. -/
def State.peerFrame (s : State) (f : Frame) (accept : Level) : State :=
  match f.formatVerdict with
  | .placeLost => (s.span f).peerNowhere accept .placeLost
  | .placeKept => (s.span f).peerNowhere accept .placeKept
  | .clean g =>
    if storageObjects s.address false s.table g then (s.span g).peerNowhere accept (.clean g)
    else s.peerTaken g

/-! ### The frame on the Line -/

/-- R62: the start edge of a peer's whole frame: a station that is ready joins it. -/
def State.joins (s : State) : State := if s.liu.seesStartEdge ∧ s.readyToStart then s.startFrame else s

/-- R62, R63: this station's contention with a peer's whole frame that another station goes on to end: a station that
joined it at its start edge has lost arbitration to it (log entry 9). -/
def State.meets (s : State) : State :=
  if s.liu.seesStartEdge ∧ s.readyToStart then s.startFrame.loseArbitration else s

/-- R25, R26, R62, R63: a frame reaches its slots on the Line, with no other station objecting. With an own frame on the
Line, this station is the transmitter of that frame, or has lost arbitration to the frame of a lower arbitration field,
and receives it; a frame of neither kind cannot be on the Line (log entry 8). Without one, the frame is a peer's, handled
when the LIU received it from its start bit, and only sampled when it did not. -/
def State.frame (s : State) (f : Frame) (accept : Level) : State :=
  if s.liuHeld then s
  else
    let s := s.joins
    match s.image with
    | some img =>
      if img.frame = f then s.ownFrame f accept
      else if s.liu.phase = .arbitrating ∧ f.arbitrationField < img.frame.arbitrationField then
        let s := s.loseArbitration
        if s.liuHeld then s else s.peerFrame f accept
      else s
    | none =>
      if s.liu.receivesFrame then s.peerFrame f accept else s.watch (f.wireBits ++ [accept.bit, true])

end Sys2Proof.Machine
end

