-- ==== Sys2Proof/Machine/LineEvents.lean ====
section
/-! DEFINITION. The other events of the Line (Section 3) and the station's answers to them (Section 7). -/

namespace Sys2Proof.Machine

/-- R62: a station that is ready starts alone while its LIU is in IDLE. -/
def State.startAlone (s : State) : State :=
  if ¬ s.liuHeld ∧ s.liu.phase = .idle ∧ s.readyToStart then s.startFrame else s

/-- FRAME_START (R62). An edge that starts no frame at this station, before the seventh recessive sample of the spacing
(R60) or in the first spacing after a release (R76), is only sampled. -/
def execFrameStart (edge : StartEdge) (s : State) : Host.Outcome State Fault Refusal :=
  .next
    (match edge with
     | .alone => s.startAlone
     | .peerEdge => s.edge)

/-- FRAME_REFUSED at a receiver: a peer's frame ends with OBJECT and ACCEPT dominant, and is taken nowhere. A station
that did not receive it from its start bit only samples its slots (R26). The command carries no bits of the span: only the
two slots are sampled, on from the count of dominant samples that the LIU holds (DEDUCED, log entry 25). -/
def State.peerRefused (s : State) : State :=
  if s.liu.receivesFrame then
    let s := s.meets
    if s.liuHeld then s else s.objectedSlots .dominant true false
  else s.watch [false, false]

/-- FRAME_REFUSED (R90): a frame ends with OBJECT and ACCEPT both dominant. At its transmitter the outcome is
REFUSED for a RAISE or RESTATE (Table 3-7); at a receiver that found nothing wrong the frame is taken nowhere. -/
def execFrameRefused (s : State) : Host.Outcome State Fault Refusal :=
  .next
    (if s.liuHeld then s
     else
       match s.image with
       | some img => s.ownObjected img.frame .dominant (storageObjects s.address true s.table img.frame)
       | none => s.peerRefused)

/-- FRAME_CORRUPTED (R91): an own frame ends objected to, or in this station's objection run. -/
def execFrameCorrupted (ending : Ending) (s : State) : Host.Outcome State Fault Refusal :=
  .next
    (match s.image with
     | none => s
     | some img =>
       match ending with
       | .objected accept =>
         s.ownObjected img.frame accept (storageObjects s.address true s.table img.frame)
       | .objectionRun => s.ownRun)

/-- ARBITRATION_LOST (R63, R92): the frame stays in its place, no longer on the Line, and the LIU receives the
frame that continues. A waiting restart proceeds at this moment (R157). -/
def execArbitrationLost (s : State) : Host.Outcome State Fault Refusal :=
  .next (if s.liu.phase = .arbitrating ∧ s.image.isSome then s.loseArbitration else s)

/-- STUCK_LINE (R74). -/
def execStuckLine (s : State) : Host.Outcome State Fault Refusal := .next s.stuckLine

/-- RECOVERY_COMPLETE (R75). -/
def execRecoveryComplete (s : State) : Host.Outcome State Fault Refusal := .next s.recoveryComplete

/-- SPACING_COMPLETE (R60). -/
def execSpacingComplete (s : State) : Host.Outcome State Fault Refusal := .next s.spacingComplete

/-- R61: no frame is in progress at this station, so that a row of recessive samples can be counted. -/
def Liu.quiet (l : Liu) : Bool := l.phase = .idle ∨ l.phase = .spacing ∨ l.phase = .recovering

/-- START_UP_IDLE (R143): the start-up idle count reaches 16. Sixteen recessive samples include a complete
spacing (R61). -/
def execStartUpIdle (s : State) : Host.Outcome State Fault Refusal :=
  .next
    (if ¬ s.liuHeld ∧ s.liu.quiet then
       let s := s.spacingComplete
       { s with liu := { s.liu with startUpIdle := Config.startUpSamples, dominant := 0 } }.startUpReached
     else s)

/-- JOIN_WINDOW_END (R147): the idle count reaches 32, and its report ends the join window. Thirty-two recessive
samples include a complete spacing. -/
def execJoinWindowEnd (s : State) : Host.Outcome State Fault Refusal :=
  .next
    (if ¬ s.liuHeld ∧ s.liu.quiet then
       let s := s.spacingComplete
       { s with liu := { s.liu with idle := Config.idleSamples, dominant := 0 } }.idleReached
     else s)

/-- LEAVE_DRAIN_COMPLETE (R151): the completion condition of a running drain is tested on the present state. -/
def execLeaveDrainComplete (s : State) : Host.Outcome State Fault Refusal := .next s.testDrain

/-- A peer's frame that this station receives from its start bit and that ends without being taken: the bits of its span
are sampled, and its slots are answered as they require, unless the Line was stuck in the span (R74). -/
def State.spanNowhere (s : State) (bits : List Bool) (accept : Level) : State :=
  let s := { s with liu := { s.liu.atEdge with phase := .receiving } }.watch bits
  if holdsStuck 0 bits then s else s.peerNowhere accept (receive bits)

/-- FRAME_TAKEN_NOWHERE (R71): a peer's frame that ends at this receiver without being taken. With an own frame on
the Line there is no peer's frame to end; a frame not received from its start bit is only sampled (R26). -/
def execFrameTakenNowhere (bits : List Bool) (accept : Level) (s : State) : Host.Outcome State Fault Refusal :=
  .next
    (if s.liuHeld ∨ s.image.isSome then s
     else if s.liu.receivesFrame then
       let s := s.meets
       if s.liuHeld then s else s.spanNowhere bits accept
     else s.watch (bits ++ [accept.bit, false]))

end Sys2Proof.Machine
end

