-- ==== Sys2Proof/Machine/Timers.lean ====
section
/-! DEFINITION. The commands of the deadline timers (Section 1.3). -/

namespace Sys2Proof.Machine

/-- R11, R13, R183: a deadline tick: every timer above 0 is decreased by 1, and the expiry rules are applied to each
that reaches 0, in table order; then the LAPSE choice is re-made (R17). -/
def State.deadlineTick (s : State) : State :=
  let ticked := tickTable s.address s.table
  (ticked.reports.foldl State.deliverExpiry { s with table := ticked.table, divider := 0 }).remakeLapse

/-- R15, R16: the timer of one CLAIMED entry runs out. -/
def State.runOutAt (s : State) (id : Identity) : State :=
  { s with table := updateEntry s.table id (Entry.runOut s.address) }

/-- DEADLINE_TICK (R11): the tick runs from the end of pin reset on. -/
def execDeadlineTick (s : State) : Host.Outcome State Fault Refusal :=
  .next (if s.inReset then s else s.deadlineTick)

/-- CLAIMANT_EXPIRY (R15): the timer of an entry claimed by this station runs out. -/
def execClaimantExpiry (id : Identity) (s : State) : Host.Outcome State Fault Refusal :=
  .next
    (match findEntry s.table id with
     | none => s
     | some e =>
       if e.claim.map Claim.claimant = some s.address then (s.runOutAt id).noticeDeadline id e.attempt else s)

/-- EXPIRED_MARK (R16): the timer of an entry claimed by another station runs out. -/
def execExpiredMark (id : Identity) (s : State) : Host.Outcome State Fault Refusal :=
  .next
    (match findEntry s.table id with
     | none => s
     | some e =>
       if e.claim.isSome ∧ e.claim.map Claim.claimant ≠ some s.address then (s.runOutAt id).remakeLapse else s)

end Sys2Proof.Machine
end

