-- ==== Sys2Proof/Machine/BitTime.lean ====
section
/-! DEFINITION. What passes while no command waits: one bit time of the Line in which nothing of
spec/opcode_table.json is commanded (R51, R52, R60 to R62, R75). The Line is recessive, unless this station itself
sends; an own frame goes on unopposed; a peer's frame that is being received goes on. -/

namespace Sys2Proof.Machine

/-- R11, R51: CLK passes for one bit time, and a deadline tick falls when 160,000 periods have passed. -/
def State.advanceClock (s : State) : State :=
  let d := s.divider + Config.clkPerBit s.config.rate
  if Config.clkPerTick ≤ d then { s.deadlineTick with divider := d - Config.clkPerTick }
  else { s with divider := d }

/-- R53: the phase of a transmitter that has sent `sent` bits of its transmit image. -/
def sendingPhase (img : TransmitImage) (sent : Nat) : LinePhase :=
  if sent < img.frame.arbitrationLength then .arbitrating
  else if sent < img.bits.length then .sending
  else .slots

/-- R53, R57: the LIU once it has sent `sent` bits of its transmit image. R60: the idle count is 0 at entry to SLOTS. -/
def Liu.sent (l : Liu) (img : TransmitImage) (sent : Nat) : Liu :=
  { l with
    phase := sendingPhase img sent, txSent := sent
    idle := if sendingPhase img sent = .slots then 0 else l.idle }

/-- R57, R64: this station sends the next bit of its transmit image and samples it as sent. -/
def State.sendBit (s : State) : State :=
  match s.image with
  | none => s
  | some img =>
    match img.bits[s.liu.txSent]? with
    | none => s
    | some b =>
      let sent := s.liu.txSent + 1
      let s := s.sampleLine b
      if s.image.isSome then { s with liu := s.liu.sent img sent } else s

/-- One bit time of the LIU. -/
def State.lineBit (s : State) : State :=
  if s.liuHeld then s
  else
    match s.liu.phase with
    | .idle => s.quietSample
    | .spacing => s.quietSample
    | .recovering => s.quietSample
    | .arbitrating => s.sendBit
    | .sending => s.sendBit
    | .receiving => s
    | .slots => s

/-- A bit time in which no command waits. A station that is ready while its LIU is in IDLE starts at once (R62).
In pin reset nothing runs. R183 lets a deadline tick and an end of the join window that fall in one bit time come in
either order: the tick comes first (DESIGN CHOICE, log entry 30). -/
def State.bitTime (s : State) : State :=
  if s.inReset then s
  else if ¬ s.liuHeld ∧ s.liu.phase = .idle ∧ s.readyToStart then s.startFrame
  else s.advanceClock.lineBit

end Sys2Proof.Machine
end

