-- ==== Sys2Proof/Machine/Frames.lean ====
section
/-! DEFINITION. The commands of the frames that reach their slots with no other station objecting (Section 2). -/

namespace Sys2Proof.Machine

/-- RAISE_FRAME (R29). -/
def execRaiseFrame (h : Header) (cls : ClassNo) (limit : Limit) (deadline : Units) (accept : Level)
    (s : State) : Host.Outcome State Fault Refusal :=
  .next (s.frame { head := h, body := .raise cls limit deadline } accept)

/-- BID_FRAME (R31). -/
def execBidFrame (h : Header) (accept : Level) (s : State) : Host.Outcome State Fault Refusal :=
  .next (s.frame { head := h, body := .bid } accept)

/-- FINISH_FRAME (R33). -/
def execFinishFrame (h : Header) (result : BitVec 4) (accept : Level) (s : State) :
    Host.Outcome State Fault Refusal :=
  .next (s.frame { head := h, body := .finish result } accept)

/-- RELEASE_FRAME (R34). -/
def execReleaseFrame (h : Header) (reserved : BitVec 2) (accept : Level) (s : State) :
    Host.Outcome State Fault Refusal :=
  .next (s.frame { head := h, body := .release reserved } accept)

/-- LAPSE_FRAME (R35). -/
def execLapseFrame (h : Header) (accept : Level) (s : State) : Host.Outcome State Fault Refusal :=
  .next (s.frame { head := h, body := .lapse } accept)

/-- WITHDRAW_FRAME (R38). -/
def execWithdrawFrame (h : Header) (accept : Level) (s : State) : Host.Outcome State Fault Refusal :=
  .next (s.frame { head := h, body := .withdraw } accept)

/-- FRESH_JOIN (R40). -/
def execFreshJoin (h : Header) (accept : Level) (s : State) : Host.Outcome State Fault Refusal :=
  .next (s.frame { head := h, body := .join true } accept)

/-- JOIN (R41). -/
def execJoin (h : Header) (accept : Level) (s : State) : Host.Outcome State Fault Refusal :=
  .next (s.frame { head := h, body := .join false } accept)

/-- RESTATE_FRAME (R44). -/
def execRestateFrame (h : Header) (cls : ClassNo) (limit : Limit) (deadline : Units) (claimed : Bool)
    (station : Address) (remaining : Units) (accept : Level) (s : State) : Host.Outcome State Fault Refusal :=
  .next (s.frame { head := h, body := .restate cls limit deadline claimed station remaining } accept)

end Sys2Proof.Machine
end

