-- ==== Sys2Proof/Machine/Pins.lean ====
section
/-! DEFINITION. The commands of the pins: pin reset and its end, and the edges of SEL (R159, R170 to R177). -/

namespace Sys2Proof.Machine

/-- R159: a pin reset takes effect at once in every block. The SEL pin and the commands that wait are no part
of it. -/
def State.pinReset (s : State) : State :=
  { State.reset with pending := s.pending, inReset := true, port := Port.cleared s.port.selLow }

/-- R171: what a transaction shifts out, decided at the falling edge of SEL. -/
def Port.fall (p : Port) : Port :=
  match p.processing, p.pendingReply with
  | some _, _ => { p with selLow := true, transaction := .busy, shiftOut := [Config.markerBusy] }
  | none, some r => { p with selLow := true, transaction := .opened, shiftOut := r.message }
  | none, none => { p with selLow := true, transaction := .opened, shiftOut := [Config.markerNone] }

/-- R172: the rising edge of SEL that ends a transaction in which the bytes were shifted in. -/
def Port.rise (p : Port) (bytes : List Byte) : Port :=
  let q := { p with selLow := false, transaction := .closed, shiftOut := [] }
  match p.transaction with
  | .closed => q
  | .busy => q
  | .opened =>
    if p.restartClose then { q with pendingReply := none, restartClose := false }
    else { q with pendingReply := none, processing := some (Request.ofBytes bytes) }

/-- PIN_RESET (R159). -/
def execPinReset (s : State) : Host.Outcome State Fault Refusal := .next s.pinReset

/-- END_OF_PIN_RESET (R177): the part leaves pin reset; the deadline tick restarts. A part that is not in pin reset
has nothing to leave. -/
def execEndOfPinReset (s : State) : Host.Outcome State Fault Refusal :=
  .next (if s.inReset then { s with inReset := false, divider := 0 } else s)

/-- SEL_FALLING_EDGE (R171). In pin reset the edge opens no transaction (R177); with SEL low there is no falling
edge. -/
def execSelFallingEdge (s : State) : Host.Outcome State Fault Refusal :=
  .next
    (if s.port.selLow then s
     else if s.inReset then { s with port := { s.port with selLow := true } }
     else { s with port := s.port.fall })

/-- SEL_RISING_EDGE (R172). With SEL high there is no rising edge. -/
def execSelRisingEdge (bytes : List Byte) (s : State) : Host.Outcome State Fault Refusal :=
  .next (if s.port.selLow then { s with port := s.port.rise bytes } else s)

end Sys2Proof.Machine
end

