-- ==== Sys2Proof/Machine/Requests.lean ====
section
/-! DEFINITION. The requests of the Local Port (Table 9-3): each owner block's answer, and the command that
processes it (R173, R174). -/

namespace Sys2Proof.Machine

/-- An OK answer with an empty body after a change. -/
def State.okAfter (s : State) : Answer := { after := s, outcome := .ok, body := [] }

/-! ### MALFORMED and NOP -/

/-- MALFORMED (R173): a malformed request completes with outcome MALFORMED, an empty body and the code echoed as
received. Bytes that spell a request are not malformed, and the event does not occur. -/
def execMalformed (bytes : List Byte) (s : State) : Host.Outcome State Fault Refusal :=
  .next
    (match Request.ofBytes bytes with
     | .malformed echo => if s.processes (.malformed echo) then s.complete echo .malformed [] else s
     | .good _ _ => s)

/-- NOP (R174, Table 9-3). -/
def execNop (body : List Byte) (s : State) : Host.Outcome State Fault Refusal :=
  .next (s.request 0x00 body fun s => s.answers .ok)

/-! ### Configuration (Section 8) -/

/-- R162: the Station Controller's answer to SETUP. -/
def State.answerSetup (s : State) (body : List Byte) : Answer :=
  if s.station = .config then
    match setupOperands body with
    | some (address, rate, slots) =>
      { s with config := { s.config with address := some address, rate := rate, slots := slots } }.okAfter
    | none => s.answers .badArg
  else s.answers .state

/-- SETUP (R162). -/
def execSetup (body : List Byte) (s : State) : Host.Outcome State Fault Refusal :=
  .next (s.request 0x01 body fun s => s.answerSetup body)

/-- R164: the Station Controller's answer to CLASS. -/
def State.answerClass (s : State) (body : List Byte) : Answer :=
  if s.station = .config then
    match classOperands body with
    | some (page, entries) =>
      { s with config := { s.config with classes := s.config.classes.set page entries } }.okAfter
    | none => s.answers .badArg
  else s.answers .state

/-- CLASS (R164). -/
def execClass (body : List Byte) (s : State) : Host.Outcome State Fault Refusal :=
  .next (s.request 0x02 body fun s => s.answerClass body)

/-- R142: the Station Controller's answer to START. -/
def State.answerStart (s : State) : Answer :=
  if s.station = .config ∧ s.config.address.isSome then
    State.okAfter
      { s with
        ctl := { s.ctl with state := .listen, freshOwed := true, joinStage := some .idleWait, draining := false }
        liu := s.liu.release }
  else s.answers .state

/-- START (R142). -/
def execStart (body : List Byte) (s : State) : Host.Outcome State Fault Refusal :=
  .next (s.request 0x03 body fun s => s.answerStart)

/-! ### Raising and withdrawing (Section 6) -/

/-- R126: the first serial, counting upward from `from_` and wrapping, that no record uses, looked for over
`tries` values. -/
def freeSerial (used : List OriginRecord) (from_ : Serial) : Nat → Serial
  | 0 => from_
  | tries + 1 => if used.any fun r => r.serial = from_ then freeSerial used (from_ + 1) tries else from_

/-- R128: a RAISE request answered OK: the serial is assigned, the record created and the RAISE posted. -/
def State.raiseEvent (s : State) (cls : ClassNo) (payload : List Byte) : Answer :=
  let serial := freeSerial s.origin s.serialCounter 256
  let c := ClassTable.entry s.config.classes cls
  let s := { s with
    serialCounter := serial + 1
    origin := s.origin ++ [OriginRecord.mk serial .queued false] }
  { after := s.post (.raise (s.ownId serial) cls c.priority c.limit c.deadline payload)
    outcome := .ok, body := [serial] }

/-- R127: the checks of a RAISE request, in the order of Table 6-3. -/
def State.answerRaise (s : State) (body : List Byte) : Answer :=
  if s.station = .active then
    match raiseOperands body with
    | none => s.answers .badArg
    | some (cls, payload) =>
      if (ClassTable.entry s.config.classes cls).defined then
        if Config.originCapacity ≤ s.origin.length ∨ Config.tableCapacity ≤ s.table.length then s.answers .full
        else s.raiseEvent cls payload
      else s.answers .badArg
  else s.answers .state

/-- RAISE request (R127). -/
def execRaiseRequest (body : List Byte) (s : State) : Host.Outcome State Fault Refusal :=
  .next (s.request 0x04 body fun s => s.answerRaise body)

/-- R130: a WITHDRAW request for a QUEUED record with withdraw-pending clear. -/
def State.withdrawQueued (s : State) (serial : Serial) : State :=
  match framePlaced s.queue (.identity (s.ownId serial)) with
  | some g =>
    if g.onLine then s.setOrigin serial fun r => { r with withdrawPending := true }
    else
      (s.removeFrame (.identity (s.ownId serial))).closeOrigin serial .withdrawn (.withdrawn (s.ownId serial))
  | none => s.closeOrigin serial .withdrawn (.withdrawn (s.ownId serial))

/-- R130: the Origin Unit's answer to a WITHDRAW request (Table 6-5). -/
def State.answerWithdraw (s : State) (body : List Byte) : Answer :=
  if s.station = .config then s.answers .state
  else
    match body with
    | [serial] =>
      match s.originRecord serial with
      | none => s.answers .unknown
      | some r =>
        match r.state with
        | .closed _ => s.answers .late
        | .withdrawing => s.answers .state
        | .queued =>
          if r.withdrawPending then s.answers .state else (s.withdrawQueued serial).testDrain.okAfter
        | .live =>
          if s.takesPosts then (s.beginWithdraw serial).okAfter else s.answers .state
    | _ => s.answers .badArg

/-- WITHDRAW request (R130). -/
def execWithdrawRequest (body : List Byte) (s : State) : Host.Outcome State Fault Refusal :=
  .next (s.request 0x05 body fun s => s.answerWithdraw body)

/-! ### Service (Section 5) -/

/-- R107: the Service Unit's answer to TAKE. -/
def State.answerTake (s : State) : Answer :=
  if s.station = .config then s.answers .state
  else
    match s.offer with
    | none => s.answers .empty
    | some r =>
      match findEntry s.table r.id with
      | none => s.answers .empty
      | some e =>
        { after := (s.setHeld r.id fun r => { r with state := .inService }).remakeBid
          outcome := .ok, body := e.takeBytes }

/-- TAKE (R107). -/
def execTake (body : List Byte) (s : State) : Host.Outcome State Fault Refusal :=
  .next (s.request 0x06 body fun s => s.answerTake)

/-- R108, R109: a claim is given up: its FINISH or RELEASE is posted into the held place, and the record goes to
ENDING. -/
def State.endClaim (s : State) (r : HeldRecord) (post : Queued) : Answer :=
  (((s.post post).setHeld r.id fun r => { r with state := .ending }).remakeBid).okAfter

/-- R108: the Service Unit's answer to FINISH, steps 3 to 7. -/
def State.finishRecord (s : State) (id : Identity) (result : BitVec 4) (payload : List Byte) : Answer :=
  match s.heldRecord id with
  | none => s.answers .unknown
  | some r =>
    match r.state with
    | .closed => s.answers .late
    | .awaiting => s.answers .state
    | .ending => s.answers .state
    | .inService =>
      if s.takesPosts then s.endClaim r (.finish r.id r.priority r.attempt result payload)
      else s.answers .state

/-- R108: the Service Unit's answer to FINISH. -/
def State.answerFinish (s : State) (body : List Byte) : Answer :=
  if s.station = .config then s.answers .state
  else
    match finishOperands body with
    | none => s.answers .badArg
    | some (none, _, _) => s.answers .unknown
    | some (some id, result, payload) => s.finishRecord id result payload

/-- FINISH request (R108). -/
def execFinishRequest (body : List Byte) (s : State) : Host.Outcome State Fault Refusal :=
  .next (s.request 0x07 body fun s => s.answerFinish body)

/-- R109: the Service Unit's answer to RELEASE, for a record named. -/
def State.releaseRecord (s : State) (id : Identity) : Answer :=
  match s.heldRecord id with
  | none => s.answers .unknown
  | some r =>
    match r.state with
    | .closed => s.answers .late
    | .ending => s.answers .state
    | .awaiting =>
      if s.takesPosts then s.endClaim r (.release r.id r.priority r.attempt) else s.answers .state
    | .inService =>
      if s.takesPosts then s.endClaim r (.release r.id r.priority r.attempt) else s.answers .state

/-- R109: the Service Unit's answer to RELEASE. -/
def State.answerRelease (s : State) (body : List Byte) : Answer :=
  if s.station = .config then s.answers .state
  else
    match releaseOperands body with
    | none => s.answers .badArg
    | some none => s.answers .unknown
    | some (some id) => s.releaseRecord id

/-- RELEASE request (R109). -/
def execReleaseRequest (body : List Byte) (s : State) : Host.Outcome State Fault Refusal :=
  .next (s.request 0x08 body fun s => s.answerRelease body)

/-! ### Notices (Section 10) -/

/-- R187: the report of a pop to the block whose record the notice concerns. -/
def State.reportPop (s : State) : Notice → State
  | .finished id _ _ _ => s.popOrigin id.serial
  | .abandoned id _ _ => s.popOrigin id.serial
  | .withdrawn id => s.popOrigin id.serial
  | .refused id _ => s.popOrigin id.serial
  | .deadline id => s.popHeld id
  | .revoked id _ => s.popHeld id
  | .station _ => s

/-- R186: the Local Port's answer to NOTICE. -/
def State.answerNotice (s : State) : Answer :=
  match s.notices with
  | [] => s.answers .empty
  | n :: rest =>
    { after := { s with notices := rest }.reportPop n, outcome := .ok, body := n.bytes s.station }

/-- NOTICE (R186). -/
def execNotice (body : List Byte) (s : State) : Host.Outcome State Fault Refusal :=
  .next (s.request 0x09 body fun s => s.answerNotice)

/-! ### Reading (Section 11) -/

/-- STATUS (R190). -/
def execStatus (body : List Byte) (s : State) : Host.Outcome State Fault Refusal :=
  .next (s.request 0x0A body fun s => { after := s, outcome := .ok, body := s.statusBytes })

/-- R192: the Event Table Unit's answer to LOOKUP. -/
def State.answerLookup (s : State) (body : List Byte) : Answer :=
  match body with
  | [position] =>
    if 47 < position.toNat then s.answers .badArg
    else
      match s.table[position.toNat]? with
      | none => s.answers .atEnd
      | some e => { after := s, outcome := .ok, body := e.record }
  | _ => s.answers .badArg

/-- LOOKUP (R192). -/
def execLookup (body : List Byte) (s : State) : Host.Outcome State Fault Refusal :=
  .next (s.request 0x0B body fun s => s.answerLookup body)

/-- R194, R196: the Event Table Unit's answer to FIND. -/
def State.answerFind (s : State) (body : List Byte) : Answer :=
  match findOperands body with
  | none => s.answers .badArg
  | some p =>
    match findFrom p 0 s.table with
    | none => s.answers .atEnd
    | some (position, e) => { after := s, outcome := .ok, body := BitVec.ofNat 8 position :: e.record }

/-- FIND (R196). -/
def execFind (body : List Byte) (s : State) : Host.Outcome State Fault Refusal :=
  .next (s.request 0x0C body fun s => s.answerFind body)

/-! ### Station states (Section 7) -/

/-- R150: the Station Controller's answer to LEAVE. -/
def State.answerLeave (s : State) : Answer :=
  if s.station = .active then s.enterLeaving.okAfter else s.answers .state

/-- LEAVE (R150). -/
def execLeave (body : List Byte) (s : State) : Host.Outcome State Fault Refusal :=
  .next (s.request 0x0D body fun s => s.answerLeave)

/-- R153: the Station Controller's answer to REJOIN. -/
def State.answerRejoin (s : State) : Answer :=
  match s.station with
  | .mute => ({ s with liu := { s.liu with failures := 0 } }.enterListen.repostWithdraws).okAfter
  | .detached =>
    State.okAfter
      { s with
        ctl := { s.ctl with state := .listen, freshOwed := true, joinStage := some .idleWait, draining := false }
        liu := { s.liu with failures := 0 }.release }
  | .config => s.answers .state
  | .listen => s.answers .state
  | .active => s.answers .state
  | .leaving => s.answers .state

/-- REJOIN (R153). -/
def execRejoin (body : List Byte) (s : State) : Host.Outcome State Fault Refusal :=
  .next (s.request 0x0E body fun s => s.answerRejoin)

/-- R157: a RESTART request that is taken: answered STATE in CONFIG; otherwise the restart proceeds at once, or
waits for the outcome of the own frame on the Line with the request still in processing. A request that has been
taken has consumed the pending reply (R172). -/
def State.processRestart (s : State) (body : List Byte) : State :=
  if s.station = .config then s.complete 0x0F .state []
  else if s.image = none then s.restartNow
  else
    { s with ctl := { s.ctl with restartWaiting := true },
             port := { s.port with pendingReply := none, processing := some (.good 0x0F body) } }

/-- RESTART (R157). -/
def execRestart (body : List Byte) (s : State) : Host.Outcome State Fault Refusal :=
  .next
    (if s.processes (.good 0x0F body) then
       if body.length ≤ Config.maxBody then s.processRestart body else s.complete 0x0F .malformed []
     else s)

/-- RESTART_PROCEEDS (R158): the restart of a RESTART request proceeds, outside CONFIG and pin reset, with no own
frame on the Line, and with no other request in processing. -/
def execRestartProceeds (s : State) : Host.Outcome State Fault Refusal :=
  .next
    (if ¬ s.inReset ∧ s.station ≠ .config ∧ s.image = none
        ∧ (s.ctl.restartWaiting ∨ s.port.processing = none) then s.restartNow
     else s)

end Sys2Proof.Machine
end

