-- ==== Sys2Proof/Machine/Dispatch.lean ====
section
/-! DEFINITION. The dispatch of commands: one arm for each row of spec/opcode_table.json, in its order. -/

namespace Sys2Proof.Machine

def exec (i : Instr) (s : State) : Host.Outcome State Fault Refusal :=
  match i with
  | .pinReset => Sys2Proof.Machine.execPinReset s
  | .selFallingEdge => Sys2Proof.Machine.execSelFallingEdge s
  | .selRisingEdge bytes => Sys2Proof.Machine.execSelRisingEdge bytes s
  | .malformed bytes => Sys2Proof.Machine.execMalformed bytes s
  | .nop body => Sys2Proof.Machine.execNop body s
  | .setup body => Sys2Proof.Machine.execSetup body s
  | .classPage body => Sys2Proof.Machine.execClass body s
  | .start body => Sys2Proof.Machine.execStart body s
  | .raiseRequest body => Sys2Proof.Machine.execRaiseRequest body s
  | .withdrawRequest body => Sys2Proof.Machine.execWithdrawRequest body s
  | .take body => Sys2Proof.Machine.execTake body s
  | .finishRequest body => Sys2Proof.Machine.execFinishRequest body s
  | .releaseRequest body => Sys2Proof.Machine.execReleaseRequest body s
  | .notice body => Sys2Proof.Machine.execNotice body s
  | .status body => Sys2Proof.Machine.execStatus body s
  | .lookup body => Sys2Proof.Machine.execLookup body s
  | .find body => Sys2Proof.Machine.execFind body s
  | .leave body => Sys2Proof.Machine.execLeave body s
  | .rejoin body => Sys2Proof.Machine.execRejoin body s
  | .restart body => Sys2Proof.Machine.execRestart body s
  | .restartProceeds => Sys2Proof.Machine.execRestartProceeds s
  | .deadlineTick => Sys2Proof.Machine.execDeadlineTick s
  | .claimantExpiry id => Sys2Proof.Machine.execClaimantExpiry id s
  | .expiredMark id => Sys2Proof.Machine.execExpiredMark id s
  | .frameStart edge => Sys2Proof.Machine.execFrameStart edge s
  | .raiseFrame h cls limit deadline accept => Sys2Proof.Machine.execRaiseFrame h cls limit deadline accept s
  | .bidFrame h accept => Sys2Proof.Machine.execBidFrame h accept s
  | .finishFrame h result accept => Sys2Proof.Machine.execFinishFrame h result accept s
  | .releaseFrame h reserved accept => Sys2Proof.Machine.execReleaseFrame h reserved accept s
  | .lapseFrame h accept => Sys2Proof.Machine.execLapseFrame h accept s
  | .withdrawFrame h accept => Sys2Proof.Machine.execWithdrawFrame h accept s
  | .freshJoin h accept => Sys2Proof.Machine.execFreshJoin h accept s
  | .join h accept => Sys2Proof.Machine.execJoin h accept s
  | .restateFrame h cls limit deadline claimed station remaining accept => Sys2Proof.Machine.execRestateFrame h cls limit deadline claimed station remaining accept s
  | .frameRefused => Sys2Proof.Machine.execFrameRefused s
  | .frameCorrupted ending => Sys2Proof.Machine.execFrameCorrupted ending s
  | .arbitrationLost => Sys2Proof.Machine.execArbitrationLost s
  | .stuckLine => Sys2Proof.Machine.execStuckLine s
  | .recoveryComplete => Sys2Proof.Machine.execRecoveryComplete s
  | .spacingComplete => Sys2Proof.Machine.execSpacingComplete s
  | .startUpIdle => Sys2Proof.Machine.execStartUpIdle s
  | .joinWindowEnd => Sys2Proof.Machine.execJoinWindowEnd s
  | .leaveDrainComplete => Sys2Proof.Machine.execLeaveDrainComplete s
  | .frameTakenNowhere bits accept => Sys2Proof.Machine.execFrameTakenNowhere bits accept s
  | .endOfPinReset => Sys2Proof.Machine.execEndOfPinReset s

end Sys2Proof.Machine
end

