-- ==== Sys2Proof/Safety.lean ====
section
/-! DEFINITION. What a sound state of the part is: the laws that the manual states of its table, queue, lists,
counts and notices, each in its own definition, the law of their agreement (`State.Lawful`), the situations and
results that the statements about commands name, and the changes of station state that Figure 7-1 allows. -/

namespace Sys2Proof.Machine

/-- R2: no more than 48 entries, and no two of one identity. -/
abbrev State.TableLaw (s : State) : Prop :=
  s.table.length ≤ Config.tableCapacity ∧ (s.table.map Entry.id).Nodup

/-- R78, R85: a place holds one frame at most; the transmit image is filled exactly while one frame of the queue
is on the Line, and one frame at most is. -/
abbrev State.QueueLaw (s : State) : Prop :=
  (s.queue.map fun q => q.frame.place).Nodup
    ∧ (s.image.isSome ↔ s.frameOnLine.isSome)
    ∧ (s.queue.filter QueuedFrame.onLine).length ≤ 1

/-- R72, R141: the failure count lies in 0..8 and is 8 only in MUTE; in CONFIG, DETACHED and MUTE the Frame Queue
is empty and no frame is on the Line. -/
abbrev State.StandingLaw (s : State) : Prop :=
  s.liu.failures ≤ Config.failureLimit
    ∧ (s.liu.failures = Config.failureLimit → s.station = .mute)
    ∧ (s.station = .config ∨ s.station = .detached ∨ s.station = .mute → s.queue = [] ∧ s.image = none)

/-- R125, first half: at most 8 records, with distinct serials. -/
abbrev State.OriginLaw (s : State) : Prop :=
  s.origin.length ≤ Config.originCapacity ∧ (s.origin.map OriginRecord.serial).Nodup

/-- R184: at most one STATION notice waits. -/
abbrev State.StationNoticeLaw (s : State) : Prop := (s.notices.filter Notice.isStation).length ≤ 1

/-- R169, R172: no reply is pending while a request is in processing, and a transaction is open only while SEL is
low. -/
abbrev State.PortLaw (s : State) : Prop :=
  (s.port.processing.isSome → s.port.pendingReply = none)
    ∧ (s.port.transaction ≠ .closed → s.port.selLow = true)

/-- R60, R61, R74, R75: each count of samples stays within the value at which it last does something. That it stops
there is the model's choice (log entry 11). -/
abbrev State.CountLaw (s : State) : Prop :=
  s.liu.startUpIdle ≤ Config.startUpSamples ∧ s.liu.recessive ≤ Config.recoverySamples
    ∧ s.liu.dominant ≤ Config.stuckSamples ∧ s.liu.idle ≤ Config.idleSamples

/-! ### The agreement of the lists -/

/-- Table 6-2: the event of this record is in the pool. -/
def OriginRecord.inPool (r : OriginRecord) : Bool := r.state = .live ∨ r.state = .withdrawing

/-- Table 6-2: the record is CLOSED. -/
def OriginRecord.isClosed (r : OriginRecord) : Bool :=
  match r.state with
  | .closed _ => true
  | .queued => false
  | .live => false
  | .withdrawing => false

/-- R78, Table 4-1, R143: what a queued frame stands for is there: the record its place is bound to, in a state that
has such a frame; room for the claim of a BID; the join that a JOIN belongs to. Outside ACTIVE no BID or LAPSE
waits (R94). -/
def State.standsFor (s : State) (q : QueuedFrame) : Bool :=
  match q.frame with
  | .raise id _ _ _ _ _ =>
    id.origin = s.address
      ∧ s.origin.any fun r => r.serial = id.serial ∧ r.state = .queued ∧ (r.withdrawPending → q.onLine)
  | .restate id =>
    id.origin = s.address
      ∧ s.origin.any fun r => r.serial = id.serial ∧ (r.state = .live ∨ (r.state = .withdrawing ∧ q.onLine))
  | .withdraw id _ =>
    id.origin = s.address ∧ s.origin.any fun r => r.serial = id.serial ∧ r.state = .withdrawing
  | .bid id _ _ =>
    (s.station = .active ∨ (s.station = .leaving ∧ q.onLine))
      ∧ s.held.length < s.config.slots ∧ s.held.all fun r => r.id ≠ id
  | .lapse _ _ _ => s.station = .active ∨ (s.station = .leaving ∧ q.onLine)
  | .finish id _ attempt _ _ => s.held.any fun r => r.id = id ∧ r.attempt = attempt ∧ r.state = .ending
  | .release id _ attempt => s.held.any fun r => r.id = id ∧ r.attempt = attempt ∧ r.state = .ending
  | .join fresh => s.ctl.joinStage = some .joinSending ∧ fresh = s.ctl.freshOwed

/-- R55, R79: a body, identity, attempt and payload on the Line are those kept for a queued frame, or stand for its
entry in a RESTATE; `me` is this station's address. -/
def Queued.keptIn (me : Address) (q : Queued) (h : Header) (b : Body) : Bool :=
  match q, b with
  | .raise id cls priority limit deadline payload, .raise c l d =>
    h.id = id ∧ h.priority = priority ∧ h.attempt = 0 ∧ h.payload = payload ∧ c = cls ∧ l = limit ∧ d = deadline
  | .restate id, .restate _ _ _ _ _ _ => h.id = id
  | .withdraw id _, .withdraw => h.id = id
  | .bid id _ attempt, .bid => h.id = id ∧ h.attempt = attempt
  | .lapse id _ attempt, .lapse => h.id = id ∧ h.attempt = attempt
  | .finish id _ attempt result payload, .finish r =>
    h.id = id ∧ h.attempt = attempt ∧ h.payload = payload ∧ r = result
  | .release id _ attempt, .release _ => h.id = id ∧ h.attempt = attempt
  | .join fresh, .join b => h.id = { origin := me, serial := 0 } ∧ b = fresh
  | _, _ => false

/-- R55, R85: a composed frame is one of this queued frame, from the station of address `me`. -/
def Queued.sentAs (me : Address) (q : Queued) (f : Frame) : Bool :=
  f.head.sender = me && q.keptIn me f.head f.body

/-- R85: the transmit image is of the frame on the Line. -/
def State.imageMatches (s : State) : Bool :=
  match s.image, s.frameOnLine with
  | some img, some q => q.frame.sentAs s.address img.frame
  | some _, none => false
  | none, some _ => false
  | none, none => true

/-- R125, second half: this station's table holds an entry it originated exactly when it has a LIVE or WITHDRAWING
record for it; and a QUEUED record's RAISE is in the queue (Table 6-2), with withdraw-pending set in QUEUED only. -/
abbrev State.OwnEventsLaw (s : State) : Prop :=
  (∀ e ∈ s.table, e.id.origin = s.address → ∃ r ∈ s.origin, r.serial = e.id.serial ∧ r.inPool = true)
    ∧ (∀ r ∈ s.origin, r.inPool = true → ∃ e ∈ s.table, e.id = s.ownId r.serial)
    ∧ (∀ r ∈ s.origin, r.state = .queued →
        ∃ q ∈ s.queue, q.frame.place = .identity (s.ownId r.serial))
    ∧ (∀ r ∈ s.origin, r.withdrawPending = true → r.state = .queued)

/-- R98: no more records than service slots, one for an identity, and every record in AWAITING, IN_SERVICE or ENDING
names an entry CLAIMED by this station at the record's attempt. -/
abbrev State.HeldLaw (s : State) : Prop :=
  1 ≤ s.config.slots ∧ s.config.slots ≤ 4 ∧ s.held.length ≤ s.config.slots
    ∧ (s.held.map HeldRecord.id).Nodup
    ∧ (∀ r ∈ s.held, r.state ≠ .closed → claimedBy s.table r.id s.address r.attempt = true)

/-- The identity that a final notice names (R182). -/
def Notice.finalFor (id : Identity) : Notice → Bool
  | .finished i _ _ _ => i = id
  | .abandoned i _ _ => i = id
  | .withdrawn i => i = id
  | .refused i _ => i = id
  | .deadline _ => false
  | .revoked _ _ => false
  | .station _ => false

/-- A DEADLINE notice of an identity (R182). -/
def Notice.deadlineFor (id : Identity) : Notice → Bool
  | .deadline i => i = id
  | .finished _ _ _ _ => false
  | .abandoned _ _ _ => false
  | .withdrawn _ => false
  | .refused _ _ => false
  | .revoked _ _ => false
  | .station _ => false

/-- A REVOKED notice of an identity (R182). -/
def Notice.revokedFor (id : Identity) : Notice → Bool
  | .revoked i _ => i = id
  | .finished _ _ _ _ => false
  | .abandoned _ _ _ => false
  | .withdrawn _ => false
  | .refused _ _ => false
  | .deadline _ => false
  | .station _ => false

/-- R116, R134, R189: every notice but the STATION notice is one of a record that stays until it is popped: a CLOSED
Origin record has exactly one final notice and no other record has one; a held record's unread notices are its
DEADLINE and REVOKED notices, one of each at most. -/
abbrev State.NoticeLaw (s : State) : Prop :=
  s.StationNoticeLaw
    ∧ (∀ n ∈ s.notices, n.isStation = true
        ∨ (∃ r ∈ s.origin, n.finalFor (s.ownId r.serial) = true)
        ∨ (∃ r ∈ s.held, n.deadlineFor r.id = true ∨ n.revokedFor r.id = true))
    ∧ (∀ r ∈ s.origin,
        (s.notices.filter (Notice.finalFor (s.ownId r.serial))).length = if r.isClosed then 1 else 0)
    ∧ (∀ r ∈ s.held,
        (s.notices.filter (Notice.deadlineFor r.id)).length ≤ (if r.deadlineNoticed then 1 else 0)
        ∧ (s.notices.filter (Notice.revokedFor r.id)).length ≤ (if r.state = .closed then 1 else 0)
        ∧ r.unread = (s.notices.filter (Notice.deadlineFor r.id)).length
            + (s.notices.filter (Notice.revokedFor r.id)).length
        ∧ (r.state = .closed → 1 ≤ r.unread))

/-- R22, R24, R140, R144, R150, R152: the Station Controller's items agree with the station state, and the lists are
as empty as the state has them. While a fresh JOIN is owed every Origin record is CLOSED. -/
abbrev State.ControllerLaw (s : State) : Prop :=
  (s.ctl.joinStage.isSome ↔ s.station = .listen)
    ∧ (s.ctl.draining = true ↔ s.station = .leaving)
    ∧ (s.ctl.joinStage = some .window → s.ctl.freshOwed = false)
    ∧ (s.ctl.freshOwed = true → s.station ≠ .active ∧ s.station ≠ .leaving
        ∧ ∀ r ∈ s.origin, r.isClosed = true)
    ∧ (s.station = .config → s.table = [] ∧ s.held = [] ∧ s.origin = [] ∧ s.notices = [])
    ∧ (s.station = .detached → s.table = [] ∧ (∀ r ∈ s.held, r.state = .closed)
        ∧ ∀ r ∈ s.origin, r.isClosed = true)
    ∧ (s.station = .leaving → ∀ r ∈ s.held, r.state ≠ .awaiting)
    ∧ (s.station ≠ .config → s.config.address.isSome = true)
    ∧ (s.inReset = true → s.station = .config)

/-- The whole law: every block's own law, and the agreement of the blocks. -/
abbrev State.Lawful (s : State) : Prop :=
  s.TableLaw ∧ s.QueueLaw ∧ s.StandingLaw ∧ s.OriginLaw ∧ s.HeldLaw ∧ s.OwnEventsLaw ∧ s.NoticeLaw
    ∧ s.ControllerLaw ∧ (∀ q ∈ s.queue, s.standsFor q = true) ∧ s.imageMatches = true

/-! ### Situations that commands meet -/

/-- R174: the request of this code and body, taken at the rising edge of SEL, is in processing. -/
abbrev State.inProcessing (s : State) (code : Byte) (body : List Byte) : Prop :=
  s.inReset = false ∧ s.port.processing = some (.good code body) ∧ body.length ≤ Config.maxBody

/-- R174: the state with this reply pending and processing idle. -/
abbrev State.replied (s : State) (code : Byte) (outcome : ReplyCode) (body : List Byte) : State :=
  { s with port := { s.port with
      pendingReply := some { code := code, outcome := outcome, body := body }, processing := none } }

/-- The command that brings a frame to its slots with no other station objecting. -/
def frameCommand (f : Frame) (accept : Level) : Instr :=
  match f.body with
  | .raise cls limit deadline => .raiseFrame f.head cls limit deadline accept
  | .bid => .bidFrame f.head accept
  | .finish result => .finishFrame f.head result accept
  | .release reserved => .releaseFrame f.head reserved accept
  | .lapse => .lapseFrame f.head accept
  | .withdraw => .withdrawFrame f.head accept
  | .join true => .freshJoin f.head accept
  | .join false => .join f.head accept
  | .restate cls limit deadline claimed station remaining =>
    .restateFrame f.head cls limit deadline claimed station remaining accept

/-- R26, R60, R62: a peer's frame is received from its start bit: it is being received, or its start edge comes while the
station sees it as one and is not ready to join it (log entry 9). -/
abbrev State.receives (s : State) : Prop :=
  s.liu.phase = .receiving ∨ (s.liu.seesStartEdge = true ∧ s.readyToStart = false)

/-- R25, R26, Table 3-6: the station applies frames, sends none, receives this one from its start bit, and its sender and
length pass the format checks. -/
abbrev State.hears (s : State) (h : Header) : Prop :=
  s.liuHeld = false ∧ s.image = none ∧ s.receives ∧ 1 ≤ h.sender.toNat ∧ h.sender.toNat ≤ 62
    ∧ h.payload.length ≤ 8

/-- R3, R27, Table 2-1: this station does not object to a frame for want of room: it has room for the entry that a RAISE or
RESTATE carries, or the frame fails the test of its kind here and no room is looked for. -/
def State.stores (s : State) (f : Frame) : Bool :=
  match f.body with
  | .raise _ _ _ =>
    (s.table.length < 48 ∧ ∀ e ∈ s.table, e.id ≠ f.head.id) ∨ f.head.sender ≠ f.head.id.origin ∨ f.head.attempt ≠ 0
  | .restate _ _ _ claimed station _ =>
    s.table.length < 48 ∨ (∃ e ∈ s.table, e.id = f.head.id) ∨ f.head.sender ≠ f.head.id.origin ∨ station = 63
      ∨ (claimed = true ∧ station = 0)
  | .bid => true
  | .finish _ => true
  | .release _ => true
  | .lapse => true
  | .withdraw => true
  | .join _ => true

/-- R85: the frame on the Line is this station's own, composed as `f` from the queued frame `q`, and no restart
waits for its outcome. -/
abbrev State.sends (s : State) (q : Queued) (f : Frame) : Prop :=
  s.liuHeld = false ∧ s.ctl.restartWaiting = false ∧ s.image.map TransmitImage.frame = some f
    ∧ s.frameOnLine = some { frame := q, onLine := true }

/-- What no frame of a peer changes at a station it does not mute or detach, and how the LIU ends it when it is taken
(R66, R71, R73; log entry 24 on what it drove). -/
abbrev State.keptByPeer (s u : State) : Prop :=
  u.pending = s.pending ∧ u.inReset = s.inReset ∧ u.divider = s.divider ∧ u.config = s.config ∧ u.ctl = s.ctl
    ∧ u.serialCounter = s.serialCounter ∧ u.port = s.port ∧ u.image = none
    ∧ u.liu.failures = s.liu.failures ∧ u.liu.alone = false ∧ u.liu.phase = .spacing
    ∧ u.liu.droveAccept = true ∧ u.liu.droveObject = false ∧ u.liu.droveRun = false

/-- What a frame of this station changes at itself nowhere, whatever its outcome. -/
abbrev State.keptByOwn (s u : State) : Prop :=
  u.pending = s.pending ∧ u.inReset = s.inReset ∧ u.divider = s.divider ∧ u.config = s.config
    ∧ u.serialCounter = s.serialCounter ∧ u.port = s.port

/-- R149: the notices once PEERED has been raised, if the Alone flag was set. -/
def State.peeredIf (s : State) (ns : List Notice) : List Notice :=
  if s.liu.alone then ({ s with notices := ns }.raiseCause .peered).notices else ns

/-- R111: the Held List after a report that takes the claim on an entry away. -/
def revokedHeld (held : List HeldRecord) (id : Identity) : List HeldRecord :=
  held.map fun r => if r.id = id ∧ r.state ≠ .closed then { r with state := .closed, unread := r.unread + 1 } else r

/-- R111: the notice of a report that takes the claim on an entry away. -/
def revokedNotice (held : List HeldRecord) (id : Identity) (cause : RevokeCause) : List Notice :=
  if held.any fun r => r.id = id ∧ r.state ≠ .closed then [.revoked id cause] else []

/-- R133: the Origin List after the removal of an entry, when it is mine. -/
def State.originAfter (s : State) (id : Identity) (outcome : FinalOutcome) : List OriginRecord :=
  if id.origin = s.address then
    s.origin.map fun r =>
      if r.serial = id.serial then { r with state := .closed outcome, withdrawPending := false } else r
  else s.origin

/-- R134: the final notice of the removal of an entry, when it is mine. -/
def State.finalNotice (s : State) (id : Identity) (n : Notice) : List Notice :=
  if id.origin = s.address then [n] else []

/-- R115: a held record for which an expiry at this attempt queues a DEADLINE notice. -/
def HeldRecord.overruns (id : Identity) (attempt : Attempt) (r : HeldRecord) : Bool :=
  r.id = id ∧ r.attempt = attempt ∧ r.state ≠ .closed ∧ r.deadlineNoticed = false

/-- R115: the Held List after an expiry at the claimant. -/
def overrunHeld (held : List HeldRecord) (id : Identity) (attempt : Attempt) : List HeldRecord :=
  held.map fun r => if r.overruns id attempt then { r with deadlineNoticed := true, unread := r.unread + 1 } else r

/-- R115: the notice of an expiry at the claimant. -/
def overrunNotice (held : List HeldRecord) (id : Identity) (attempt : Attempt) : List Notice :=
  if held.any (HeldRecord.overruns id attempt) then [.deadline id] else []

/-- R78, R85: the frame in the identity place of one of this station's serials is on the Line. -/
def State.ownOnLine (s : State) (serial : Serial) : Bool :=
  s.queue.any fun q => q.onLine ∧ q.frame.place = .identity (s.ownId serial)

/-! ### Choices and queued frames -/

/-- R100: the five conditions on an entry under which a station in ACTIVE may bid for it. -/
def State.mayBid (s : State) (e : Entry) : Bool :=
  e.claim = none ∧ (ClassTable.entry s.config.classes e.cls).capable = true ∧ e.lastClaimant ≠ some s.address
    ∧ (∀ r ∈ s.held, r.id ≠ e.id) ∧ s.held.length < s.config.slots

/-- R101, R102: the BID place of a station in ACTIVE holds a BID for the first of the most urgent entries that it may bid
for, at its attempt, and nothing when there is none. -/
abbrev State.BidPlaceFollows (s : State) : Prop :=
  (framePlaced s.queue .bid = none ↔ ∀ e ∈ s.table, s.mayBid e = false)
    ∧ ∀ q ∈ s.queue, q.frame.place = .bid →
        ∃ e ∈ s.table, q.frame = .bid e.id e.priority e.attempt ∧ s.mayBid e = true
          ∧ (∀ x ∈ s.table, s.mayBid x = true → e.priority ≤ x.priority)
          ∧ (∀ x ∈ s.table.takeWhile (fun x => x ≠ e), s.mayBid x = true → e.priority < x.priority)

/-- R17: of the table's entries, this one is the oldest whose expired mark is set. -/
abbrev State.OldestExpired (s : State) (e : Entry) : Prop :=
  e.claim.any Claim.expired = true
    ∧ ∀ x ∈ s.table.takeWhile (fun x => x ≠ e), x.claim.any Claim.expired = false

/-- R17: the LAPSE place of a station in ACTIVE holds a LAPSE of the oldest entry whose expired mark is set, at its
attempt, and nothing when no mark is set. -/
abbrev State.LapsePlaceFollows (s : State) : Prop :=
  (framePlaced s.queue .lapse = none ↔ ∀ e ∈ s.table, e.claim.any Claim.expired = false)
    ∧ ∀ q ∈ s.queue, q.frame.place = .lapse →
        ∃ e ∈ s.table, s.OldestExpired e ∧ ∃ p : Priority, q.frame = .lapse e.id p e.attempt

/-- R17: the LAPSE place in `t`, after the choice has been re-made in ACTIVE over the place as it was in `s`: an empty place
is filled with a LAPSE of the oldest entry whose mark is set; a queued LAPSE of that entry stays, one of another entry is
replaced, and one with no mark set is removed; and a LAPSE on the Line stays. -/
abbrev State.LapsePlaceRemade (s t : State) : Prop :=
  (framePlaced s.queue .lapse = none →
    t.LapsePlaceFollows ∧ ∀ e ∈ t.table, t.OldestExpired e →
      t.queue = s.queue ++ [{ frame := .lapse e.id e.priority e.attempt, onLine := false }])
    ∧ ∀ q : QueuedFrame, framePlaced s.queue .lapse = some q →
      (q.onLine = true → t.queue = s.queue)
      ∧ (q.onLine = false → (∀ e ∈ t.table, e.claim.any Claim.expired = false) → framePlaced t.queue .lapse = none)
      ∧ (q.onLine = false → ∀ e ∈ t.table, t.OldestExpired e →
          ((∃ (p : Priority) (a : Attempt), q.frame = .lapse e.id p a) → t.queue = s.queue)
          ∧ ((∀ (p : Priority) (a : Attempt), q.frame ≠ .lapse e.id p a) →
              framePlaced t.queue .lapse = some { frame := .lapse e.id e.priority e.attempt, onLine := false }))

/-- R91, R92, with R94, R101, R131, R132 and R17: what an outcome CORRUPTED or LOST of the queued frame `q` leaves of the
Frame Queue, the Origin List and the notices, in `u`: the frame stays in its place with its posting order, no longer on
the Line; but a RAISE whose withdrawal was pending closes its record, a RESTATE gives way to the WITHDRAW that waited for
its place, and a BID or LAPSE leaves in LEAVING and follows its choice in every other state. -/
abbrev State.keepsQueued (s u : State) (q : Queued) : Prop :=
  let kept := s.queue.map fun g => { g with onLine := false }
  let others : Place → List QueuedFrame := fun p => kept.filter fun g => g.frame.place ≠ p
  let unchanged := u.queue = kept ∧ u.origin = s.origin ∧ u.notices = s.notices
  ((∃ id, q.place = .held id) ∨ q.isWithdraw = true ∨ q.place = .join → unchanged)
    ∧ (∀ (id : Identity) (r : OriginRecord), q.place = .identity id → q.isWithdraw = false → r ∈ s.origin →
        r.serial = id.serial →
        (r.state = .live ∨ (r.state = .queued ∧ r.withdrawPending = false) → unchanged)
        ∧ (r.state = .queued → r.withdrawPending = true →
            u.queue = others q.place ∧ u.notices = s.notices ++ [.withdrawn id]
            ∧ u.origin = s.origin.map fun x =>
                if x.serial = id.serial then { x with state := .closed .withdrawn, withdrawPending := false } else x)
        ∧ (r.state = .withdrawing → u.origin = s.origin ∧ u.notices = s.notices
            ∧ ∃ e ∈ s.table, e.id = id
              ∧ u.queue = others q.place ++ [{ frame := .withdraw id e.priority, onLine := false }]))
    ∧ (q.place = .bid → u.origin = s.origin ∧ u.notices = s.notices
        ∧ (u.queue.filter fun g => g.frame.place ≠ .bid) = others .bid
        ∧ (s.station = .leaving → framePlaced u.queue .bid = none)
        ∧ (s.station = .active → u.BidPlaceFollows))
    ∧ (q.place = .lapse → u.origin = s.origin ∧ u.notices = s.notices
        ∧ (u.queue.filter fun g => g.frame.place ≠ .lapse) = others .lapse
        ∧ (s.station = .leaving → framePlaced u.queue .lapse = none)
        ∧ (s.station = .active →
            (framePlaced u.queue .lapse = none ↔ ∀ e ∈ s.table, e.claim.any Claim.expired = false)
            ∧ ∀ g ∈ u.queue, g.frame.place = .lapse →
                ∃ e ∈ s.table, s.OldestExpired e
                  ∧ (g.frame = .lapse e.id e.priority e.attempt ∨ (g.frame = q ∧ q.lapses e.id = true))))

/-! ### Changes of station state -/

/-- Figure 7-1: the state may change from the first to the second in one step: it stays, or takes a transition of the
figure, or takes the two transitions that one step can take together, ACTIVE to LEAVING to DETACHED (R150). -/
def StationState.mayBecome : StationState → StationState → Bool
  | _, .config => true
  | .config, .listen => true
  | .listen, .listen => true
  | .listen, .active => true
  | .listen, .mute => true
  | .active, .active => true
  | .active, .leaving => true
  | .active, .detached => true
  | .active, .mute => true
  | .active, .listen => true
  | .leaving, .leaving => true
  | .leaving, .detached => true
  | .leaving, .mute => true
  | .leaving, .listen => true
  | .detached, .detached => true
  | .detached, .listen => true
  | .mute, .mute => true
  | .mute, .listen => true
  | _, _ => false

end Sys2Proof.Machine
end

