-- ==== Sys2Proof/WellFormed.lean ====
section
/-! DEFINITION. Well-formed commands: a command that the Local Port or the Line can carry. A request body
has at most 32 bytes (R173) and a payload at most 8 (Table 3-3); every other operand is held to its range by
its type. A command that is not well-formed still has its meaning: the part answers it MALFORMED, or objects
to it. -/

namespace Sys2Proof

/-- A request body: the length byte is at most 32 (R173). -/
def bodyWf (body : List Byte) : Bool := body.length ≤ 32

/-- A frame's payload: the length field is at most 8 (Table 3-6). -/
def Header.wf (h : Header) : Bool := h.payload.length ≤ 8

/-- The frame's header is well-formed; its other fields are held to their ranges by their types. -/
def Frame.wf (f : Frame) : Bool := f.head.wf

/-- The command can be carried by the Local Port or by the Line as it stands. -/
def Instr.wf : Instr → Bool
  | .pinReset => true
  | .selFallingEdge => true
  | .selRisingEdge _ => true
  | .malformed _ => true
  | .nop b => bodyWf b
  | .setup b => bodyWf b
  | .classPage b => bodyWf b
  | .start b => bodyWf b
  | .raiseRequest b => bodyWf b
  | .withdrawRequest b => bodyWf b
  | .take b => bodyWf b
  | .finishRequest b => bodyWf b
  | .releaseRequest b => bodyWf b
  | .notice b => bodyWf b
  | .status b => bodyWf b
  | .lookup b => bodyWf b
  | .find b => bodyWf b
  | .leave b => bodyWf b
  | .rejoin b => bodyWf b
  | .restart b => bodyWf b
  | .restartProceeds => true
  | .deadlineTick => true
  | .claimantExpiry _ => true
  | .expiredMark _ => true
  | .frameStart _ => true
  | .raiseFrame h _ _ _ _ => h.wf
  | .bidFrame h _ => h.wf
  | .finishFrame h _ _ => h.wf
  | .releaseFrame h _ _ => h.wf
  | .lapseFrame h _ => h.wf
  | .withdrawFrame h _ => h.wf
  | .freshJoin h _ => h.wf
  | .join h _ => h.wf
  | .restateFrame h _ _ _ _ _ _ _ => h.wf
  | .frameRefused => true
  | .frameCorrupted _ => true
  | .arbitrationLost => true
  | .stuckLine => true
  | .recoveryComplete => true
  | .spacingComplete => true
  | .startUpIdle => true
  | .joinWindowEnd => true
  | .leaveDrainComplete => true
  | .frameTakenNowhere _ _ => true
  | .endOfPinReset => true

end Sys2Proof
end

