-- ==== Sys2Proof/Certificates/Slice0/Obligations.lean ====
section
/-! DEFINITION. The statements about the Orlep 4816 that the provers settle: the machine's step, the pins and the
Local Port, each request, the deadline timers, the frames of peers and of this station, the Line, the bits of a
frame, and the laws that every step keeps. -/

open Sys2Proof Sys2Proof.Machine

/-! ### The step -/

/-- A step takes the command at the front of the queue and executes it on the state with the queue's rest. That a
step always has a next state is the model's choice: a bit time passes while no command waits (log entry 2), and a command
whose event cannot occur changes nothing (log entry 3). -/
def Obligations.StepRunsFrontCommand : Prop :=
  ∀ s : State,
    (∀ (c : Instr) (rest : List Instr), s.pending = c :: rest → step s = exec c { s with pending := rest })
    ∧ ∃ t : State, step s = .next t

/-! ### Pins -/

/-- R159, with the after-reset values of Tables 7-1, 8-1 and 9-1 and of R76: PIN_RESET, in any state; SEL and the
commands that wait are outside the reset. R22 and R177: END_OF_PIN_RESET restarts the deadline tick; with SEL low at
that moment no transaction is open, and the next rising edge takes no request. The divider's 0 is the model's choice (log
entry 23), and so are firstSpacing, txSent and what was driven (log entry 24). -/
def Obligations.PinResetClearsEveryBlock : Prop :=
  ∀ (s : State) (bytes : List Byte),
    exec .pinReset s = .next
      { pending := s.pending, inReset := true, divider := 0
        config :=
          { address := none, rate := 0, slots := 1
            classes := Vector.replicate 8 (Vector.replicate 8
              { defined := false, capable := false, priority := 7, deadline := 1, limit := 1 }) }
        ctl :=
          { state := .config, freshOwed := false, joinStage := none, draining := false, muteCause := .noCause
            restartWaiting := false }
        liu :=
          { phase := .idle, failures := 0, alone := false, startUpIdle := 0, recessive := 0, dominant := 0
            idle := 0, firstSpacing := false, txSent := 0, droveAccept := false, droveObject := false
            droveRun := false }
        table := [], queue := [], image := none, held := [], origin := [], serialCounter := 0, notices := []
        port :=
          { selLow := s.port.selLow, transaction := .closed, shiftOut := [], pendingReply := none
            processing := none, restartClose := false } }
    ∧ (s.inReset = true →
        exec .endOfPinReset s = .next { s with inReset := false, divider := 0 }
        ∧ (s.port.transaction = .closed → s.port.selLow = true →
            exec (.selRisingEdge bytes) { s with inReset := false, divider := 0 } = .next
              { s with inReset := false, divider := 0
                       port := { s.port with selLow := false, shiftOut := [] } }))

/-- R171 and R172: the edges of SEL. SEL_FALLING_EDGE decides what is shifted out, with the markers of Table 9-2
and the outcome codes of Table 9-4; SEL_RISING_EDGE ends an open transaction, with the restart close set and clear, or an open-BUSY one. -/
def Obligations.SelEdgesOpenAndCloseTransactions : Prop :=
  ∀ (s : State) (bytes : List Byte),
    (s.inReset = false → s.port.selLow = false →
      (s.port.processing.isSome →
        exec .selFallingEdge s = .next
          { s with port := { s.port with selLow := true, transaction := .busy, shiftOut := [0x3C] } })
      ∧ (∀ r : Reply, s.port.processing = none → s.port.pendingReply = some r →
        exec .selFallingEdge s = .next
          { s with port := { s.port with
              selLow := true, transaction := .opened
              shiftOut := 0x96 :: r.code ::
                (match r.outcome with
                | .ok => 0x00
                | .empty => 0x01
                | .atEnd => 0x02
                | .malformed => 0x03
                | .state => 0x04
                | .badArg => 0x05
                | .full => 0x06
                | .unknown => 0x07
                | .late => 0x08) :: BitVec.ofNat 8 r.body.length :: r.body } })
      ∧ (s.port.processing = none → s.port.pendingReply = none →
        exec .selFallingEdge s = .next
          { s with port := { s.port with selLow := true, transaction := .opened, shiftOut := [0x69] } }))
    ∧ (s.port.selLow = true →
      (s.port.transaction = .opened → s.port.restartClose = true →
        exec (.selRisingEdge bytes) s = .next
          { s with port := { s.port with
              selLow := false, transaction := .closed, shiftOut := [], pendingReply := none
              restartClose := false } })
      ∧ (s.port.transaction = .opened → s.port.restartClose = false →
        exec (.selRisingEdge bytes) s = .next
          { s with port := { s.port with
              selLow := false, transaction := .closed, shiftOut := [], pendingReply := none
              processing := some (Request.ofBytes bytes) } })
      ∧ (s.port.transaction = .busy →
        exec (.selRisingEdge bytes) s = .next
          { s with port := { s.port with selLow := false, transaction := .closed, shiftOut := [] } }))

/-! ### Requests of the Local Port -/

/-- R173: the bytes of a taken request are malformed in exactly the four cases of the rule, and MALFORMED then
answers with the code as received, or FFh; bytes that are not malformed spell their code and body. That
MALFORMED then changes nothing is the model's choice (log entry 3). -/
def Obligations.MalformedRequestAnswered : Prop :=
  ∀ (s : State) (bytes : List Byte),
    s.inReset = false → s.port.processing = some (Request.ofBytes bytes) →
      (bytes.length < 2 ∨ 15 < (bytes.getD 0 0).toNat ∨ 32 < (bytes.getD 1 0).toNat
          ∨ bytes.length < 2 + (bytes.getD 1 0).toNat →
        exec (.malformed bytes) s = .next (s.replied (bytes.headD 0xFF) .malformed []))
      ∧ (¬ (bytes.length < 2 ∨ 15 < (bytes.getD 0 0).toNat ∨ 32 < (bytes.getD 1 0).toNat
          ∨ bytes.length < 2 + (bytes.getD 1 0).toNat) →
        s.port.processing = some (.good (bytes.getD 0 0) ((bytes.drop 2).take (bytes.getD 1 0).toNat))
          ∧ exec (.malformed bytes) s = .next s)

/-- R162: SETUP. The manual names the addresses 0 and 63 as refused; that the bytes above 63 are refused too is
read from Table 8-1 (log entry 14). -/
def Obligations.SetupWritesAllOrNothing : Prop :=
  ∀ (s : State) (body : List Byte),
    s.inProcessing 0x01 body →
      (s.station ≠ .config → exec (.setup body) s = .next (s.replied 0x01 .state []))
      ∧ (s.station = .config → body.length ≠ 3 → exec (.setup body) s = .next (s.replied 0x01 .badArg []))
      ∧ (∀ address rate slots : Byte, s.station = .config → body = [address, rate, slots] →
          (address.toNat = 0 ∨ 62 < address.toNat ∨ 3 < rate.toNat ∨ slots.toNat = 0 ∨ 4 < slots.toNat →
            exec (.setup body) s = .next (s.replied 0x01 .badArg []))
          ∧ (1 ≤ address.toNat ∧ address.toNat ≤ 62 ∧ rate.toNat ≤ 3 ∧ 1 ≤ slots.toNat ∧ slots.toNat ≤ 4 →
            exec (.setup body) s = .next
              { s.replied 0x01 .ok [] with
                config := { s.config with
                  address := some (address.setWidth 6), rate := rate.setWidth 2, slots := slots.toNat } }))

/-- R164, with the layout of R163 and Table 9-9: CLASS writes the eight entries of one page, or nothing. Entry `i` of
the body is that of class 8p + i, and every other class keeps its entry. -/
def Obligations.ClassWritesOnePage : Prop :=
  ∀ (s : State) (body : List Byte),
    s.inProcessing 0x02 body →
      (s.station ≠ .config → exec (.classPage body) s = .next (s.replied 0x02 .state []))
      ∧ (s.station = .config → body = [] → exec (.classPage body) s = .next (s.replied 0x02 .badArg []))
      ∧ ∀ (page : Byte) (es : List Byte), body = page :: es →
      (s.station = .config →
          (es.length ≠ 24 ∨ 7 < page.toNat
            ∨ ∃ i < 8, (es.getD (3 * i) 0) &&& 0x38 ≠ 0 ∨ es.getD (3 * i + 1) 0 = 0
                ∨ es.getD (3 * i + 2) 0 = 0 ∨ 7 < (es.getD (3 * i + 2) 0).toNat) →
          exec (.classPage body) s = .next (s.replied 0x02 .badArg []))
      ∧ (s.station = .config → es.length = 24 → page.toNat ≤ 7 →
          (∀ i < 8, (es.getD (3 * i) 0) &&& 0x38 = 0 ∧ es.getD (3 * i + 1) 0 ≠ 0
              ∧ es.getD (3 * i + 2) 0 ≠ 0 ∧ (es.getD (3 * i + 2) 0).toNat ≤ 7) →
          ∃ t : State, exec (.classPage body) s = .next t ∧ (
            t = { s.replied 0x02 .ok [] with config := { s.config with classes := t.config.classes } }
            ∧ ∀ c : ClassNo,
              ClassTable.entry t.config.classes c =
                if c.toNat / 8 = page.toNat then
                  { defined := (es.getD (3 * (c.toNat % 8)) 0).getLsbD 7
                    capable := (es.getD (3 * (c.toNat % 8)) 0).getLsbD 6
                    priority := (es.getD (3 * (c.toNat % 8)) 0).setWidth 3
                    deadline := es.getD (3 * (c.toNat % 8) + 1) 0
                    limit := (es.getD (3 * (c.toNat % 8) + 2) 0).setWidth 3 }
                else ClassTable.entry s.config.classes c))

/-- R142 and R153: START, with the LIU released as R76 has it, a body of any length, and the Class Table not looked at; and
REJOIN, by station state. In MUTE the WITHDRAWs owed are posted into the empty queue (R138). -/
def Obligations.StartAndRejoinEnterListen : Prop :=
  ∀ (s : State) (body : List Byte),
    (s.inProcessing 0x03 body →
      (s.station ≠ .config ∨ s.config.address = none →
        exec (.start body) s = .next (s.replied 0x03 .state []))
      ∧ (s.station = .config → s.config.address ≠ none →
        exec (.start body) s = .next
          { s.replied 0x03 .ok [] with
            ctl := { s.ctl with
              state := .listen, freshOwed := true, joinStage := some .idleWait, draining := false }
            liu := { s.liu with
              phase := .spacing, startUpIdle := 0, recessive := 0, dominant := 0, idle := 0
              firstSpacing := true, txSent := 0 } }))
    ∧ (s.Lawful → s.inProcessing 0x0E body →
      (s.station ≠ .mute → s.station ≠ .detached →
        exec (.rejoin body) s = .next (s.replied 0x0E .state []))
      ∧ (s.station = .detached →
        exec (.rejoin body) s = .next
          { s.replied 0x0E .ok [] with
            ctl := { s.ctl with state := .listen, freshOwed := true, joinStage := some .idleWait }
            liu := { s.liu with
              failures := 0, phase := .spacing, startUpIdle := 0, recessive := 0, dominant := 0, idle := 0
              firstSpacing := true, txSent := 0 } })
      ∧ (s.station = .mute →
        ∃ t : State, exec (.rejoin body) s = .next t ∧ (
          t = { s.replied 0x0E .ok [] with
            ctl := { s.ctl with state := .listen, joinStage := some .idleWait }
            liu := { s.liu with failures := 0, startUpIdle := 0 }
            queue := t.queue }
          ∧ t.queue.map (fun q => (q.frame.place, q.onLine))
            = (s.origin.filter fun r => r.state = .withdrawing).map
                (fun r => (Place.identity (s.ownId r.serial), false))
          ∧ ∀ q ∈ t.queue, ∃ e ∈ s.table, q.frame = .withdraw e.id e.priority)))

/-- R127, with R126 and the effect of R128: the RAISE request, by the checks of Table 6-3 in their order. The serial
assigned is the first that no record uses, counting up from the counter, and the counter then stands one above it. -/
def Obligations.RaiseRequestChecked : Prop :=
  ∀ (s : State) (body : List Byte),
    s.Lawful → s.inProcessing 0x04 body →
      (s.station ≠ .active → exec (.raiseRequest body) s = .next (s.replied 0x04 .state []))
      ∧ (s.station = .active → body = [] → exec (.raiseRequest body) s = .next (s.replied 0x04 .badArg []))
      ∧ ∀ (cls : Byte) (payload : List Byte), body = cls :: payload →
      (s.station = .active →
          63 < cls.toNat ∨ 8 < payload.length
            ∨ (ClassTable.entry s.config.classes (cls.setWidth 6)).defined = false →
          exec (.raiseRequest body) s = .next (s.replied 0x04 .badArg []))
      ∧ (s.station = .active → cls.toNat ≤ 63 → payload.length ≤ 8 →
          (ClassTable.entry s.config.classes (cls.setWidth 6)).defined = true →
          (s.origin.length = 8 ∨ s.table.length = 48 →
            exec (.raiseRequest body) s = .next (s.replied 0x04 .full []))
          ∧ (s.origin.length < 8 → s.table.length < 48 →
            ∃ t : State, exec (.raiseRequest body) s = .next t ∧ (
              (∃ k < 8, t.serialCounter - 1 = s.serialCounter + BitVec.ofNat 8 k
                ∧ ∀ j < k, ∃ r ∈ s.origin, r.serial = s.serialCounter + BitVec.ofNat 8 j)
              ∧ (∀ r ∈ s.origin, r.serial ≠ t.serialCounter - 1)
              ∧ t = { s.replied 0x04 .ok [t.serialCounter - 1] with
                  serialCounter := t.serialCounter
                  origin := s.origin ++
                    [{ serial := t.serialCounter - 1, state := .queued, withdrawPending := false }]
                  queue := s.queue ++
                    [{ frame := .raise (s.ownId (t.serialCounter - 1)) (cls.setWidth 6)
                         (ClassTable.entry s.config.classes (cls.setWidth 6)).priority
                         (ClassTable.entry s.config.classes (cls.setWidth 6)).limit
                         (ClassTable.entry s.config.classes (cls.setWidth 6)).deadline payload
                       onLine := false }] })))

/-- R130 and R132: the WITHDRAW request, row by row of Table 6-5. The WITHDRAW posted carries the
priority of its event's entry. -/
def Obligations.WithdrawRequestByRecord : Prop :=
  ∀ (s : State) (body : List Byte),
    s.Lawful → s.inProcessing 0x05 body →
      (s.station = .config → exec (.withdrawRequest body) s = .next (s.replied 0x05 .state []))
      ∧ (s.station ≠ .config → body.length ≠ 1 →
          exec (.withdrawRequest body) s = .next (s.replied 0x05 .badArg []))
      ∧ (∀ serial : Serial, s.station ≠ .config → body = [serial] →
          ((∀ r ∈ s.origin, r.serial ≠ serial) →
            exec (.withdrawRequest body) s = .next (s.replied 0x05 .unknown []))
          ∧ ∀ r ∈ s.origin, r.serial = serial →
            (r.isClosed = true → exec (.withdrawRequest body) s = .next (s.replied 0x05 .late []))
            ∧ (r.state = .withdrawing ∨ (r.state = .queued ∧ r.withdrawPending = true)
                ∨ (r.state = .live ∧ s.station = .mute) →
              exec (.withdrawRequest body) s = .next (s.replied 0x05 .state []))
            ∧ (r.state = .queued → r.withdrawPending = false → s.ownOnLine serial = true →
              exec (.withdrawRequest body) s = .next
                { s.replied 0x05 .ok [] with
                  origin := s.origin.map fun x =>
                    if x.serial = serial then { x with withdrawPending := true } else x })
            ∧ (r.state = .queued → r.withdrawPending = false → s.ownOnLine serial = false →
              exec (.withdrawRequest body) s = .next
                (State.replied (State.testDrain { s with
                    queue := s.queue.filter fun q => q.frame.place ≠ .identity (s.ownId serial)
                    origin := s.origin.map fun x =>
                      if x.serial = serial then { x with state := .closed .withdrawn } else x
                    notices := s.notices ++ [.withdrawn (s.ownId serial)] }) 0x05 .ok []))
            ∧ (r.state = .live → s.takesPosts = true →
              ∃ t : State, exec (.withdrawRequest body) s = .next t ∧ (
                t = { s.replied 0x05 .ok [] with
                  origin := s.origin.map fun x =>
                    if x.serial = serial then { x with state := .withdrawing } else x
                  queue := t.queue }
                ∧ (s.ownOnLine serial = true → t.queue = s.queue)
                ∧ (s.ownOnLine serial = false →
                  ∃ e ∈ s.table, e.id = s.ownId serial
                    ∧ t.queue =
                      (s.queue.filter fun q => q.frame.place ≠ .identity (s.ownId serial))
                        ++ [{ frame := .withdraw (s.ownId serial) e.priority, onLine := false }]))))

/-- R105, R106 and R180: the offered record is the oldest of the most urgent AWAITING records, provided it is strictly
more urgent than every IN_SERVICE record; there is no offer exactly when every AWAITING record has an IN_SERVICE record
at least as urgent; and ATTN is high exactly while a notice waits or there is an offer. -/
def Obligations.OfferIsMostUrgentAwaiting : Prop :=
  ∀ s : State,
    (∀ r : HeldRecord, s.offer = some r →
      ∃ older younger : List HeldRecord, s.held = older ++ r :: younger ∧ r.state = .awaiting
        ∧ (∀ q ∈ older, q.state = .awaiting → r.priority < q.priority)
        ∧ (∀ q ∈ younger, q.state = .awaiting → r.priority ≤ q.priority)
        ∧ (∀ q ∈ s.held, q.state = .inService → r.priority < q.priority))
    ∧ (s.offer = none ↔
        ∀ r ∈ s.held, r.state = .awaiting → ∃ q ∈ s.held, q.state = .inService ∧ q.priority ≤ r.priority)
    ∧ (s.attn = true ↔
        s.notices ≠ [] ∨ ∃ r ∈ s.held, r.state = .awaiting
          ∧ ∀ q ∈ s.held, q.state = .inService → r.priority < q.priority)

/-- R107, with the reply layout of Table 9-6: TAKE, in every station state. The bid choice is re-made after the
record's change of state (R101). -/
def Obligations.TakeServesTheOffer : Prop :=
  ∀ (s : State) (body : List Byte),
    s.inProcessing 0x06 body →
      (s.station = .config → exec (.take body) s = .next (s.replied 0x06 .state []))
      ∧ (s.station ≠ .config → s.offer = none → exec (.take body) s = .next (s.replied 0x06 .empty []))
      ∧ (∀ (r : HeldRecord) (e : Entry), s.station ≠ .config → s.offer = some r →
          findEntry s.table r.id = some e →
          exec (.take body) s = .next
            (State.replied (State.remakeBid { s with
                held := s.held.map fun x => if x.id = r.id then { x with state := .inService } else x })
              0x06 .ok
                ([e.id.origin.setWidth 8, e.id.serial, e.cls.setWidth 8, e.priority.setWidth 8,
                  e.attempt.setWidth 8, e.limit.setWidth 8, e.deadline] ++ e.payload)))

/-- R108 and R109: the FINISH request, step by step, for a body of fewer than three bytes too; and the RELEASE request, for
a record named by its identity, with a body of other than 2 bytes, and with no such record. An origin byte above 63 names
no record (log entry 16). -/
def Obligations.FinishAndReleaseRequestsByRecord : Prop :=
  ∀ (s : State) (body : List Byte),
    s.Lawful →
    (s.inProcessing 0x07 body →
      let command := exec (.finishRequest body) s
      (s.station = .config → command = .next (s.replied 0x07 .state []))
      ∧ (s.station ≠ .config → body.length < 3 → command = .next (s.replied 0x07 .badArg []))
      ∧ ∀ (origin serial result : Byte) (payload : List Byte), body = origin :: serial :: result :: payload →
      (s.station ≠ .config → 15 < result.toNat ∨ 4 < payload.length →
          command = .next (s.replied 0x07 .badArg []))
      ∧ (s.station ≠ .config → result.toNat ≤ 15 → payload.length ≤ 4 →
          (∀ r ∈ s.held, ¬ (r.id.origin.setWidth 8 = origin ∧ r.id.serial = serial)) →
          command = .next (s.replied 0x07 .unknown []))
      ∧ (s.station ≠ .config → result.toNat ≤ 15 → payload.length ≤ 4 →
          ∀ r ∈ s.held, r.id.origin.setWidth 8 = origin → r.id.serial = serial →
            (r.state = .closed → command = .next (s.replied 0x07 .late []))
            ∧ (r.state = .awaiting ∨ r.state = .ending ∨ (r.state = .inService ∧ s.station = .mute) →
                command = .next (s.replied 0x07 .state []))
            ∧ (r.state = .inService → s.takesPosts = true →
                command = .next
                  (State.replied (State.remakeBid { s with
                      queue := s.queue ++
                        [{ frame := .finish r.id r.priority r.attempt (result.setWidth 4) payload
                           onLine := false }]
                      held := s.held.map fun x => if x.id = r.id then { x with state := .ending } else x })
                    0x07 .ok []))))
    ∧ (s.inProcessing 0x08 body →
      (s.station = .config → exec (.releaseRequest body) s = .next (s.replied 0x08 .state []))
      ∧ (s.station ≠ .config → body.length ≠ 2 →
          exec (.releaseRequest body) s = .next (s.replied 0x08 .badArg []))
      ∧ (s.station ≠ .config → body.length = 2 →
          (∀ r ∈ s.held, body ≠ [r.id.origin.setWidth 8, r.id.serial]) →
          exec (.releaseRequest body) s = .next (s.replied 0x08 .unknown []))
      ∧ (s.station ≠ .config → ∀ r ∈ s.held, body = [r.id.origin.setWidth 8, r.id.serial] →
            (r.state = .closed → exec (.releaseRequest body) s = .next (s.replied 0x08 .late []))
            ∧ (r.state = .ending ∨ s.station = .mute ∧ r.state ≠ .closed →
                exec (.releaseRequest body) s = .next (s.replied 0x08 .state []))
            ∧ (r.state = .awaiting ∨ r.state = .inService → s.takesPosts = true →
                exec (.releaseRequest body) s = .next
                  (State.replied (State.remakeBid { s with
                      queue := s.queue ++ [{ frame := .release r.id r.priority r.attempt, onLine := false }]
                      held := s.held.map fun x => if x.id = r.id then { x with state := .ending } else x })
                    0x08 .ok []))))

/-- R186, with the reports of R187, R136 and R117 and the bytes of Table 9-8, R185: NOTICE pops the notice at the front.
A record that leaves the Held List has the bid choice re-made. -/
def Obligations.NoticePopsTheFront : Prop :=
  ∀ (s : State) (body : List Byte),
    s.Lawful → s.inProcessing 0x09 body →
      let named : Identity → List Byte := fun id => [id.origin.setWidth 8, id.serial]
      let bytes : Notice → List Byte := fun n =>
        match n with
        | .finished id claimant result payload =>
          1 :: named id ++ [claimant.setWidth 8, result.setWidth 8] ++ payload
        | .abandoned id attempts last => 2 :: named id ++ [attempts.setWidth 8, last.setWidth 8]
        | .withdrawn id => 3 :: named id
        | .refused id cause => 4 :: named id ++ [match cause with
            | .capacity => 0
            | .muted => 1]
        | .deadline id => 5 :: named id
        | .revoked id cause => 6 :: named id ++ [match cause with
            | .lapsed => 0
            | .withdrawn => 1
            | .originRestarted => 2]
        | .station causes => [7, match s.station with
            | .config => 0
            | .listen => 1
            | .active => 2
            | .leaving => 3
            | .detached => 4
            | .mute => 5, causes]
      (s.notices = [] → exec (.notice body) s = .next (s.replied 0x09 .empty []))
      ∧ (∀ (n : Notice) (rest : List Notice) (id : Identity), s.notices = n :: rest → n.finalFor id = true →
          exec (.notice body) s = .next
            { s.replied 0x09 .ok (bytes n) with
              notices := rest, origin := s.origin.filter fun r => r.serial ≠ id.serial })
      ∧ (∀ (n : Notice) (rest : List Notice) (r : HeldRecord), s.notices = n :: rest → r ∈ s.held →
          n.deadlineFor r.id = true ∨ n.revokedFor r.id = true →
          (r.state = .closed ∧ r.unread = 1 →
            exec (.notice body) s = .next
              (State.replied (State.remakeBid { s with
                  notices := rest, held := s.held.filter fun x => x.id ≠ r.id })
                0x09 .ok (bytes n)))
          ∧ (r.state ≠ .closed ∨ r.unread ≠ 1 →
            exec (.notice body) s = .next
              { s.replied 0x09 .ok (bytes n) with
                notices := rest
                held := s.held.map fun x => if x.id = r.id then { x with unread := x.unread - 1 } else x }))
      ∧ (∀ (causes : Byte) (rest : List Notice), s.notices = .station causes :: rest →
          exec (.notice body) s = .next
            { s.replied 0x09 .ok (bytes (.station causes)) with notices := rest })

/-- R190, R192, R193, and NOP of Table 9-3: NOP is answered OK, STATUS with the ten bytes of Table 9-7, and LOOKUP by
position with the entry record of Table 9-11, END past the last entry, BADARG past position 47. None of them changes
anything but the reply. -/
def Obligations.ReadingRequestsOnlyReply : Prop :=
  ∀ (s : State) (body : List Byte),
    (s.inProcessing 0x00 body → exec (.nop body) s = .next (s.replied 0x00 .ok []))
    ∧ (s.inProcessing 0x0A body →
      exec (.status body) s = .next
        (s.replied 0x0A .ok
          [match s.station with
            | .config => 0
            | .listen => 1
            | .active => 2
            | .leaving => 3
            | .detached => 4
            | .mute => 5,
           match s.config.address with
            | some a => a.setWidth 8
            | none => 0,
           if s.liu.alone then 1 else 0,
           BitVec.ofNat 8 s.table.length, BitVec.ofNat 8 s.origin.length, BitVec.ofNat 8 s.held.length,
           BitVec.ofNat 8 s.queue.length, BitVec.ofNat 8 s.notices.length, BitVec.ofNat 8 s.liu.failures,
           match s.ctl.muteCause with
            | .noCause => 0
            | .failures => 1
            | .addressClash => 2]))
    ∧ (s.inProcessing 0x0B body →
      (body.length ≠ 1 → exec (.lookup body) s = .next (s.replied 0x0B .badArg []))
      ∧ (∀ position : Byte, body = [position] →
          (47 < position.toNat → exec (.lookup body) s = .next (s.replied 0x0B .badArg []))
          ∧ (position.toNat ≤ 47 → s.table.length ≤ position.toNat →
              exec (.lookup body) s = .next (s.replied 0x0B .atEnd []))
          ∧ (∀ e : Entry, position.toNat ≤ 47 → s.table[position.toNat]? = some e →
              exec (.lookup body) s = .next
                (s.replied 0x0B .ok
                  ([e.id.origin.setWidth 8, e.id.serial, e.cls.setWidth 8, e.priority.setWidth 8,
                    match e.claim with
                    | none => 0
                    | some c => if c.expired then 3 else 1,
                    match e.claim with
                    | none => 0
                    | some c => c.claimant.setWidth 8,
                    match e.lastClaimant with
                    | none => 0
                    | some a => a.setWidth 8,
                    e.attempt.setWidth 8, e.limit.setWidth 8, e.deadline,
                    match e.claim with
                    | none => 0
                    | some c => c.remaining] ++ e.payload)))))

/-- R194, R195 and R196: FIND. A body of other than six bytes, or with one out of range, is refused; otherwise the
reply is the first entry, at or after the start position, that passes the five tests, or END when there is none. -/
def Obligations.FindGivesTheFirstFit : Prop :=
  ∀ (s : State) (body : List Byte),
    s.inProcessing 0x0C body →
      let command := exec (.find body) s
      (body.length ≠ 6 → command = .next (s.replied 0x0C .badArg []))
      ∧ ∀ start cls origin state claimant bound : Byte, body = [start, cls, origin, state, claimant, bound] →
      let good : Bool :=
        start.toNat ≤ 47 ∧ (cls.toNat ≤ 63 ∨ cls = 0xFF)
          ∧ ((1 ≤ origin.toNat ∧ origin.toNat ≤ 62) ∨ origin = 0xFF)
          ∧ (state = 0 ∨ state = 1 ∨ state = 0xFF)
          ∧ ((1 ≤ claimant.toNat ∧ claimant.toNat ≤ 62) ∨ claimant = 0xFF) ∧ bound.toNat ≤ 7
      let fits : Entry → Bool := fun e =>
        (cls = 0xFF ∨ cls = e.cls.setWidth 8) ∧ (origin = 0xFF ∨ origin = e.id.origin.setWidth 8)
          ∧ (state = 0xFF ∨ (state = 0 ∧ e.claim = none) ∨ (state = 1 ∧ e.claim ≠ none))
          ∧ (claimant = 0xFF ∨ e.claim.map (fun c => c.claimant.setWidth 8) = some claimant)
          ∧ e.priority.toNat ≤ bound.toNat
      (good = false → command = .next (s.replied 0x0C .badArg []))
      ∧ (good = true →
          (∀ (p : Nat) (e : Entry), start.toNat ≤ p → s.table[p]? = some e → fits e = true →
            (∀ (q : Nat) (x : Entry), start.toNat ≤ q → q < p → s.table[q]? = some x → fits x = false) →
            command = .next (s.replied 0x0C .ok (BitVec.ofNat 8 p :: e.record)))
          ∧ ((∀ (p : Nat) (e : Entry), start.toNat ≤ p → s.table[p]? = some e → fits e = false) →
            command = .next (s.replied 0x0C .atEnd [])))

/-- R150, with R118 and R137: LEAVE in ACTIVE, before the drain test it ends with; STATE in every other state. -/
def Obligations.LeaveStartsTheDrain : Prop :=
  ∀ (s : State) (body : List Byte),
    s.Lawful → s.inProcessing 0x0D body →
      (s.station ≠ .active → exec (.leave body) s = .next (s.replied 0x0D .state []))
      ∧ (s.station = .active →
          ∃ u : State, exec (.leave body) s = .next (u.testDrain.replied 0x0D .ok []) ∧ (
            u = { s with
              ctl := { s.ctl with state := .leaving, draining := true }
              held := s.held.map fun r => if r.state = .awaiting then { r with state := .ending } else r
              origin := s.origin.map fun r =>
                match r.state with
                | .queued =>
                  if s.ownOnLine r.serial then { r with withdrawPending := true }
                  else { r with state := .closed .withdrawn }
                | .live => { r with state := .withdrawing }
                | .withdrawing => r
                | .closed _ => r
              notices := s.notices ++ (s.origin.filter fun r => r.state = .queued ∧ ¬ s.ownOnLine r.serial).map
                (fun r => .withdrawn (s.ownId r.serial))
              queue := u.queue }
            ∧ (∀ q ∈ u.queue, q.frame.place = .bid ∨ q.frame.place = .lapse → q.onLine = true)
            ∧ (∀ q ∈ s.queue, q.onLine = true → q ∈ u.queue)
            ∧ (∀ r ∈ s.held, r.state = .awaiting →
                { frame := .release r.id r.priority r.attempt, onLine := false } ∈ u.queue)
            ∧ (∀ q ∈ s.queue, (∃ id, q.frame.place = .held id) ∨ q.frame.isWithdraw = true → q ∈ u.queue)
            ∧ (∀ r ∈ s.origin, r.state = .live → s.ownOnLine r.serial = false →
                ∃ e ∈ s.table, e.id = s.ownId r.serial
                  ∧ { frame := .withdraw e.id e.priority, onLine := false } ∈ u.queue
                  ∧ ∀ q ∈ u.queue, q.frame.place = .identity e.id → q.frame.isWithdraw = true)
            ∧ (∀ r ∈ s.origin, r.state = .queued → s.ownOnLine r.serial = false →
                ∀ q ∈ u.queue, q.frame.place ≠ .identity (s.ownId r.serial))))

/-- R157: RESTART in CONFIG, with no own frame on the Line, and with one; and the end of the wait, at each outcome: LOST,
REFUSED and CORRUPTED, TAKEN, and a stuck Line, each with the restart that follows at once. R158, with R76, R122, R139 and
R176: what the restart does, as one change; from DETACHED the LIU is released, and from any other state its phase and
counts are kept. RESTART_PROCEEDS taken with no RESTART in processing and none waiting is the model's choice (log entries
4 and 10). -/
def Obligations.RestartWaitsForOwnFrame : Prop :=
  ∀ (s : State) (body : List Byte),
    (s.inProcessing 0x0F body →
      (s.station = .config → exec (.restart body) s = .next (s.replied 0x0F .state []))
      ∧ (s.station ≠ .config → s.image = none →
          exec (.restart body) s = exec .restartProceeds { s with port := { s.port with processing := none } })
      ∧ (s.station ≠ .config → s.image ≠ none → s.ctl.restartWaiting = false →
          exec (.restart body) s = .next
            { s with ctl := { s.ctl with restartWaiting := true }
                     port := { s.port with pendingReply := none } }))
    ∧ (s.inReset = false → s.liuHeld = false → s.image ≠ none → s.ctl.restartWaiting = true →
      ∀ (c : Instr) (phase : LinePhase),
        (c = .arbitrationLost ∧ s.liu.phase = .arbitrating ∧ phase = .receiving)
          ∨ ((c = .frameRefused ∨ ∃ e, c = .frameCorrupted e) ∧ phase = .spacing)
          ∨ ((∃ (f : Frame) (accept : Level), s.image.map TransmitImage.frame = some f ∧ c = frameCommand f accept)
              ∧ phase = .spacing)
          ∨ (c = .stuckLine ∧ s.liu.phase ≠ .recovering ∧ phase = .recovering) →
        ∃ (t : State) (l : Liu), exec c s = .next t
          ∧ exec .restartProceeds { s with image := none, liu := l } = .next t ∧ l.phase = phase)
    ∧ (s.inReset = false → s.station ≠ .config → s.image = none →
      s.ctl.restartWaiting = true ∨ s.port.processing = none →
      exec .restartProceeds s = .next
        { s with
          ctl :=
            { state := .listen, freshOwed := true, joinStage := some .idleWait, draining := false
              muteCause := s.ctl.muteCause, restartWaiting := false }
          liu :=
            if s.station = .detached then
              { s.liu with
                failures := 0, alone := false, phase := .spacing, startUpIdle := 0, recessive := 0
                dominant := 0, idle := 0, firstSpacing := true, txSent := 0 }
            else { s.liu with failures := 0, alone := false, startUpIdle := 0 }
          table := [], queue := [], image := none, held := [], origin := [], serialCounter := 0
          notices := [.station 0x80]
          port := { s.port with
            pendingReply := some { code := 0x0F, outcome := .ok, body := [] }, processing := none
            restartClose := true } })

/-! ### Deadline timers -/

/-- R11, with R15, R16 and R115: DEADLINE_TICK. Every timer above 0 falls by 1; one that reaches 0 sets the expired
mark at a station that is not the claimant, and queues a DEADLINE notice in table order at the claimant; the LAPSE choice is
then re-made (R17). The divider is 0 after a commanded tick (log entry 23). -/
def Obligations.DeadlineTickCountsDown : Prop :=
  ∀ s : State,
    s.Lawful → s.inReset = false →
      ∃ t : State, exec .deadlineTick s = .next t ∧ (
        t = { s with
          divider := 0
          table := s.table.map fun e =>
            match e.claim with
            | none => e
            | some c =>
              if c.remaining = 0 then e
              else
                { e with claim := some { c with
                    remaining := c.remaining - 1
                    expired := c.expired || (c.remaining = 1 && c.claimant ≠ s.address) } }
          held := s.held.map fun r =>
            if s.table.any fun e =>
                e.claim.any (fun c => c.remaining = 1 ∧ c.claimant = s.address) ∧ r.overruns e.id e.attempt then
              { r with deadlineNoticed := true, unread := r.unread + 1 }
            else r
          notices := s.notices ++ s.table.flatMap fun e =>
            if e.claim.any fun c => c.remaining = 1 ∧ c.claimant = s.address then
              overrunNotice s.held e.id e.attempt
            else []
          queue := t.queue }
        ∧ (t.queue.filter fun q => q.frame.place ≠ .lapse) = (s.queue.filter fun q => q.frame.place ≠ .lapse)
        ∧ (s.station ≠ .active → t.queue = s.queue)
        ∧ (s.station = .active → framePlaced s.queue .lapse = none →
            t.LapsePlaceFollows ∧ ∀ e ∈ t.table, t.OldestExpired e →
              t.queue = s.queue ++ [{ frame := .lapse e.id e.priority e.attempt, onLine := false }]))

/-- R15, R16, R17 and R115: CLAIMANT_EXPIRY of an entry that this station claims, with and without a record, and with
the record's DEADLINE already queued; EXPIRED_MARK of an entry that another station claims, which in ACTIVE has the
LAPSE choice re-made, and the LAPSE place follow it, and in every other state posts nothing. The timer then holds 0 (log entry 6). -/
def Obligations.ExpiryActsByClaimant : Prop :=
  ∀ (s : State) (e : Entry) (c : Claim),
    s.Lawful → e ∈ s.table → e.claim = some c →
      (c.claimant = s.address →
        exec (.claimantExpiry e.id) s = .next
          { s with
            table := s.table.map fun x =>
              if x.id = e.id then { x with claim := some { c with remaining := 0 } } else x
            held := overrunHeld s.held e.id e.attempt
            notices := s.notices ++ overrunNotice s.held e.id e.attempt })
      ∧ (c.claimant ≠ s.address →
        ∃ t : State, exec (.expiredMark e.id) s = .next t ∧ (
          t = { s with
            table := s.table.map fun x =>
              if x.id = e.id then { x with claim := some { c with remaining := 0, expired := true } } else x
            queue := t.queue }
          ∧ (s.station ≠ .active → t.queue = s.queue)
          ∧ (s.station = .active → (∃ q ∈ t.queue, q.frame.place = .lapse) ∧ s.LapsePlaceRemade t)
          ∧ (t.queue.filter fun q => q.frame.place ≠ .lapse) = s.queue.filter fun q => q.frame.place ≠ .lapse))

/-! ### Causes and bit times -/

/-- R149, R184 and Table 9-8: a cause that is raised joins the cause set of the STATION notice that waits, in its place,
or queues a new one holding it alone at the end; nothing else changes. -/
def Obligations.CauseJoinsTheStationNotice : Prop :=
  ∀ (s : State) (c : StationCause),
    let bit : Byte := match c with
      | .joined => 0x01
      | .alone => 0x02
      | .peered => 0x04
      | .muted => 0x08
      | .detached => 0x10
      | .lineFault => 0x20
      | .addressClash => 0x40
      | .restarted => 0x80
    ((∀ n ∈ s.notices, ∀ causes : Byte, n ≠ .station causes) →
      s.raiseCause c = { s with notices := s.notices ++ [.station bit] })
    ∧ (∀ (before later : List Notice) (causes : Byte), s.notices = before ++ .station causes :: later →
        (∀ n ∈ before ++ later, ∀ other : Byte, n ≠ .station other) →
        s.raiseCause c = { s with notices := before ++ .station (causes ||| bit) :: later })

/-- The model's step while no command waits (log entry 2): one bit time. A station that is ready on an idle Line starts
(R62). Otherwise CLK advances the divider by the periods of Table 3-1, and a deadline tick falls at 160,000 (R11, R51),
before the sample (log entry 30). A station that sends samples its own bit as sent; a quiet Line gives a recessive sample:
the eighth of a spacing and the sixteenth of a recovery bring the LIU to IDLE, the sixteenth of the start-up count has the
JOIN posted, and the thirty-second of the idle count ends the join window (R60, R61, R75, R143, R147). The idle count is 0
at entry to SLOTS (R60). That the counts stop at 16 and 32 is the model's choice (log entry 11), and so are the divider's
keeping what is over at a tick (log entry 23) and txSent (log entry 24). -/
def Obligations.BitTimePassesOnEmptyQueue : Prop :=
  ∀ s : State,
    s.Lawful → s.CountLaw → s.pending = [] →
      let periods : Nat := match s.config.rate.toNat with
        | 0 => 320
        | 1 => 160
        | 2 => 80
        | _ => 40
      (s.inReset = true → step s = .next s)
      ∧ (s.liuHeld = false → s.liu.phase = .idle → s.readyToStart = true →
          step s = exec (.frameStart .alone) s)
      ∧ (s.inReset = false → s.liuHeld = true ∨ s.liu.phase ≠ .idle ∨ s.readyToStart = false →
        ∃ d : State,
          (s.divider + periods < 160000 → d = { s with divider := s.divider + periods })
          ∧ (160000 ≤ s.divider + periods →
              ∃ k : State, exec .deadlineTick s = .next k ∧ d = { k with divider := s.divider + periods - 160000 })
          ∧ (s.liuHeld = true ∨ s.liu.phase = .receiving ∨ s.liu.phase = .slots → step s = .next d)
          ∧ (∀ (img : TransmitImage) (b : Bool), s.image = some img → img.bits[s.liu.txSent]? = some b →
              s.liu.phase = .arbitrating ∨ s.liu.phase = .sending → b = true ∨ s.liu.dominant < 11 →
              ∃ t : State, step s = .next t ∧ (
                t = { d with liu := t.liu } ∧ t.liu.txSent = s.liu.txSent + 1
                ∧ t.liu.failures = s.liu.failures ∧ t.liu.alone = s.liu.alone
                ∧ t.liu.dominant = (if b then 0 else s.liu.dominant + 1)
                ∧ t.liu.recessive = (if b then min (s.liu.recessive + 1) 16 else 0)
                ∧ t.liu.idle = (if t.liu.phase = .slots ∨ b = false then 0 else min (s.liu.idle + 1) 32)
                ∧ t.liu.phase =
                    if s.liu.txSent + 1 < img.frame.arbitrationLength then .arbitrating
                    else if s.liu.txSent + 1 < img.bits.length then .sending else .slots))
          ∧ (s.liuHeld = false → s.liu.phase = .idle ∨ s.liu.phase = .spacing ∨ s.liu.phase = .recovering →
              let recovered : Bool := s.liu.phase = .recovering ∧ 15 ≤ s.liu.recessive
              let spaced : Bool := s.liu.phase = .spacing ∧ 7 ≤ s.liu.recessive
              let started : Bool := recovered ∨ s.liu.startUpIdle = 15
              ∃ t : State, step s = .next t ∧ (
                t.liu.failures = s.liu.failures ∧ t.liu.alone = s.liu.alone ∧ t.liu.dominant = 0
                ∧ t.liu.recessive = min (s.liu.recessive + 1) 16
                ∧ t.liu.startUpIdle = (if recovered then 16 else min (s.liu.startUpIdle + 1) 16)
                ∧ t.liu.phase = (if recovered ∨ spaced then .idle else s.liu.phase)
                ∧ (recovered = false → spaced = false → t.liu.idle = min (s.liu.idle + 1) 32)
                ∧ (s.ctl.joinStage ≠ some .idleWait → s.ctl.joinStage ≠ some .window → t = { d with liu := t.liu })
                ∧ (s.ctl.joinStage = some .idleWait →
                    t = if started then
                        { d with
                          liu := t.liu
                          ctl := { s.ctl with joinStage := some .joinSending }
                          queue := d.queue ++ [{ frame := .join s.ctl.freshOwed, onLine := false }] }
                      else { d with liu := t.liu })
                ∧ (s.ctl.joinStage = some .window →
                    (s.liu.idle ≠ 31 → t = { d with liu := t.liu })
                    ∧ (s.liu.idle = 31 →
                        t = { d with
                          liu := t.liu
                          ctl := { s.ctl with state := .active, joinStage := none }
                          notices := (d.raiseCause .joined).notices
                          queue := t.queue }
                        ∧ t.BidPlaceFollows ∧ t.LapsePlaceFollows)))))

/-! ### Starting a frame -/

/-- R61, R62, R84 and R85: a station that is ready starts on an idle Line, or joins a start edge that it sees, in IDLE or
after the seventh recessive sample of a spacing other than the first (R60, R76), with the frame of the lowest arbitration
field, the earliest posted among equals. A station that is not ready receives the frame whose start edge it sees. An edge
at any other moment of a spacing starts no frame, and only the counts of samples change (R60). That the first dominant
sample after an edge counts 1 follows from the edge (R74). -/
def Obligations.FrameStartSelectsLowestKey : Prop :=
  ∀ (s : State) (edge : StartEdge),
    s.liuHeld = false →
      let startEdge : Prop :=
        s.liu.phase = .idle
          ∨ (edge = .peerEdge ∧ s.liu.phase = .spacing ∧ s.liu.firstSpacing = false ∧ 7 ≤ s.liu.recessive)
      (startEdge → s.takesPosts = true → s.liu.startUpIdle = 16 → s.frameOnLine = none → s.image = none →
        s.candidates ≠ [] →
        ∃ c ∈ s.candidates,
          (∀ x ∈ s.candidates.takeWhile (fun x => x ≠ c),
            c.2.arbitrationField.toNat < x.2.arbitrationField.toNat)
          ∧ (∀ x ∈ s.candidates, c.2.arbitrationField.toNat ≤ x.2.arbitrationField.toNat)
          ∧ exec (.frameStart edge) s = .next
              { s with
                queue := s.queue.map fun g =>
                  if g.frame.place = c.1.frame.place then { g with onLine := true } else g
                image := some { frame := c.2, bits := c.2.wireBits }
                liu := { s.liu with phase := .arbitrating, dominant := 0, txSent := 0 } })
      ∧ (edge = .peerEdge → startEdge → s.image = none →
          s.takesPosts = false ∨ s.liu.startUpIdle ≠ 16 ∨ s.frameOnLine ≠ none ∨ s.candidates = [] →
          exec (.frameStart edge) s = .next { s with liu := { s.liu with
            phase := .receiving, recessive := 0, idle := 0, dominant := 1
            startUpIdle := if s.liu.startUpIdle = 16 then 16 else 0 } })
      ∧ (edge = .peerEdge → s.liu.phase = .spacing → s.image = none →
          s.liu.firstSpacing = true ∨ s.liu.recessive < 7 →
          exec (.frameStart edge) s = .next { s with liu := { s.liu with
            recessive := 0, idle := 0, dominant := 1
            startUpIdle := if s.liu.startUpIdle = 16 then 16 else 0 } })

/-- R43, R55 and R79, with R54, R57 and R59: every queued frame can be handed over, composed as Table 3-5 has it from what
Table 4-2 keeps of it and from the state at its start; and every frame goes out as the fields of Tables 3-3 and 3-4, most
significant bit first, with the check field of R59 over the covered bits, and edges inserted. -/
def Obligations.StartedFrameIsComposed : Prop :=
  (∀ s : State, s.Lawful →
    s.candidates.map Prod.fst = s.queue
    ∧ ∀ c ∈ s.candidates,
      match c.1.frame with
      | .raise id cls priority limit deadline payload =>
        id.origin = s.address
          ∧ c.2 = { head := { priority := priority, load := 0, sender := s.address, id := id, attempt := 0
                              payload := payload }
                    body := .raise cls limit deadline }
      | .restate id =>
        ∃ e ∈ s.table, e.id = id ∧ id.origin = s.address
          ∧ c.2 = { head := { priority := e.priority, load := 0, sender := s.address, id := id, attempt := e.attempt
                              payload := e.payload }
                    body := .restate e.cls e.limit e.deadline e.claim.isSome
                      (match e.claim, e.lastClaimant with
                       | some k, _ => k.claimant
                       | none, some a => a
                       | none, none => 0)
                      (match e.claim with
                       | some k => k.remaining
                       | none => 0) }
      | .withdraw id priority =>
        c.2 = { head := { priority := priority, load := 0, sender := s.address, id := id, attempt := 0, payload := [] }
                body := .withdraw }
      | .bid id priority attempt =>
        c.2 = { head := { priority := priority, load := BitVec.ofNat 3 s.held.length, sender := s.address, id := id
                          attempt := attempt, payload := [] }
                body := .bid }
          ∧ s.held.length ≤ 3
      | .lapse id priority attempt =>
        c.2 = { head := { priority := priority, load := 0, sender := s.address, id := id, attempt := attempt
                          payload := [] }
                body := .lapse }
      | .finish id priority attempt result payload =>
        c.2 = { head := { priority := priority, load := 0, sender := s.address, id := id, attempt := attempt
                          payload := payload }
                body := .finish result }
      | .release id priority attempt =>
        c.2 = { head := { priority := priority, load := 0, sender := s.address, id := id, attempt := attempt
                          payload := [] }
                body := .release 0 }
      | .join fresh =>
        c.2 = { head := { priority := 0, load := 0, sender := s.address, id := { origin := s.address, serial := 0 }
                          attempt := 0, payload := [] }
                body := .join fresh })
  ∧ (∀ f : Frame,
    let classAndKind : Bool × BitVec 3 := match f.body with
      | .join _ => (false, 0)
      | .restate _ _ _ _ _ _ => (false, 1)
      | .finish _ => (true, 0)
      | .withdraw => (true, 1)
      | .release _ => (true, 2)
      | .lapse => (true, 3)
      | .bid => (true, 4)
      | .raise _ _ _ => (true, 5)
    let body : List Bool := match f.body with
      | .join fresh => [fresh]
      | .restate cls limit deadline claimed station remaining =>
        bitsOf 6 cls ++ bitsOf 3 limit ++ bitsOf 8 deadline ++ [claimed] ++ bitsOf 6 station ++ bitsOf 8 remaining
      | .finish result => bitsOf 4 result
      | .release reserved => bitsOf 2 reserved
      | .raise cls limit deadline => bitsOf 6 cls ++ bitsOf 3 limit ++ bitsOf 8 deadline
      | .withdraw => []
      | .lapse => []
      | .bid => []
    let covered : List Bool :=
      classAndKind.1 :: bitsOf 3 f.head.priority ++ bitsOf 3 classAndKind.2 ++ bitsOf 3 f.head.load
        ++ bitsOf 6 f.head.sender ++ bitsOf 6 f.head.id.origin ++ bitsOf 8 f.head.id.serial ++ bitsOf 3 f.head.attempt
        ++ bitsOf 4 (BitVec.ofNat 4 f.head.payload.length) ++ body ++ f.head.payload.flatMap (bitsOf 8)
    f.wireBits = insertEdges (false :: covered ++ bitsOf 16 (crc16 covered)))
  ∧ crc16 [] = 0xFFFF
  ∧ ∀ (covered : List Bool) (b : Bool),
    crc16 (covered ++ [b]) =
      if (crc16 covered).msb = b then crc16 covered <<< 1 else (crc16 covered <<< 1) ^^^ 0x4805

/-- R62 and R63: a peer's whole frame meets a station that is ready at its start edge, which joins it. If the frame is the
one the station then sends, it is the station's own; against a frame of a lower arbitration field the station loses
arbitration, and receives the frame as any receiver. FRAME_REFUSED and FRAME_TAKEN_NOWHERE speak of a frame of another
station, to which it has lost (log entry 9); a frame of another station that has no lower field cannot end on the Line,
and the station's own stays on it (log entry 8). -/
def Obligations.JoinedStartIsContended : Prop :=
  ∀ s : State,
    s.liuHeld = false → s.liu.seesStartEdge = true → s.readyToStart = true →
      ∃ (v w : State) (own : Frame), exec (.frameStart .peerEdge) s = .next v ∧ exec .arbitrationLost v = .next w
        ∧ v.image.map TransmitImage.frame = some own ∧ w.image = none
        ∧ (∀ accept : Level, exec (frameCommand own accept) s = exec (frameCommand own accept) v)
        ∧ (∀ (f : Frame) (accept : Level), f.arbitrationField < own.arbitrationField →
            exec (frameCommand f accept) s = exec (frameCommand f accept) w)
        ∧ (∀ (f : Frame) (accept : Level), f ≠ own → own.arbitrationField ≤ f.arbitrationField →
            exec (frameCommand f accept) s = .next v)
        ∧ exec .frameRefused s = exec .frameRefused w
        ∧ ∀ (bits : List Bool) (accept : Level),
            exec (.frameTakenNowhere bits accept) s = exec (.frameTakenNowhere bits accept) w

/-! ### Frames of peers -/

/-- R29, R8, R3, R30, R66 and R67: a RAISE of a peer (Table 2-2). With room for it, at most 47 entries present and
none of its identity, it is taken and inserts its entry at the end of the table; otherwise it draws ACCEPT and OBJECT,
and changes nothing but the LIU's ending of the frame (log entry 24 on what it drove). -/
def Obligations.RaiseFrameInsertsAtEnd : Prop :=
  ∀ (s : State) (h : Header) (cls : ClassNo) (limit : Limit) (deadline : Units) (accept : Level),
    s.hears h → h.sender ≠ s.address → h.sender = h.id.origin → h.attempt = 0 → limit ≠ 0 → deadline ≠ 0 →
      (s.table.length < 48 ∧ (∀ e ∈ s.table, e.id ≠ h.id) →
        ∃ u : State, exec (.raiseFrame h cls limit deadline accept) s = .next u.testDrain ∧ (
          s.keptByPeer u
          ∧ u.table = s.table ++
              [{ id := h.id, cls := cls, priority := h.priority, claim := none, lastClaimant := none
                 attempt := 0, limit := limit, deadline := deadline, payload := h.payload }]
          ∧ u.held = s.held ∧ u.origin = s.origin ∧ u.notices = s.peeredIf s.notices))
      ∧ (48 ≤ s.table.length ∨ (∃ e ∈ s.table, e.id = h.id) →
        ∃ t : State, exec (.raiseFrame h cls limit deadline accept) s = .next t ∧ (
          t = { s with liu := t.liu }
          ∧ t.liu.phase = .spacing ∧ t.liu.droveAccept = true ∧ t.liu.droveObject = true
          ∧ t.liu.droveRun = false ∧ t.liu.failures = s.liu.failures ∧ t.liu.alone = s.liu.alone))

/-- R31: a taken BID of a peer makes the OPEN entry CLAIMED by its sender, with the timer set to the deadline. -/
def Obligations.BidFrameClaimsTheEntry : Prop :=
  ∀ (s : State) (h : Header) (accept : Level) (e : Entry),
    s.hears h → h.sender ≠ s.address → findEntry s.table h.id = some e → e.claim = none →
      e.attempt = h.attempt →
      ∃ u : State, exec (.bidFrame h accept) s = .next u.testDrain ∧ (
        s.keptByPeer u
        ∧ u.table = s.table.map (fun x =>
            if x.id = h.id then
              { x with claim := some { claimant := h.sender, remaining := x.deadline, expired := false } }
            else x)
        ∧ u.held = s.held ∧ u.origin = s.origin ∧ u.notices = s.peeredIf s.notices)

/-- R33, with R9, R14 and R133: a taken FINISH of the claimant removes the entry; at the origin the record closes with
the final notice FINISHED, and no frame of the identity stays in its place. -/
def Obligations.FinishFrameRemovesTheEntry : Prop :=
  ∀ (s : State) (h : Header) (result : BitVec 4) (accept : Level) (e : Entry),
    s.Lawful → s.hears h → h.sender ≠ s.address → findEntry s.table h.id = some e →
      e.claim.map Claim.claimant = some h.sender → e.attempt = h.attempt → h.payload.length ≤ 4 →
      ∃ u : State, exec (.finishFrame h result accept) s = .next u.testDrain ∧ (
        s.keptByPeer u
        ∧ u.table = s.table.filter (fun x => x.id ≠ h.id)
        ∧ u.held = s.held
        ∧ u.origin = s.originAfter h.id .finished
        ∧ u.notices = s.peeredIf
            (s.notices ++ s.finalNotice h.id (.finished h.id h.sender result h.payload))
        ∧ ∀ q ∈ u.queue, q.frame.place ≠ .identity h.id)

/-- R34, R35, R36, R37 and R111: a taken RELEASE of the claimant, a peer, or a taken LAPSE of a peer, whoever sent it,
reopens the CLAIMED entry with the claimant as last claimant and the attempt raised by 1, or abandons it when the raised
attempt equals the limit. A record of this station for the claim closes with REVOKED (LAPSED), after the final notice if
the entry is mine. The attempt of an entry reopened from attempt 7 is a free value (log entry 15). -/
def Obligations.TakenBackClaimReopensOrAbandons : Prop :=
  ∀ (s : State) (h : Header) (body : Body) (accept : Level) (e : Entry) (c : Claim),
    s.Lawful → s.hears h → h.sender ≠ s.address → findEntry s.table h.id = some e →
      e.claim = some c → e.attempt = h.attempt →
      body = .lapse ∨ ((∃ reserved, body = .release reserved) ∧ c.claimant = h.sender) →
      ∃ u : State, exec (frameCommand { head := h, body := body } accept) s = .next u.testDrain ∧ (
        s.keptByPeer u ∧ u.held = revokedHeld s.held h.id
        ∧ (c.claimant ≠ s.address → u.held = s.held)
        ∧ (e.limit.toNat ≠ e.attempt.toNat + 1 →
            (∃ n : Attempt, (e.attempt ≠ 7 → n.toNat = e.attempt.toNat + 1)
              ∧ u.table = s.table.map (fun x =>
                  if x.id = h.id then { x with attempt := n, claim := none, lastClaimant := some c.claimant } else x))
            ∧ u.origin = s.origin
            ∧ u.notices = s.peeredIf (s.notices ++ revokedNotice s.held h.id .lapsed))
        ∧ (e.limit.toNat = e.attempt.toNat + 1 →
            u.table = s.table.filter (fun x => x.id ≠ h.id)
            ∧ u.origin = s.originAfter h.id .abandoned
            ∧ u.notices = s.peeredIf
                (s.notices ++ s.finalNotice h.id (.abandoned h.id e.limit c.claimant)
                  ++ revokedNotice s.held h.id .lapsed)))

/-- R38 and R111: a taken WITHDRAW of the entry's origin, a peer, removes the entry in either state and at any
attempt; a record of this station for it closes with REVOKED (WITHDRAWN). -/
def Obligations.WithdrawFrameRemovesTheEntry : Prop :=
  ∀ (s : State) (h : Header) (accept : Level) (e : Entry),
    s.Lawful → s.hears h → h.sender ≠ s.address → findEntry s.table h.id = some e →
      h.sender = h.id.origin →
      ∃ u : State, exec (.withdrawFrame h accept) s = .next u.testDrain ∧ (
        s.keptByPeer u
        ∧ u.table = s.table.filter (fun x => x.id ≠ h.id)
        ∧ u.held = revokedHeld s.held h.id
        ∧ u.origin = s.origin
        ∧ u.notices = s.peeredIf (s.notices ++ revokedNotice s.held h.id .withdrawn))

/-- R40, R41, R9, R42 and R111: a taken JOIN of a peer. A fresh one removes every entry its sender originated, together,
and the records for them close with REVOKED (ORIGIN_RESTARTED) in table order; one that is not fresh removes nothing and
reports nothing. After either, where the queue takes posts, every LIVE record whose place was empty has a RESTATE posted,
and a place that held a frame keeps it. -/
def Obligations.JoinFrameCallsForRestatement : Prop :=
  ∀ (s : State) (h : Header) (accept : Level),
    s.Lawful → s.hears h → h.sender ≠ s.address → h.id.origin = h.sender →
      (∃ u : State, exec (.freshJoin h accept) s = .next u.testDrain ∧ (
        s.keptByPeer u
        ∧ u.table = s.table.filter (fun x => x.id.origin ≠ h.sender)
        ∧ u.held = s.held.map (fun r =>
            if r.id.origin = h.sender ∧ r.state ≠ .closed then
              { r with state := .closed, unread := r.unread + 1 }
            else r)
        ∧ u.origin = s.origin
        ∧ u.notices = s.peeredIf (s.notices ++
            (s.table.filter fun x => x.id.origin = h.sender).flatMap
              fun x => revokedNotice s.held x.id .originRestarted)
        ∧ (s.takesPosts = true → ∀ r ∈ s.origin, r.state = .live →
            framePlaced u.queue (.identity (s.ownId r.serial)) =
              match framePlaced s.queue (.identity (s.ownId r.serial)) with
              | some q => some q
              | none => some { frame := .restate (s.ownId r.serial), onLine := false })))
      ∧ (∃ u : State, exec (.join h accept) s = .next u.testDrain ∧ (
        s.keptByPeer u ∧ u.table = s.table ∧ u.held = s.held ∧ u.origin = s.origin
        ∧ u.notices = s.peeredIf s.notices
        ∧ (s.takesPosts = false → u.queue = s.queue)
        ∧ (s.takesPosts = true → ∀ r ∈ s.origin, r.state = .live →
            framePlaced u.queue (.identity (s.ownId r.serial)) =
              match framePlaced s.queue (.identity (s.ownId r.serial)) with
              | some q => some q
              | none => some { frame := .restate (s.ownId r.serial), onLine := false })))

/-- R45, R12, R44, R48 and R3: a RESTATE of a peer for an identity that is absent. With room, it is taken and inserts: the
entry stands at the end with the restated fields; a restated remaining value of 0 sets the expired mark at once, except at
the claimant. With a full table it draws ACCEPT and OBJECT, and changes nothing but the LIU's ending of the frame. -/
def Obligations.RestateFrameInserts : Prop :=
  ∀ (s : State) (h : Header) (cls : ClassNo) (limit : Limit) (deadline : Units) (claimed : Bool)
    (station : Address) (remaining : Units) (accept : Level),
    s.Lawful → s.hears h → h.sender ≠ s.address → h.sender = h.id.origin → limit ≠ 0 → deadline ≠ 0 →
      h.attempt < limit → station.toNat ≤ 62 → (claimed = true → station ≠ 0) →
      (∀ e ∈ s.table, e.id ≠ h.id) →
      (s.table.length < 48 →
      ∃ u : State,
        exec (.restateFrame h cls limit deadline claimed station remaining accept) s = .next u.testDrain ∧ (
        s.keptByPeer u
        ∧ u.table = s.table ++
            [{ id := h.id, cls := cls, priority := h.priority, attempt := h.attempt, limit := limit
               deadline := deadline, payload := h.payload
               claim :=
                if claimed then
                  some { claimant := station, remaining := remaining
                         expired := remaining = 0 && station ≠ s.address }
                else none
               lastClaimant := if claimed || station = 0 then none else some station }]
        ∧ u.held = s.held ∧ u.origin = s.origin ∧ u.notices = s.peeredIf s.notices))
      ∧ (48 ≤ s.table.length →
        ∃ t : State, exec (.restateFrame h cls limit deadline claimed station remaining accept) s = .next t ∧ (
          t = { s with liu := t.liu }
          ∧ t.liu.phase = .spacing ∧ t.liu.droveAccept = true ∧ t.liu.droveObject = true
          ∧ t.liu.droveRun = false ∧ t.liu.failures = s.liu.failures ∧ t.liu.alone = s.liu.alone))

/-- R46, R12, R13, R111 and R115: a taken RESTATE of a peer that updates in place: attempt, state, claimant, last
claimant and timer are set as restated, and the entry keeps its position and its fixed fields. A record that is no
longer of a claim of this station at its attempt closes with REVOKED (LAPSED); a restated remaining value of 0 at
the claimant is an expiry. -/
def Obligations.RestateFrameUpdatesInPlace : Prop :=
  ∀ (s : State) (h : Header) (cls : ClassNo) (limit : Limit) (deadline : Units) (claimed : Bool)
    (station : Address) (remaining : Units) (accept : Level) (e : Entry),
    s.Lawful → s.hears h → h.sender ≠ s.address → h.sender = h.id.origin → limit ≠ 0 → deadline ≠ 0 →
      h.attempt < limit → station.toNat ≤ 62 → (claimed = true → station ≠ 0) →
      findEntry s.table h.id = some e →
      ∃ u : State,
        exec (.restateFrame h cls limit deadline claimed station remaining accept) s = .next u.testDrain ∧ (
        s.keptByPeer u
        ∧ u.table = s.table.map (fun x =>
            if x.id = h.id then
              { x with
                attempt := h.attempt
                claim :=
                  if claimed then
                    some { claimant := station, remaining := remaining
                           expired := remaining = 0 && station ≠ s.address }
                  else none
                lastClaimant :=
                  if claimed then x.lastClaimant else if station = 0 then none else some station }
            else x)
        ∧ u.origin = s.origin
        ∧ (claimed = true ∧ station = s.address ∧ h.attempt = e.attempt →
            (remaining ≠ 0 → u.held = s.held ∧ u.notices = s.peeredIf s.notices)
            ∧ (remaining = 0 → u.held = overrunHeld s.held h.id h.attempt
                ∧ u.notices = s.peeredIf (s.notices ++ overrunNotice s.held h.id h.attempt)))
        ∧ (claimed = false ∨ station ≠ s.address ∨ h.attempt ≠ e.attempt →
            u.held = revokedHeld s.held h.id
            ∧ u.notices = s.peeredIf (s.notices ++ revokedNotice s.held h.id .lapsed)))

/-- R27 and Table 2-1: a taken frame of a peer that fails the test of its kind is accepted, draws no objection, and changes
no entry, no record and no notice but PEERED. -/
def Obligations.StaleFrameIsIgnored : Prop :=
  ∀ (s : State) (f : Frame) (accept : Level),
    s.hears f.head → f.head.sender ≠ s.address → f.body.badParameters f.head.attempt = false →
      let h := f.head
      let claimedAt : Entry → Prop := fun e =>
        e.id = h.id ∧ e.attempt = h.attempt ∧ e.claim.map Claim.claimant = some h.sender
      (match f.body with
        | .raise _ _ _ => h.sender ≠ h.id.origin ∨ h.attempt ≠ 0
        | .bid => ∀ e ∈ s.table, ¬ (e.id = h.id ∧ e.claim = none ∧ e.attempt = h.attempt)
        | .finish _ => (∀ e ∈ s.table, ¬ claimedAt e) ∨ 4 < h.payload.length
        | .release _ => ∀ e ∈ s.table, ¬ claimedAt e
        | .lapse => ∀ e ∈ s.table, ¬ (e.id = h.id ∧ e.claim ≠ none ∧ e.attempt = h.attempt)
        | .withdraw => (∀ e ∈ s.table, e.id ≠ h.id) ∨ h.sender ≠ h.id.origin
        | .join _ => h.id.origin ≠ h.sender
        | .restate _ _ _ claimed station _ =>
          h.sender ≠ h.id.origin ∨ station = 63 ∨ (claimed = true ∧ station = 0)) →
      ∃ u : State, exec (frameCommand f accept) s = .next u.testDrain ∧ (
        s.keptByPeer u ∧ u.table = s.table ∧ u.held = s.held ∧ u.origin = s.origin
        ∧ u.notices = s.peeredIf s.notices)

/-- R49 and R155: a taken frame of this station's address from another transmitter, whatever its kind, changes no
entry and brings the station into MUTE with cause ADDRESS_CLASH, or finds it there; the failure count is kept.
A clash frame does not clear the Alone flag, and so raises no PEERED (log entry 13). -/
def Obligations.AddressClashMutes : Prop :=
  ∀ (s : State) (f : Frame) (accept : Level),
    s.Lawful → s.hears f.head → f.head.sender = s.address → f.body.badParameters f.head.attempt = false →
      ∃ t : State, exec (frameCommand f accept) s = .next t ∧ (
        t.table = s.table ∧ t.held = s.held ∧ t.config = s.config ∧ t.serialCounter = s.serialCounter
        ∧ t.port = s.port ∧ t.liu.failures = s.liu.failures ∧ t.liu.alone = s.liu.alone ∧ t.queue = [] ∧ t.image = none
        ∧ t.ctl = { s.ctl with
            state := .mute, muteCause := .addressClash, draining := false
            joinStage := none }
        ∧ t.origin = s.origin.map (fun r =>
            if r.state = .queued then { r with state := .closed .refused, withdrawPending := false } else r)
        ∧ t.notices =
            (if s.station = .mute then (s.raiseCause .addressClash).notices
             else ((s.raiseCause .muted).raiseCause .addressClash).notices)
            ++ (s.origin.filter fun r => r.state = .queued).map
                fun r => .refused (s.ownId r.serial) .muted)

/-- R87, R88 and Table 4-5, with R133: after a taken frame, a peer's or this station's own, no queued frame is one that the
table has superseded. A taken frame of a peer leaves every other frame where it was: of the frames outside the BID and
LAPSE places exactly the superseded ones leave, and the WITHDRAWs of entries that are gone, and only RESTATEs that a JOIN
calls for enter, behind the rest. -/
def Obligations.NoSupersededFrameWaits : Prop :=
  ∀ (s : State) (f : Frame) (accept : Level),
    s.Lawful → ∃ t : State, exec (frameCommand f accept) s = .next t ∧ (
      let present : Identity → Bool := fun id => t.table.any fun e => e.id = id
      let claimed : Identity → Attempt → Bool := fun id attempt =>
        t.table.any fun e => e.id = id ∧ e.attempt = attempt ∧ e.claim.map Claim.claimant = some s.address
      let superseded : Queued → Bool := fun q =>
        match q with
        | .bid id _ attempt => ¬ t.table.any fun e => e.id = id ∧ e.claim = none ∧ e.attempt = attempt
        | .lapse id _ attempt => ¬ t.table.any fun e => e.id = id ∧ e.claim ≠ none ∧ e.attempt = attempt
        | .finish id _ attempt _ _ => ¬ claimed id attempt
        | .release id _ attempt => ¬ claimed id attempt
        | .restate id => ¬ present id
        | .raise _ _ _ _ _ _ => false
        | .withdraw _ _ => false
        | .join _ => false
      let chosen : QueuedFrame → Bool := fun q => q.frame.place = .bid ∨ q.frame.place = .lapse
      ((∃ q, s.sends q f) → s.stores f = true →
        ∀ q ∈ t.queue, superseded q.frame = false)
      ∧ (s.hears f.head → f.body.badParameters f.head.attempt = false →
          f.head.sender = s.address ∨ s.stores f = true →
          (∀ q ∈ t.queue, superseded q.frame = false)
          ∧ (f.head.sender ≠ s.address →
              ∃ posted : List QueuedFrame,
                (t.queue.filter fun q => ¬ chosen q) =
                  (s.queue.filter fun q => ¬ chosen q ∧ ¬ superseded q.frame
                    ∧ (match q.frame with
                      | .withdraw id _ => present id
                      | _ => true) = true) ++ posted
                ∧ ∀ q ∈ posted, q.onLine = false ∧ (∃ fresh, f.body = .join fresh)
                    ∧ ∃ r ∈ s.origin, r.state = .live ∧ q.frame = .restate (s.ownId r.serial))))

/-- R17, R19, R100, R101, R102, R104 and R110: after a taken frame, of a peer or of this station, that leaves the station
ACTIVE, the BID place holds a BID for the first of the most urgent eligible entries at its attempt, or nothing when no entry is eligible; and the
LAPSE place holds a LAPSE of the oldest entry whose expired mark is set at its attempt, with the entry's priority when
the place was empty before, or nothing when no mark is set. -/
def Obligations.PlacesFollowTheChoices : Prop :=
  ∀ (s : State) (f : Frame) (accept : Level),
    s.Lawful → s.stores f = true → ∃ t : State, exec (frameCommand f accept) s = .next t ∧ (
      (s.hears f.head ∧ f.head.sender ≠ s.address ∧ f.body.badParameters f.head.attempt = false ∧ s.station = .active)
        ∨ ((∃ q, s.sends q f) ∧ t.station = .active) →
        t.BidPlaceFollows ∧ t.LapsePlaceFollows
        ∧ (framePlaced s.queue .lapse = none → ∀ e ∈ t.table, t.OldestExpired e →
            framePlaced t.queue .lapse = some { frame := .lapse e.id e.priority e.attempt, onLine := false }))

/-! ### Frames of this station -/

/-- R29, R89, R129, R131 and R73: this station's own RAISE is taken: the entry is inserted, the record becomes LIVE,
or WITHDRAWING with its WITHDRAW posted when withdraw-pending was set, and the Alone flag follows the ACCEPT level. R67:
when this station's own table is full it objects to its RAISE itself, which then ends REFUSED if a peer accepted it, and
CORRUPTED if none did (R70). -/
def Obligations.OwnRaiseTakenBecomesLive : Prop :=
  ∀ (s : State) (id : Identity) (cls : ClassNo) (priority : Priority) (limit : Limit) (deadline : Units)
    (payload : List Byte) (h : Header) (accept : Level) (r : OriginRecord),
    s.Lawful → s.sends (.raise id cls priority limit deadline payload) { head := h, body := .raise cls limit deadline } →
      (48 ≤ s.table.length →
        exec (.raiseFrame h cls limit deadline accept) s = exec
          (match accept with
            | .dominant => .frameRefused
            | .recessive => .frameCorrupted (.objected .recessive)) s)
      ∧ (s.table.length < 48 → r ∈ s.origin → r.serial = id.serial →
      ∃ u : State, exec (.raiseFrame h cls limit deadline accept) s = .next u.testDrain ∧ (
        s.keptByOwn u ∧ u.image = none ∧ u.liu.failures = 0 ∧ u.liu.alone = (accept = .recessive : Bool)
        ∧ u.liu.phase = .spacing ∧ u.held = s.held ∧ u.ctl = s.ctl
        ∧ u.table = s.table ++
            [{ id := id, cls := cls, priority := priority, claim := none, lastClaimant := none
               attempt := 0, limit := limit, deadline := deadline, payload := payload }]
        ∧ u.origin = s.origin.map (fun x =>
            if x.serial = id.serial then
              { x with state := if r.withdrawPending then .withdrawing else .live, withdrawPending := false }
            else x)
        ∧ framePlaced u.queue (.identity id) =
            if r.withdrawPending then some { frame := .withdraw id priority, onLine := false } else none))

/-- R31, R99, R119 and R104: this station's own BID is taken for an OPEN entry: the entry becomes CLAIMED by this
station, and a held record joins the end of the Held List, AWAITING, or ENDING with its RELEASE posted in LEAVING. -/
def Obligations.OwnBidTakenCreatesRecord : Prop :=
  ∀ (s : State) (h : Header) (priority : Priority) (accept : Level) (e : Entry),
    s.Lawful → s.sends (.bid h.id priority h.attempt) { head := h, body := .bid } →
      findEntry s.table h.id = some e → e.claim = none → e.attempt = h.attempt →
      ∃ u : State, exec (.bidFrame h accept) s = .next u.testDrain ∧ (
        s.keptByOwn u ∧ u.image = none ∧ u.liu.failures = 0 ∧ u.liu.alone = (accept = .recessive : Bool)
        ∧ u.origin = s.origin ∧ u.ctl = s.ctl
        ∧ u.table = s.table.map (fun x =>
            if x.id = h.id then
              { x with claim := some { claimant := s.address, remaining := x.deadline, expired := false } }
            else x)
        ∧ u.held = s.held ++
            [{ id := h.id, attempt := h.attempt, priority := e.priority
               state := if s.station = .leaving then .ending else .awaiting, unread := 0
               deadlineNoticed := false }]
        ∧ (s.station = .leaving →
            framePlaced u.queue (.held h.id) =
              some { frame := .release h.id e.priority h.attempt, onLine := false }))

/-- R33, R34, R36, R37, R110 and R20: this station's own FINISH or RELEASE is taken: a FINISH removes the entry, and a
RELEASE reopens it with this station as last claimant or abandons it at its limit (log entry 15 on attempt 7); the record
leaves the Held List, or goes to CLOSED while a notice of it is unread; no REVOKED notice is queued. -/
def Obligations.OwnFinishOrReleaseSettlesRecord : Prop :=
  ∀ (s : State) (h : Header) (q : Queued) (body : Body) (accept : Level) (r : HeldRecord) (e : Entry),
    s.Lawful → s.sends q { head := h, body := body } → r ∈ s.held → r.id = h.id → findEntry s.table h.id = some e →
      (∃ priority result,
        q = .finish h.id priority h.attempt result h.payload ∧ body = .finish result ∧ h.payload.length ≤ 4)
      ∨ (∃ priority reserved, q = .release h.id priority h.attempt ∧ body = .release reserved) →
      ∃ u : State, exec (frameCommand { head := h, body := body } accept) s = .next u.testDrain ∧ (
        s.keptByOwn u ∧ u.image = none ∧ u.liu.failures = 0 ∧ u.liu.alone = (accept = .recessive : Bool)
        ∧ u.ctl = s.ctl
        ∧ u.held =
            (if r.unread = 0 then s.held.filter fun x => x.id ≠ h.id
             else s.held.map fun x => if x.id = h.id then { x with state := .closed } else x)
        ∧ framePlaced u.queue (.held h.id) = none
        ∧ (∀ result, body = .finish result →
            u.table = s.table.filter (fun x => x.id ≠ h.id)
            ∧ u.origin = s.originAfter h.id .finished
            ∧ u.notices.filter (fun n => ¬ n.isStation) =
                (s.notices ++ s.finalNotice h.id (.finished h.id s.address result h.payload)).filter
                  (fun n => ¬ n.isStation))
        ∧ (∀ reserved, body = .release reserved →
            (e.limit.toNat ≠ e.attempt.toNat + 1 →
              (∃ n : Attempt, (e.attempt ≠ 7 → n.toNat = e.attempt.toNat + 1)
                ∧ u.table = s.table.map (fun x =>
                    if x.id = h.id then { x with attempt := n, claim := none, lastClaimant := some s.address } else x))
              ∧ u.origin = s.origin
              ∧ u.notices.filter (fun n => ¬ n.isStation) = s.notices.filter (fun n => ¬ n.isStation))
            ∧ (e.limit.toNat = e.attempt.toNat + 1 →
              u.table = s.table.filter (fun x => x.id ≠ h.id)
              ∧ u.origin = s.originAfter h.id .abandoned
              ∧ u.notices.filter (fun n => ¬ n.isStation) =
                  (s.notices ++ s.finalNotice h.id (.abandoned h.id e.limit s.address)).filter
                    (fun n => ¬ n.isStation))))

/-- R38, R133 and R111: this station's own WITHDRAW is taken: its entry is removed, the record closes with the final notice
WITHDRAWN, and a held record of this station for it closes with REVOKED (WITHDRAWN). R47 and R132: its own RESTATE is
taken: it changes no entry, no record and no notice but ALONE or PEERED, and leaves its place, to a WITHDRAW of the entry's
priority when the record is WITHDRAWING. -/
def Obligations.OwnWithdrawOrRestateTaken : Prop :=
  ∀ (s : State) (id : Identity) (h : Header) (accept : Level) (r : OriginRecord),
    s.Lawful → r ∈ s.origin → r.serial = id.serial →
      (∀ priority : Priority, s.sends (.withdraw id priority) { head := h, body := .withdraw } →
        ∃ u : State, exec (.withdrawFrame h accept) s = .next u.testDrain ∧ (
          s.keptByOwn u ∧ u.image = none ∧ u.liu.failures = 0 ∧ u.liu.alone = (accept = .recessive : Bool)
          ∧ u.ctl = s.ctl
          ∧ u.table = s.table.filter (fun x => x.id ≠ id)
          ∧ u.held = revokedHeld s.held id
          ∧ u.origin = s.origin.map (fun x =>
              if x.serial = id.serial then { x with state := .closed .withdrawn, withdrawPending := false } else x)
          ∧ u.notices.filter (fun n => ¬ n.isStation) =
              (s.notices ++ (Notice.withdrawn id :: revokedNotice s.held id .withdrawn)).filter (fun n => ¬ n.isStation)
          ∧ framePlaced u.queue (.identity id) = none))
      ∧ (∀ (cls : ClassNo) (limit : Limit) (deadline : Units) (claimed : Bool) (station : Address) (remaining : Units),
        s.sends (.restate id) { head := h, body := .restate cls limit deadline claimed station remaining } →
        ∃ u : State, exec (.restateFrame h cls limit deadline claimed station remaining accept) s = .next u.testDrain ∧ (
          s.keptByOwn u ∧ u.image = none ∧ u.liu.failures = 0 ∧ u.liu.alone = (accept = .recessive : Bool)
          ∧ u.ctl = s.ctl ∧ u.table = s.table ∧ u.held = s.held ∧ u.origin = s.origin
          ∧ u.notices.filter (fun n => ¬ n.isStation) = s.notices.filter (fun n => ¬ n.isStation)
          ∧ (r.state = .live → framePlaced u.queue (.identity id) = none)
          ∧ (r.state = .withdrawing →
              ∃ e ∈ s.table, e.id = id
                ∧ framePlaced u.queue (.identity id) =
                    some { frame := .withdraw id e.priority, onLine := false })))

/-- R35, R36, R37, R111, R89 and R17: this station's own LAPSE is taken: the CLAIMED entry is reopened, with its claimant as
last claimant, or abandoned at its limit (log entry 15 on attempt 7); a record of this station for the claim closes with
REVOKED (LAPSED). The LAPSE leaves its place, which then follows the LAPSE choice in ACTIVE and stays empty in LEAVING. -/
def Obligations.OwnLapseTakenReopensTheEntry : Prop :=
  ∀ (s : State) (h : Header) (priority : Priority) (accept : Level) (e : Entry) (c : Claim),
    s.Lawful → s.sends (.lapse h.id priority h.attempt) { head := h, body := .lapse } →
      findEntry s.table h.id = some e → e.claim = some c → e.attempt = h.attempt →
      ∃ u : State, exec (.lapseFrame h accept) s = .next u.testDrain ∧ (
        s.keptByOwn u ∧ u.image = none ∧ u.liu.failures = 0 ∧ u.liu.alone = (accept = .recessive : Bool)
        ∧ u.ctl = s.ctl ∧ u.held = revokedHeld s.held h.id
        ∧ (e.limit.toNat ≠ e.attempt.toNat + 1 →
            (∃ n : Attempt, (e.attempt ≠ 7 → n.toNat = e.attempt.toNat + 1)
              ∧ u.table = s.table.map (fun x =>
                  if x.id = h.id then { x with attempt := n, claim := none, lastClaimant := some c.claimant } else x))
            ∧ u.origin = s.origin
            ∧ u.notices.filter (fun n => ¬ n.isStation) =
                (s.notices ++ revokedNotice s.held h.id .lapsed).filter (fun n => ¬ n.isStation))
        ∧ (e.limit.toNat = e.attempt.toNat + 1 →
            u.table = s.table.filter (fun x => x.id ≠ h.id)
            ∧ u.origin = s.originAfter h.id .abandoned
            ∧ u.notices.filter (fun n => ¬ n.isStation) =
                (s.notices ++ s.finalNotice h.id (.abandoned h.id e.limit c.claimant)
                  ++ revokedNotice s.held h.id .lapsed).filter (fun n => ¬ n.isStation))
        ∧ (s.station = .active → u.LapsePlaceFollows)
        ∧ (s.station = .leaving → framePlaced u.queue .lapse = none))

/-- R146, R144, R148 and R42: this station's own JOIN is taken: fresh owed is cleared when it was fresh; unaccepted it
brings the station into ACTIVE with JOINED raised and its first choices made, accepted it opens the join window. The joiner
has the restatement duty itself: the JOIN leaves its place, and behind the other frames a RESTATE is posted, in Origin List
order, for every LIVE record whose place was empty. -/
def Obligations.OwnJoinTakenOpensTheWindow : Prop :=
  ∀ (s : State) (h : Header) (fresh : Bool) (accept : Level),
    s.Lawful → s.sends (.join fresh) { head := h, body := .join fresh } →
      ∃ t : State, exec (if fresh then .freshJoin h accept else .join h accept) s = .next t ∧ (
        s.keptByOwn t ∧ t.image = none ∧ t.liu.failures = 0 ∧ t.liu.alone = (accept = .recessive : Bool)
        ∧ t.table = s.table ∧ t.held = s.held ∧ t.origin = s.origin
        ∧ t.ctl = { s.ctl with
            freshOwed := false
            state := match accept with
              | .recessive => .active
              | .dominant => .listen
            joinStage := match accept with
              | .recessive => none
              | .dominant => some .window }
        ∧ (t.queue.filter fun q => q.frame.place ≠ .bid ∧ q.frame.place ≠ .lapse) =
            (s.queue.filter fun q => q.frame.place ≠ .join)
              ++ (s.origin.filter fun r =>
                  r.state = .live ∧ framePlaced s.queue (.identity (s.ownId r.serial)) = none).map
                    (fun r => ({ frame := .restate (s.ownId r.serial), onLine := false } : QueuedFrame))
        ∧ (accept = .dominant → framePlaced t.queue .bid = none ∧ framePlaced t.queue .lapse = none)
        ∧ (accept = .recessive → t.BidPlaceFollows ∧ t.LapsePlaceFollows)
        ∧ (accept = .recessive → ∃ n ∈ t.notices, ∃ causes : Byte, n = .station causes ∧ causes.getLsbD 0 = true))

/-- R90, R129 and R131: this station's own RAISE is REFUSED: it leaves its place, and the record closes with REFUSED
(CAPACITY), or with WITHDRAWN when withdraw-pending was set; no table changes. A refused RESTATE is dropped without
a notice, and a WITHDRAW that waited for its place is then posted (R132). -/
def Obligations.OwnFrameRefusedIsDropped : Prop :=
  ∀ (s : State) (q : Queued) (f : Frame) (id : Identity) (r : OriginRecord),
    s.Lawful → s.sends q f → q.place = .identity id → q.isWithdraw = false → r ∈ s.origin →
      r.serial = id.serial →
      ∃ u : State, exec .frameRefused s = .next u.testDrain ∧ (
        s.keptByOwn u ∧ u.image = none ∧ u.table = s.table ∧ u.held = s.held ∧ u.ctl = s.ctl
        ∧ u.liu.failures = 0 ∧ u.liu.alone = false ∧ u.liu.phase = .spacing
        ∧ (r.state = .queued →
            u.origin = s.origin.map (fun x =>
              if x.serial = id.serial then
                { x with
                  state := .closed (if r.withdrawPending then .withdrawn else .refused)
                  withdrawPending := false }
              else x)
            ∧ u.notices = s.peeredIf (s.notices ++
                [if r.withdrawPending then .withdrawn id else .refused id .capacity])
            ∧ framePlaced u.queue (.identity id) = none)
        ∧ (r.state = .live ∨ r.state = .withdrawing →
            u.origin = s.origin ∧ u.notices = s.peeredIf s.notices)
        ∧ (r.state = .live → framePlaced u.queue (.identity id) = none)
        ∧ (r.state = .withdrawing →
            ∃ e ∈ s.table, e.id = id
              ∧ framePlaced u.queue (.identity id) = some { frame := .withdraw id e.priority, onLine := false }))

/-- R91, R72 and R154, with R131, R132, R94, R101 and R17: a frame of this station ends CORRUPTED, below and at the eighth
failure in a row. Below, it stays in its place, no longer on the Line, with what its poster does at once; at the eighth,
the station then enters MUTE, its queue is purged, and QUEUED records close with REFUSED (MUTED). MUTE comes before the
drain is tested (log entry 29). -/
def Obligations.EighthCorruptedFrameMutes : Prop :=
  ∀ (s : State) (q : Queued) (f : Frame) (ending : Ending),
    s.Lawful → s.sends q f →
      (∀ accept, ending = .objected accept → accept = .recessive
        ∨ ((∀ cls limit deadline, f.body ≠ .raise cls limit deadline)
          ∧ ∀ cls limit deadline claimed station remaining,
              f.body ≠ .restate cls limit deadline claimed station remaining)) →
      ∃ u : State,
        s.keptByOwn u ∧ u.image = none ∧ u.table = s.table ∧ u.held = s.held ∧ u.ctl = s.ctl
        ∧ u.liu.failures = s.liu.failures + 1 ∧ u.liu.alone = s.liu.alone ∧ u.liu.phase = .spacing
        ∧ s.keepsQueued u q
        ∧ (s.liu.failures < 7 → exec (.frameCorrupted ending) s = .next u.testDrain)
        ∧ (s.liu.failures = 7 →
            exec (.frameCorrupted ending) s = .next
              { u with
                ctl := { s.ctl with state := .mute, muteCause := .failures, joinStage := none, draining := false }
                queue := []
                origin := u.origin.map fun r =>
                  if r.state = .queued then { r with state := .closed .refused, withdrawPending := false } else r
                notices := (u.raiseCause .muted).notices
                  ++ (u.origin.filter fun r => r.state = .queued).map
                      fun r => .refused (s.ownId r.serial) .muted })

/-- R63, R92 and R131, with R132, R94, R101 and R17: arbitration is lost: the LIU receives on, the failure count is
unchanged, and the frame stays in its place with its posting order, no longer on the Line, with what its poster does at
once: a RAISE whose withdrawal was pending closes its record, a RESTATE gives way to a WITHDRAW that waited, and a BID or
LAPSE follows its choice, re-made at the outcome (log entry 12), or leaves in LEAVING. -/
def Obligations.LostFrameStaysQueued : Prop :=
  ∀ (s : State) (q : Queued) (f : Frame),
    s.Lawful → s.sends q f → s.liu.phase = .arbitrating →
      ∃ u : State, exec .arbitrationLost s = .next u.testDrain ∧ (
        s.keptByOwn u ∧ u.image = none ∧ u.table = s.table ∧ u.held = s.held ∧ u.ctl = s.ctl
        ∧ u.liu.phase = .receiving ∧ u.liu.failures = s.liu.failures ∧ u.liu.alone = s.liu.alone
        ∧ s.keepsQueued u q)

/-! ### The Line -/

/-- R74 and R75, with R91, R72, R154 and R183: a stuck Line, with no own frame on it and with one: the LIU recovers,
LINE_FAULT is raised, and no entry changes; in RECOVERING no second one is counted. A frame of this station ends CORRUPTED:
it stays in its place, no longer on the Line, with what its poster does at once; and when it is the eighth failure in a row
the station enters MUTE after LINE_FAULT, its queue is purged, and QUEUED records close with REFUSED (MUTED), before the
drain is tested (log entry 29). The report is taken at its word, whatever the count stood at (log entry 5). A restart that
waits for the frame then proceeds: RestartWaitsForOwnFrame says so. -/
def Obligations.StuckLineIsReportedOnce : Prop :=
  ∀ s : State,
    s.Lawful → s.liuHeld = false → s.ctl.restartWaiting = false →
      (s.liu.phase = .recovering → exec .stuckLine s = .next s)
      ∧ (s.liu.phase ≠ .recovering →
          ∃ (u : State) (told : List Notice),
            s.keptByOwn u ∧ u.image = none ∧ u.table = s.table ∧ u.held = s.held ∧ u.ctl = s.ctl
            ∧ u.liu.phase = .recovering ∧ u.liu.recessive = 0 ∧ u.liu.idle = 0 ∧ u.liu.alone = s.liu.alone
            ∧ u.liu.failures = (if s.image = none then s.liu.failures else s.liu.failures + 1)
            ∧ u.notices = ({ s with notices := told }.raiseCause .lineFault).notices
            ∧ (s.image = none → u.queue = s.queue ∧ u.origin = s.origin ∧ told = s.notices)
            ∧ (s.image ≠ none → ∃ (q : Queued) (f : Frame), s.sends q f)
            ∧ (∀ (q : Queued) (f : Frame), s.sends q f → s.keepsQueued { u with notices := told } q)
            ∧ (s.image = none ∨ s.liu.failures < 7 → exec .stuckLine s = .next u.testDrain)
            ∧ (s.image ≠ none → 7 ≤ s.liu.failures →
                exec .stuckLine s = .next
                  { u with
                    ctl := { s.ctl with state := .mute, muteCause := .failures, joinStage := none, draining := false }
                    queue := []
                    origin := u.origin.map fun r =>
                      if r.state = .queued then { r with state := .closed .refused, withdrawPending := false } else r
                    notices := (u.raiseCause .muted).notices
                      ++ (u.origin.filter fun r => r.state = .queued).map
                          fun r => .refused (s.ownId r.serial) .muted }))

/-- R60, R61, R75 and R143: SPACING_COMPLETE and RECOVERY_COMPLETE bring the LIU to IDLE; after a recovery, and at
START_UP_IDLE, the station may start frames, and in join stage IDLE_WAIT it posts its JOIN, fresh if a fresh JOIN is
owed, and goes to JOIN_SENDING. In any other stage only the LIU changes. Each report is taken at its word, whatever
the count stood at (log entry 5). -/
def Obligations.QuietLineReturnsToIdle : Prop :=
  ∀ s : State,
    s.Lawful → s.liuHeld = false →
      (s.liu.phase = .spacing →
        ∃ t : State, exec .spacingComplete s = .next t ∧ (
          t = { s with liu := t.liu }
          ∧ t.liu = { s.liu with
              phase := .idle, firstSpacing := false, dominant := 0
              recessive := t.liu.recessive, idle := t.liu.idle }
          ∧ 8 ≤ t.liu.recessive ∧ 8 ≤ t.liu.idle))
      ∧ (∀ c : Instr,
        (c = .recoveryComplete ∧ s.liu.phase = .recovering)
          ∨ (c = .startUpIdle ∧ (s.liu.phase = .idle ∨ s.liu.phase = .spacing ∨ s.liu.phase = .recovering)) →
        ∃ t : State, exec c s = .next t ∧ (
          t.liu.startUpIdle = 16 ∧ t.liu.failures = s.liu.failures ∧ t.liu.alone = s.liu.alone
          ∧ (c = .recoveryComplete ∨ s.liu.phase ≠ .recovering → t.liu.phase = .idle)
          ∧ (s.ctl.joinStage ≠ some .idleWait → t = { s with liu := t.liu })
          ∧ (s.ctl.joinStage = some .idleWait →
              t = { s with
                liu := t.liu
                ctl := { s.ctl with joinStage := some .joinSending }
                queue := s.queue ++ [{ frame := .join s.ctl.freshOwed, onLine := false }] })))

/-- R147 and R148: JOIN_WINDOW_END: in join stage WINDOW the station enters ACTIVE and raises JOINED, and its
first BID and LAPSE choices are made (R101, R17); in any other stage only the LIU changes. The report is taken at its word (log
entry 5). -/
def Obligations.JoinWindowEndEntersActive : Prop :=
  ∀ s : State,
    s.Lawful → s.liuHeld = false → s.liu.phase = .idle ∨ s.liu.phase = .spacing ∨ s.liu.phase = .recovering →
      ∃ t : State, exec .joinWindowEnd s = .next t ∧ (
        t.liu.idle = 32 ∧ t.liu.failures = s.liu.failures ∧ t.liu.alone = s.liu.alone
        ∧ (s.ctl.joinStage ≠ some .window → t = { s with liu := t.liu })
        ∧ (s.ctl.joinStage = some .window →
            t = { s with
              liu := t.liu
              ctl := { s.ctl with state := .active, joinStage := none }
              notices := (s.raiseCause .joined).notices
              queue := t.queue }
            ∧ (t.queue.filter fun q => q.frame.place ≠ .bid ∧ q.frame.place ≠ .lapse) = s.queue
            ∧ t.BidPlaceFollows ∧ t.LapsePlaceFollows
            ∧ ∀ e ∈ t.table, t.OldestExpired e →
                framePlaced t.queue .lapse = some { frame := .lapse e.id e.priority e.attempt, onLine := false }))

/-- R151 and R152: LEAVE_DRAIN_COMPLETE: when the three parts of the condition hold in LEAVING the station enters
DETACHED, with an empty table and the LIU held; otherwise nothing changes. IDLE as the phase of a held LIU and its counts of 0 are
the model's choice (log entry 19), and so is the command's making the test on its own (log entry 10). -/
def Obligations.CompleteDrainDetaches : Prop :=
  ∀ s : State,
    let complete : Prop :=
      (∀ r ∈ s.origin, r.isClosed = true) ∧ (∀ r ∈ s.held, r.state = .closed) ∧ s.queue = [] ∧ s.image = none
    (s.station = .leaving → s.ctl.draining = true → complete →
      exec .leaveDrainComplete s = .next
        { s with
          ctl := { s.ctl with state := .detached, draining := false }
          table := []
          notices := (s.raiseCause .detached).notices
          liu := { s.liu with
            phase := .idle, startUpIdle := 0, recessive := 0, dominant := 0, idle := 0, firstSpacing := false
            txSent := 0 } })
    ∧ (s.station ≠ .leaving ∨ s.ctl.draining = false ∨ ¬ complete → exec .leaveDrainComplete s = .next s)

/-- R71, R25, R65 to R68 and R74: a peer's frame that this station received and that is taken nowhere changes nothing but
the LIU, which answers it in its slots, by OBJECT without ACCEPT for an error with the place kept, or by an objection run
with the place lost (log entry 26 on bits that end early, log entry 24 on what it drove), while the Line is not stuck in
it and gives no sixteen recessive bits in a row, which no span holds. Twelve dominant samples in a row are a stuck Line,
in the span, in the slots that follow it with the place kept, or across both: the LIU recovers, LINE_FAULT is raised, and
nothing else changes before the drain is tested. -/
def Obligations.FrameTakenNowhereChangesOnlyLiu : Prop :=
  ∀ (s : State) (bits : List Bool) (accept : Level),
    s.liuHeld = false → s.image = none → s.receives → bits.head? = some false →
      (∀ before later : List Bool, bits ≠ before ++ List.replicate 16 true ++ later) →
      let slots : List Bool := match receive bits with
        | .placeLost => []
        | .placeKept => [decide (accept = .recessive), false]
        | .clean _ => [false, false]
      ((∀ before later : List Bool, bits ++ slots ≠ before ++ List.replicate 12 false ++ later) →
        ∃ t : State, exec (.frameTakenNowhere bits accept) s = .next t ∧ (
        t = { s with liu := t.liu } ∧ t.liu.phase = .spacing ∧ t.liu.failures = s.liu.failures
        ∧ t.liu.alone = s.liu.alone
        ∧ (receive bits = .placeLost →
            t.liu.droveRun = true ∧ t.liu.droveAccept = false ∧ t.liu.droveObject = false)
        ∧ (receive bits = .placeKept →
            t.liu.droveRun = false ∧ t.liu.droveAccept = false ∧ t.liu.droveObject = true)
        ∧ (∀ f : Frame, receive bits = .clean f →
            t.liu.droveRun = false ∧ t.liu.droveAccept = true
            ∧ (t.liu.droveObject = true ↔ f.head.sender ≠ s.address ∧ s.stores f = false))))
      ∧ (∀ before later : List Bool, s.Lawful → s.ctl.restartWaiting = false →
        bits ++ slots = before ++ List.replicate 12 false ++ later →
        ∃ u : State, exec (.frameTakenNowhere bits accept) s = .next u.testDrain ∧ (
        u = { s with liu := u.liu, notices := (s.raiseCause .lineFault).notices } ∧ u.liu.phase = .recovering
        ∧ u.liu.failures = s.liu.failures ∧ u.liu.alone = s.liu.alone))

/-! ### The bits of a frame -/

/-- R54 to R59 and R65: a receiver that samples a frame's bits as sent recovers the frame with every field, or finds
the error of Table 3-6 that its fields have; for every payload of at most 8 bytes and every kind. -/
def Obligations.ReceivedFrameIsTheSentFrame : Prop :=
  ∀ f : Frame, f.wf = true → receive f.wireBits = f.formatVerdict

/-- R57 and R58: removal of inserted bits gives back the span; no seven bits in a row on the Line are equal; and a
span of N bits takes at most (N - 7) / 5 + 1 inserted bits. -/
def Obligations.EdgeInsertionKeepsTheSpan : Prop :=
  ∀ span : List Bool,
    removeEdges (insertEdges span) = (span, false)
    ∧ (∀ (before after : List Bool) (b : Bool), insertEdges span ≠ before ++ List.replicate 7 b ++ after)
    ∧ (insertEdges span).length ≤ span.length + (if span.length < 7 then 0 else (span.length - 7) / 5 + 1)

/-- R63 and R54: of two contenders, the one with the lower arbitration field sends dominant at the first bit in which
they differ; and the fields are ordered by class bit, priority, kind, load and sender. -/
def Obligations.LowestArbitrationFieldWins : Prop :=
  ∀ f g : Frame,
    (f.arbitrationField < g.arbitrationField ↔
      ∃ i < 16, (∀ j < i, f.arbitrationField.getMsbD j = g.arbitrationField.getMsbD j)
        ∧ f.arbitrationField.getMsbD i = false ∧ g.arbitrationField.getMsbD i = true)
    ∧ (f.arbitrationField < g.arbitrationField ↔
        toLex (f.body.eventTraffic.toNat, toLex (f.head.priority.toNat, toLex (f.body.kind.toNat,
          toLex (f.head.load.toNat, f.head.sender.toNat))))
        < toLex (g.body.eventTraffic.toNat, toLex (g.head.priority.toNat, toLex (g.body.kind.toNat,
          toLex (g.head.load.toNat, g.head.sender.toNat)))))

/-! ### Laws that every step keeps -/

/-- R78 and R85: no step puts two frames into one place or two frames on the Line, and the transmit image is filled
exactly while a frame is on the Line. -/
def Obligations.StepKeepsQueueLaw : Prop :=
  ∀ s t : State, s.QueueLaw → step s = .next t → t.QueueLaw

/-- R2 and R3, R72 and R141, R125 (first half), R184 and R169, and that the counts of R60, R61, R74 and R75 stop at
their last thresholds, which is the model's choice (log entry 11): each of six laws is
kept by every step on its own: 48 entries at most and no two of one identity; a failure count in 0..8, 8 only in MUTE,
and an empty Frame Queue in CONFIG, DETACHED and MUTE; 8 records at most with distinct serials; one STATION notice. -/
def Obligations.StepKeepsEachBlocksLaw : Prop :=
  ∀ s t : State, step s = .next t →
    (s.TableLaw → t.TableLaw) ∧ (s.StandingLaw → t.StandingLaw) ∧ (s.OriginLaw → t.OriginLaw)
      ∧ (s.StationNoticeLaw → t.StationNoticeLaw) ∧ (s.PortLaw → t.PortLaw) ∧ (s.CountLaw → t.CountLaw)

/-- The whole law, with R98, R116, R125, R134 and R144: every block's law and the agreement of the blocks are kept by
every step, from every state in which they hold. -/
def Obligations.StepKeepsWholeLaw : Prop :=
  ∀ s t : State, s.Lawful → step s = .next t → t.Lawful

/-- The state after reset has every law, and its outputs are at rest: ATTN low, the Line released, SDO at high
impedance, and no offer. That State.reset is the part after END_OF_PIN_RESET with SEL high is the model's choice (log
entry 1). -/
def Obligations.ResetStateIsLawful : Prop :=
  State.reset.Lawful ∧ State.reset.PortLaw ∧ State.reset.CountLaw
    ∧ State.reset.attn = false ∧ State.reset.ltx = .recessive ∧ State.reset.sdo = none ∧ State.reset.offer = none

/-- R189, R82 and R191: in a lawful state the Notice Queue holds at most 17 notices, the Frame Queue at most 15 frames
and no more than the Origin records, the Held records and 3 together. -/
def Obligations.LawBoundsTheQueues : Prop :=
  ∀ s : State, s.Lawful →
    s.notices.length ≤ 17 ∧ s.queue.length ≤ 15 ∧ s.queue.length ≤ s.origin.length + s.held.length + 3

/-- Figure 7-1: from a lawful state a step changes the station state only as the figure allows. -/
def Obligations.StationStateFollowsFigure : Prop :=
  ∀ s t : State, s.Lawful → step s = .next t → s.station.mayBecome t.station = true

/-- R166: outside CONFIG no command but a pin reset changes the configuration. -/
def Obligations.ConfigurationIsLocked : Prop :=
  ∀ (s t : State) (c : Instr),
    s.station ≠ .config → c ≠ .pinReset → exec c s = .next t → t.config = s.config
end

