-- ==== Sys2Proof/Laws/State.lean ====
section
/-! SUPPORT. What each named operation over the queue, the notices, the port and the choices leaves as it was: one lemma for each
operation and each field of the state that it does not touch. -/

namespace Sys2Proof.Machine

/-- A fold of an operation that keeps a part of the state keeps that part. -/
theorem foldl_keeps {α β : Type} (part : State → β) (op : State → α → State)
    (h : ∀ s a, part (op s a) = part s) (l : List α) (s : State) : part (l.foldl op s) = part s := by
  induction l generalizing s with
  | nil => rfl
  | cons a l ih => rw [List.foldl_cons, ih, h]

/-! `State.post` -/
@[simp] theorem State.post_pending (s : State) (f : Queued) : (s.post f).pending = s.pending := by
  unfold State.post; (repeat' split) <;> simp
@[simp] theorem State.post_inReset (s : State) (f : Queued) : (s.post f).inReset = s.inReset := by
  unfold State.post; (repeat' split) <;> simp
@[simp] theorem State.post_divider (s : State) (f : Queued) : (s.post f).divider = s.divider := by
  unfold State.post; (repeat' split) <;> simp
@[simp] theorem State.post_config (s : State) (f : Queued) : (s.post f).config = s.config := by
  unfold State.post; (repeat' split) <;> simp
@[simp] theorem State.post_ctl (s : State) (f : Queued) : (s.post f).ctl = s.ctl := by
  unfold State.post; (repeat' split) <;> simp
@[simp] theorem State.post_liu (s : State) (f : Queued) : (s.post f).liu = s.liu := by
  unfold State.post; (repeat' split) <;> simp
@[simp] theorem State.post_table (s : State) (f : Queued) : (s.post f).table = s.table := by
  unfold State.post; (repeat' split) <;> simp
@[simp] theorem State.post_image (s : State) (f : Queued) : (s.post f).image = s.image := by
  unfold State.post; (repeat' split) <;> simp
@[simp] theorem State.post_held (s : State) (f : Queued) : (s.post f).held = s.held := by
  unfold State.post; (repeat' split) <;> simp
@[simp] theorem State.post_origin (s : State) (f : Queued) : (s.post f).origin = s.origin := by
  unfold State.post; (repeat' split) <;> simp
@[simp] theorem State.post_serialCounter (s : State) (f : Queued) : (s.post f).serialCounter = s.serialCounter := by
  unfold State.post; (repeat' split) <;> simp
@[simp] theorem State.post_notices (s : State) (f : Queued) : (s.post f).notices = s.notices := by
  unfold State.post; (repeat' split) <;> simp
@[simp] theorem State.post_port (s : State) (f : Queued) : (s.post f).port = s.port := by
  unfold State.post; (repeat' split) <;> simp
@[simp] theorem State.post_address (s : State) (f : Queued) : (s.post f).address = s.address := by simp [State.address]

/-! `State.removeFrame` -/
@[simp] theorem State.removeFrame_pending (s : State) (p : Place) : (s.removeFrame p).pending = s.pending := rfl
@[simp] theorem State.removeFrame_inReset (s : State) (p : Place) : (s.removeFrame p).inReset = s.inReset := rfl
@[simp] theorem State.removeFrame_divider (s : State) (p : Place) : (s.removeFrame p).divider = s.divider := rfl
@[simp] theorem State.removeFrame_config (s : State) (p : Place) : (s.removeFrame p).config = s.config := rfl
@[simp] theorem State.removeFrame_ctl (s : State) (p : Place) : (s.removeFrame p).ctl = s.ctl := rfl
@[simp] theorem State.removeFrame_liu (s : State) (p : Place) : (s.removeFrame p).liu = s.liu := rfl
@[simp] theorem State.removeFrame_table (s : State) (p : Place) : (s.removeFrame p).table = s.table := rfl
@[simp] theorem State.removeFrame_image (s : State) (p : Place) : (s.removeFrame p).image = s.image := rfl
@[simp] theorem State.removeFrame_held (s : State) (p : Place) : (s.removeFrame p).held = s.held := rfl
@[simp] theorem State.removeFrame_origin (s : State) (p : Place) : (s.removeFrame p).origin = s.origin := rfl
@[simp] theorem State.removeFrame_serialCounter (s : State) (p : Place) : (s.removeFrame p).serialCounter = s.serialCounter := rfl
@[simp] theorem State.removeFrame_notices (s : State) (p : Place) : (s.removeFrame p).notices = s.notices := rfl
@[simp] theorem State.removeFrame_port (s : State) (p : Place) : (s.removeFrame p).port = s.port := rfl
@[simp] theorem State.removeFrame_address (s : State) (p : Place) : (s.removeFrame p).address = s.address := by simp [State.address]

/-! `State.startFrame` -/
@[simp] theorem State.startFrame_pending (s : State) : (s.startFrame).pending = s.pending := by
  unfold State.startFrame; (repeat' split) <;> simp
@[simp] theorem State.startFrame_inReset (s : State) : (s.startFrame).inReset = s.inReset := by
  unfold State.startFrame; (repeat' split) <;> simp
@[simp] theorem State.startFrame_divider (s : State) : (s.startFrame).divider = s.divider := by
  unfold State.startFrame; (repeat' split) <;> simp
@[simp] theorem State.startFrame_config (s : State) : (s.startFrame).config = s.config := by
  unfold State.startFrame; (repeat' split) <;> simp
@[simp] theorem State.startFrame_ctl (s : State) : (s.startFrame).ctl = s.ctl := by
  unfold State.startFrame; (repeat' split) <;> simp
@[simp] theorem State.startFrame_table (s : State) : (s.startFrame).table = s.table := by
  unfold State.startFrame; (repeat' split) <;> simp
@[simp] theorem State.startFrame_held (s : State) : (s.startFrame).held = s.held := by
  unfold State.startFrame; (repeat' split) <;> simp
@[simp] theorem State.startFrame_origin (s : State) : (s.startFrame).origin = s.origin := by
  unfold State.startFrame; (repeat' split) <;> simp
@[simp] theorem State.startFrame_serialCounter (s : State) : (s.startFrame).serialCounter = s.serialCounter := by
  unfold State.startFrame; (repeat' split) <;> simp
@[simp] theorem State.startFrame_notices (s : State) : (s.startFrame).notices = s.notices := by
  unfold State.startFrame; (repeat' split) <;> simp
@[simp] theorem State.startFrame_port (s : State) : (s.startFrame).port = s.port := by
  unfold State.startFrame; (repeat' split) <;> simp
@[simp] theorem State.startFrame_address (s : State) : (s.startFrame).address = s.address := by simp [State.address]

/-! `State.keepFrame` -/
@[simp] theorem State.keepFrame_pending (s : State) : (s.keepFrame).pending = s.pending := rfl
@[simp] theorem State.keepFrame_inReset (s : State) : (s.keepFrame).inReset = s.inReset := rfl
@[simp] theorem State.keepFrame_divider (s : State) : (s.keepFrame).divider = s.divider := rfl
@[simp] theorem State.keepFrame_config (s : State) : (s.keepFrame).config = s.config := rfl
@[simp] theorem State.keepFrame_ctl (s : State) : (s.keepFrame).ctl = s.ctl := rfl
@[simp] theorem State.keepFrame_liu (s : State) : (s.keepFrame).liu = s.liu := rfl
@[simp] theorem State.keepFrame_table (s : State) : (s.keepFrame).table = s.table := rfl
@[simp] theorem State.keepFrame_held (s : State) : (s.keepFrame).held = s.held := rfl
@[simp] theorem State.keepFrame_origin (s : State) : (s.keepFrame).origin = s.origin := rfl
@[simp] theorem State.keepFrame_serialCounter (s : State) : (s.keepFrame).serialCounter = s.serialCounter := rfl
@[simp] theorem State.keepFrame_notices (s : State) : (s.keepFrame).notices = s.notices := rfl
@[simp] theorem State.keepFrame_port (s : State) : (s.keepFrame).port = s.port := rfl
@[simp] theorem State.keepFrame_address (s : State) : (s.keepFrame).address = s.address := by simp [State.address]

/-! `State.dropFrame` -/
@[simp] theorem State.dropFrame_pending (s : State) : (s.dropFrame).pending = s.pending := rfl
@[simp] theorem State.dropFrame_inReset (s : State) : (s.dropFrame).inReset = s.inReset := rfl
@[simp] theorem State.dropFrame_divider (s : State) : (s.dropFrame).divider = s.divider := rfl
@[simp] theorem State.dropFrame_config (s : State) : (s.dropFrame).config = s.config := rfl
@[simp] theorem State.dropFrame_ctl (s : State) : (s.dropFrame).ctl = s.ctl := rfl
@[simp] theorem State.dropFrame_liu (s : State) : (s.dropFrame).liu = s.liu := rfl
@[simp] theorem State.dropFrame_table (s : State) : (s.dropFrame).table = s.table := rfl
@[simp] theorem State.dropFrame_held (s : State) : (s.dropFrame).held = s.held := rfl
@[simp] theorem State.dropFrame_origin (s : State) : (s.dropFrame).origin = s.origin := rfl
@[simp] theorem State.dropFrame_serialCounter (s : State) : (s.dropFrame).serialCounter = s.serialCounter := rfl
@[simp] theorem State.dropFrame_notices (s : State) : (s.dropFrame).notices = s.notices := rfl
@[simp] theorem State.dropFrame_port (s : State) : (s.dropFrame).port = s.port := rfl
@[simp] theorem State.dropFrame_address (s : State) : (s.dropFrame).address = s.address := by simp [State.address]

/-! `State.purge` -/
@[simp] theorem State.purge_pending (s : State) : (s.purge).pending = s.pending := rfl
@[simp] theorem State.purge_inReset (s : State) : (s.purge).inReset = s.inReset := rfl
@[simp] theorem State.purge_divider (s : State) : (s.purge).divider = s.divider := rfl
@[simp] theorem State.purge_config (s : State) : (s.purge).config = s.config := rfl
@[simp] theorem State.purge_ctl (s : State) : (s.purge).ctl = s.ctl := rfl
@[simp] theorem State.purge_liu (s : State) : (s.purge).liu = s.liu := rfl
@[simp] theorem State.purge_table (s : State) : (s.purge).table = s.table := rfl
@[simp] theorem State.purge_image (s : State) : (s.purge).image = s.image := rfl
@[simp] theorem State.purge_held (s : State) : (s.purge).held = s.held := rfl
@[simp] theorem State.purge_origin (s : State) : (s.purge).origin = s.origin := rfl
@[simp] theorem State.purge_serialCounter (s : State) : (s.purge).serialCounter = s.serialCounter := rfl
@[simp] theorem State.purge_notices (s : State) : (s.purge).notices = s.notices := rfl
@[simp] theorem State.purge_port (s : State) : (s.purge).port = s.port := rfl
@[simp] theorem State.purge_address (s : State) : (s.purge).address = s.address := by simp [State.address]

/-! `State.notify` -/
@[simp] theorem State.notify_pending (s : State) (n : Notice) : (s.notify n).pending = s.pending := rfl
@[simp] theorem State.notify_inReset (s : State) (n : Notice) : (s.notify n).inReset = s.inReset := rfl
@[simp] theorem State.notify_divider (s : State) (n : Notice) : (s.notify n).divider = s.divider := rfl
@[simp] theorem State.notify_config (s : State) (n : Notice) : (s.notify n).config = s.config := rfl
@[simp] theorem State.notify_ctl (s : State) (n : Notice) : (s.notify n).ctl = s.ctl := rfl
@[simp] theorem State.notify_liu (s : State) (n : Notice) : (s.notify n).liu = s.liu := rfl
@[simp] theorem State.notify_table (s : State) (n : Notice) : (s.notify n).table = s.table := rfl
@[simp] theorem State.notify_queue (s : State) (n : Notice) : (s.notify n).queue = s.queue := rfl
@[simp] theorem State.notify_image (s : State) (n : Notice) : (s.notify n).image = s.image := rfl
@[simp] theorem State.notify_held (s : State) (n : Notice) : (s.notify n).held = s.held := rfl
@[simp] theorem State.notify_origin (s : State) (n : Notice) : (s.notify n).origin = s.origin := rfl
@[simp] theorem State.notify_serialCounter (s : State) (n : Notice) : (s.notify n).serialCounter = s.serialCounter := rfl
@[simp] theorem State.notify_port (s : State) (n : Notice) : (s.notify n).port = s.port := rfl
@[simp] theorem State.notify_address (s : State) (n : Notice) : (s.notify n).address = s.address := by simp [State.address]

/-! `State.raiseCause` -/
@[simp] theorem State.raiseCause_pending (s : State) (c : StationCause) : (s.raiseCause c).pending = s.pending := by
  unfold State.raiseCause; (repeat' split) <;> simp
@[simp] theorem State.raiseCause_inReset (s : State) (c : StationCause) : (s.raiseCause c).inReset = s.inReset := by
  unfold State.raiseCause; (repeat' split) <;> simp
@[simp] theorem State.raiseCause_divider (s : State) (c : StationCause) : (s.raiseCause c).divider = s.divider := by
  unfold State.raiseCause; (repeat' split) <;> simp
@[simp] theorem State.raiseCause_config (s : State) (c : StationCause) : (s.raiseCause c).config = s.config := by
  unfold State.raiseCause; (repeat' split) <;> simp
@[simp] theorem State.raiseCause_ctl (s : State) (c : StationCause) : (s.raiseCause c).ctl = s.ctl := by
  unfold State.raiseCause; (repeat' split) <;> simp
@[simp] theorem State.raiseCause_liu (s : State) (c : StationCause) : (s.raiseCause c).liu = s.liu := by
  unfold State.raiseCause; (repeat' split) <;> simp
@[simp] theorem State.raiseCause_table (s : State) (c : StationCause) : (s.raiseCause c).table = s.table := by
  unfold State.raiseCause; (repeat' split) <;> simp
@[simp] theorem State.raiseCause_queue (s : State) (c : StationCause) : (s.raiseCause c).queue = s.queue := by
  unfold State.raiseCause; (repeat' split) <;> simp
@[simp] theorem State.raiseCause_image (s : State) (c : StationCause) : (s.raiseCause c).image = s.image := by
  unfold State.raiseCause; (repeat' split) <;> simp
@[simp] theorem State.raiseCause_held (s : State) (c : StationCause) : (s.raiseCause c).held = s.held := by
  unfold State.raiseCause; (repeat' split) <;> simp
@[simp] theorem State.raiseCause_origin (s : State) (c : StationCause) : (s.raiseCause c).origin = s.origin := by
  unfold State.raiseCause; (repeat' split) <;> simp
@[simp] theorem State.raiseCause_serialCounter (s : State) (c : StationCause) : (s.raiseCause c).serialCounter = s.serialCounter := by
  unfold State.raiseCause; (repeat' split) <;> simp
@[simp] theorem State.raiseCause_port (s : State) (c : StationCause) : (s.raiseCause c).port = s.port := by
  unfold State.raiseCause; (repeat' split) <;> simp
@[simp] theorem State.raiseCause_address (s : State) (c : StationCause) : (s.raiseCause c).address = s.address := by simp [State.address]

/-! `State.complete` -/
@[simp] theorem State.complete_pending (s : State) (code : Byte) (o : ReplyCode) (b : List Byte) : (s.complete code o b).pending = s.pending := rfl
@[simp] theorem State.complete_inReset (s : State) (code : Byte) (o : ReplyCode) (b : List Byte) : (s.complete code o b).inReset = s.inReset := rfl
@[simp] theorem State.complete_divider (s : State) (code : Byte) (o : ReplyCode) (b : List Byte) : (s.complete code o b).divider = s.divider := rfl
@[simp] theorem State.complete_config (s : State) (code : Byte) (o : ReplyCode) (b : List Byte) : (s.complete code o b).config = s.config := rfl
@[simp] theorem State.complete_ctl (s : State) (code : Byte) (o : ReplyCode) (b : List Byte) : (s.complete code o b).ctl = s.ctl := rfl
@[simp] theorem State.complete_liu (s : State) (code : Byte) (o : ReplyCode) (b : List Byte) : (s.complete code o b).liu = s.liu := rfl
@[simp] theorem State.complete_table (s : State) (code : Byte) (o : ReplyCode) (b : List Byte) : (s.complete code o b).table = s.table := rfl
@[simp] theorem State.complete_queue (s : State) (code : Byte) (o : ReplyCode) (b : List Byte) : (s.complete code o b).queue = s.queue := rfl
@[simp] theorem State.complete_image (s : State) (code : Byte) (o : ReplyCode) (b : List Byte) : (s.complete code o b).image = s.image := rfl
@[simp] theorem State.complete_held (s : State) (code : Byte) (o : ReplyCode) (b : List Byte) : (s.complete code o b).held = s.held := rfl
@[simp] theorem State.complete_origin (s : State) (code : Byte) (o : ReplyCode) (b : List Byte) : (s.complete code o b).origin = s.origin := rfl
@[simp] theorem State.complete_serialCounter (s : State) (code : Byte) (o : ReplyCode) (b : List Byte) : (s.complete code o b).serialCounter = s.serialCounter := rfl
@[simp] theorem State.complete_notices (s : State) (code : Byte) (o : ReplyCode) (b : List Byte) : (s.complete code o b).notices = s.notices := rfl
@[simp] theorem State.complete_address (s : State) (code : Byte) (o : ReplyCode) (b : List Byte) : (s.complete code o b).address = s.address := by simp [State.address]

/-! `State.remakeBid` -/
@[simp] theorem State.remakeBid_pending (s : State) : (s.remakeBid).pending = s.pending := by
  unfold State.remakeBid; (repeat' split) <;> simp
@[simp] theorem State.remakeBid_inReset (s : State) : (s.remakeBid).inReset = s.inReset := by
  unfold State.remakeBid; (repeat' split) <;> simp
@[simp] theorem State.remakeBid_divider (s : State) : (s.remakeBid).divider = s.divider := by
  unfold State.remakeBid; (repeat' split) <;> simp
@[simp] theorem State.remakeBid_config (s : State) : (s.remakeBid).config = s.config := by
  unfold State.remakeBid; (repeat' split) <;> simp
@[simp] theorem State.remakeBid_ctl (s : State) : (s.remakeBid).ctl = s.ctl := by
  unfold State.remakeBid; (repeat' split) <;> simp
@[simp] theorem State.remakeBid_liu (s : State) : (s.remakeBid).liu = s.liu := by
  unfold State.remakeBid; (repeat' split) <;> simp
@[simp] theorem State.remakeBid_table (s : State) : (s.remakeBid).table = s.table := by
  unfold State.remakeBid; (repeat' split) <;> simp
@[simp] theorem State.remakeBid_image (s : State) : (s.remakeBid).image = s.image := by
  unfold State.remakeBid; (repeat' split) <;> simp
@[simp] theorem State.remakeBid_held (s : State) : (s.remakeBid).held = s.held := by
  unfold State.remakeBid; (repeat' split) <;> simp
@[simp] theorem State.remakeBid_origin (s : State) : (s.remakeBid).origin = s.origin := by
  unfold State.remakeBid; (repeat' split) <;> simp
@[simp] theorem State.remakeBid_serialCounter (s : State) : (s.remakeBid).serialCounter = s.serialCounter := by
  unfold State.remakeBid; (repeat' split) <;> simp
@[simp] theorem State.remakeBid_notices (s : State) : (s.remakeBid).notices = s.notices := by
  unfold State.remakeBid; (repeat' split) <;> simp
@[simp] theorem State.remakeBid_port (s : State) : (s.remakeBid).port = s.port := by
  unfold State.remakeBid; (repeat' split) <;> simp
@[simp] theorem State.remakeBid_address (s : State) : (s.remakeBid).address = s.address := by simp [State.address]

/-! `State.remakeLapse` -/
@[simp] theorem State.remakeLapse_pending (s : State) : (s.remakeLapse).pending = s.pending := by
  unfold State.remakeLapse; (repeat' split) <;> simp
@[simp] theorem State.remakeLapse_inReset (s : State) : (s.remakeLapse).inReset = s.inReset := by
  unfold State.remakeLapse; (repeat' split) <;> simp
@[simp] theorem State.remakeLapse_divider (s : State) : (s.remakeLapse).divider = s.divider := by
  unfold State.remakeLapse; (repeat' split) <;> simp
@[simp] theorem State.remakeLapse_config (s : State) : (s.remakeLapse).config = s.config := by
  unfold State.remakeLapse; (repeat' split) <;> simp
@[simp] theorem State.remakeLapse_ctl (s : State) : (s.remakeLapse).ctl = s.ctl := by
  unfold State.remakeLapse; (repeat' split) <;> simp
@[simp] theorem State.remakeLapse_liu (s : State) : (s.remakeLapse).liu = s.liu := by
  unfold State.remakeLapse; (repeat' split) <;> simp
@[simp] theorem State.remakeLapse_table (s : State) : (s.remakeLapse).table = s.table := by
  unfold State.remakeLapse; (repeat' split) <;> simp
@[simp] theorem State.remakeLapse_image (s : State) : (s.remakeLapse).image = s.image := by
  unfold State.remakeLapse; (repeat' split) <;> simp
@[simp] theorem State.remakeLapse_held (s : State) : (s.remakeLapse).held = s.held := by
  unfold State.remakeLapse; (repeat' split) <;> simp
@[simp] theorem State.remakeLapse_origin (s : State) : (s.remakeLapse).origin = s.origin := by
  unfold State.remakeLapse; (repeat' split) <;> simp
@[simp] theorem State.remakeLapse_serialCounter (s : State) : (s.remakeLapse).serialCounter = s.serialCounter := by
  unfold State.remakeLapse; (repeat' split) <;> simp
@[simp] theorem State.remakeLapse_notices (s : State) : (s.remakeLapse).notices = s.notices := by
  unfold State.remakeLapse; (repeat' split) <;> simp
@[simp] theorem State.remakeLapse_port (s : State) : (s.remakeLapse).port = s.port := by
  unfold State.remakeLapse; (repeat' split) <;> simp
@[simp] theorem State.remakeLapse_address (s : State) : (s.remakeLapse).address = s.address := by simp [State.address]

/-! `State.remakeChoices` -/
@[simp] theorem State.remakeChoices_pending (s : State) : (s.remakeChoices).pending = s.pending := by
  simp [State.remakeChoices]
@[simp] theorem State.remakeChoices_inReset (s : State) : (s.remakeChoices).inReset = s.inReset := by
  simp [State.remakeChoices]
@[simp] theorem State.remakeChoices_divider (s : State) : (s.remakeChoices).divider = s.divider := by
  simp [State.remakeChoices]
@[simp] theorem State.remakeChoices_config (s : State) : (s.remakeChoices).config = s.config := by
  simp [State.remakeChoices]
@[simp] theorem State.remakeChoices_ctl (s : State) : (s.remakeChoices).ctl = s.ctl := by
  simp [State.remakeChoices]
@[simp] theorem State.remakeChoices_liu (s : State) : (s.remakeChoices).liu = s.liu := by
  simp [State.remakeChoices]
@[simp] theorem State.remakeChoices_table (s : State) : (s.remakeChoices).table = s.table := by
  simp [State.remakeChoices]
@[simp] theorem State.remakeChoices_image (s : State) : (s.remakeChoices).image = s.image := by
  simp [State.remakeChoices]
@[simp] theorem State.remakeChoices_held (s : State) : (s.remakeChoices).held = s.held := by
  simp [State.remakeChoices]
@[simp] theorem State.remakeChoices_origin (s : State) : (s.remakeChoices).origin = s.origin := by
  simp [State.remakeChoices]
@[simp] theorem State.remakeChoices_serialCounter (s : State) : (s.remakeChoices).serialCounter = s.serialCounter := by
  simp [State.remakeChoices]
@[simp] theorem State.remakeChoices_notices (s : State) : (s.remakeChoices).notices = s.notices := by
  simp [State.remakeChoices]
@[simp] theorem State.remakeChoices_port (s : State) : (s.remakeChoices).port = s.port := by
  simp [State.remakeChoices]
@[simp] theorem State.remakeChoices_address (s : State) : (s.remakeChoices).address = s.address := by simp [State.address]

end Sys2Proof.Machine
end

