-- ==== Sys2Proof/Laws/Lists.lean ====
section
/-! SUPPORT. What each operation over the Held List and the Origin List leaves as it was. -/

namespace Sys2Proof.Machine

/-! `State.setHeld` -/
@[simp] theorem State.setHeld_pending (s : State) (id : Identity) (g : HeldRecord → HeldRecord) : (s.setHeld id g).pending = s.pending := rfl
@[simp] theorem State.setHeld_inReset (s : State) (id : Identity) (g : HeldRecord → HeldRecord) : (s.setHeld id g).inReset = s.inReset := rfl
@[simp] theorem State.setHeld_divider (s : State) (id : Identity) (g : HeldRecord → HeldRecord) : (s.setHeld id g).divider = s.divider := rfl
@[simp] theorem State.setHeld_config (s : State) (id : Identity) (g : HeldRecord → HeldRecord) : (s.setHeld id g).config = s.config := rfl
@[simp] theorem State.setHeld_ctl (s : State) (id : Identity) (g : HeldRecord → HeldRecord) : (s.setHeld id g).ctl = s.ctl := rfl
@[simp] theorem State.setHeld_liu (s : State) (id : Identity) (g : HeldRecord → HeldRecord) : (s.setHeld id g).liu = s.liu := rfl
@[simp] theorem State.setHeld_table (s : State) (id : Identity) (g : HeldRecord → HeldRecord) : (s.setHeld id g).table = s.table := rfl
@[simp] theorem State.setHeld_queue (s : State) (id : Identity) (g : HeldRecord → HeldRecord) : (s.setHeld id g).queue = s.queue := rfl
@[simp] theorem State.setHeld_image (s : State) (id : Identity) (g : HeldRecord → HeldRecord) : (s.setHeld id g).image = s.image := rfl
@[simp] theorem State.setHeld_origin (s : State) (id : Identity) (g : HeldRecord → HeldRecord) : (s.setHeld id g).origin = s.origin := rfl
@[simp] theorem State.setHeld_serialCounter (s : State) (id : Identity) (g : HeldRecord → HeldRecord) : (s.setHeld id g).serialCounter = s.serialCounter := rfl
@[simp] theorem State.setHeld_notices (s : State) (id : Identity) (g : HeldRecord → HeldRecord) : (s.setHeld id g).notices = s.notices := rfl
@[simp] theorem State.setHeld_port (s : State) (id : Identity) (g : HeldRecord → HeldRecord) : (s.setHeld id g).port = s.port := rfl
@[simp] theorem State.setHeld_address (s : State) (id : Identity) (g : HeldRecord → HeldRecord) : (s.setHeld id g).address = s.address := by simp [State.address]

/-! `State.freeHeld` -/
@[simp] theorem State.freeHeld_pending (s : State) (id : Identity) : (s.freeHeld id).pending = s.pending := rfl
@[simp] theorem State.freeHeld_inReset (s : State) (id : Identity) : (s.freeHeld id).inReset = s.inReset := rfl
@[simp] theorem State.freeHeld_divider (s : State) (id : Identity) : (s.freeHeld id).divider = s.divider := rfl
@[simp] theorem State.freeHeld_config (s : State) (id : Identity) : (s.freeHeld id).config = s.config := rfl
@[simp] theorem State.freeHeld_ctl (s : State) (id : Identity) : (s.freeHeld id).ctl = s.ctl := rfl
@[simp] theorem State.freeHeld_liu (s : State) (id : Identity) : (s.freeHeld id).liu = s.liu := rfl
@[simp] theorem State.freeHeld_table (s : State) (id : Identity) : (s.freeHeld id).table = s.table := rfl
@[simp] theorem State.freeHeld_queue (s : State) (id : Identity) : (s.freeHeld id).queue = s.queue := rfl
@[simp] theorem State.freeHeld_image (s : State) (id : Identity) : (s.freeHeld id).image = s.image := rfl
@[simp] theorem State.freeHeld_origin (s : State) (id : Identity) : (s.freeHeld id).origin = s.origin := rfl
@[simp] theorem State.freeHeld_serialCounter (s : State) (id : Identity) : (s.freeHeld id).serialCounter = s.serialCounter := rfl
@[simp] theorem State.freeHeld_notices (s : State) (id : Identity) : (s.freeHeld id).notices = s.notices := rfl
@[simp] theorem State.freeHeld_port (s : State) (id : Identity) : (s.freeHeld id).port = s.port := rfl
@[simp] theorem State.freeHeld_address (s : State) (id : Identity) : (s.freeHeld id).address = s.address := by simp [State.address]

/-! `State.noticeDeadline` -/
@[simp] theorem State.noticeDeadline_pending (s : State) (id : Identity) (a : Attempt) : (s.noticeDeadline id a).pending = s.pending := by
  unfold State.noticeDeadline; (repeat' split) <;> simp
@[simp] theorem State.noticeDeadline_inReset (s : State) (id : Identity) (a : Attempt) : (s.noticeDeadline id a).inReset = s.inReset := by
  unfold State.noticeDeadline; (repeat' split) <;> simp
@[simp] theorem State.noticeDeadline_divider (s : State) (id : Identity) (a : Attempt) : (s.noticeDeadline id a).divider = s.divider := by
  unfold State.noticeDeadline; (repeat' split) <;> simp
@[simp] theorem State.noticeDeadline_config (s : State) (id : Identity) (a : Attempt) : (s.noticeDeadline id a).config = s.config := by
  unfold State.noticeDeadline; (repeat' split) <;> simp
@[simp] theorem State.noticeDeadline_ctl (s : State) (id : Identity) (a : Attempt) : (s.noticeDeadline id a).ctl = s.ctl := by
  unfold State.noticeDeadline; (repeat' split) <;> simp
@[simp] theorem State.noticeDeadline_liu (s : State) (id : Identity) (a : Attempt) : (s.noticeDeadline id a).liu = s.liu := by
  unfold State.noticeDeadline; (repeat' split) <;> simp
@[simp] theorem State.noticeDeadline_table (s : State) (id : Identity) (a : Attempt) : (s.noticeDeadline id a).table = s.table := by
  unfold State.noticeDeadline; (repeat' split) <;> simp
@[simp] theorem State.noticeDeadline_queue (s : State) (id : Identity) (a : Attempt) : (s.noticeDeadline id a).queue = s.queue := by
  unfold State.noticeDeadline; (repeat' split) <;> simp
@[simp] theorem State.noticeDeadline_image (s : State) (id : Identity) (a : Attempt) : (s.noticeDeadline id a).image = s.image := by
  unfold State.noticeDeadline; (repeat' split) <;> simp
@[simp] theorem State.noticeDeadline_origin (s : State) (id : Identity) (a : Attempt) : (s.noticeDeadline id a).origin = s.origin := by
  unfold State.noticeDeadline; (repeat' split) <;> simp
@[simp] theorem State.noticeDeadline_serialCounter (s : State) (id : Identity) (a : Attempt) : (s.noticeDeadline id a).serialCounter = s.serialCounter := by
  unfold State.noticeDeadline; (repeat' split) <;> simp
@[simp] theorem State.noticeDeadline_port (s : State) (id : Identity) (a : Attempt) : (s.noticeDeadline id a).port = s.port := by
  unfold State.noticeDeadline; (repeat' split) <;> simp
@[simp] theorem State.noticeDeadline_address (s : State) (id : Identity) (a : Attempt) : (s.noticeDeadline id a).address = s.address := by simp [State.address]

/-! `State.revoke` -/
@[simp] theorem State.revoke_pending (s : State) (id : Identity) (c : RevokeCause) : (s.revoke id c).pending = s.pending := by
  unfold State.revoke; (repeat' split) <;> simp
@[simp] theorem State.revoke_inReset (s : State) (id : Identity) (c : RevokeCause) : (s.revoke id c).inReset = s.inReset := by
  unfold State.revoke; (repeat' split) <;> simp
@[simp] theorem State.revoke_divider (s : State) (id : Identity) (c : RevokeCause) : (s.revoke id c).divider = s.divider := by
  unfold State.revoke; (repeat' split) <;> simp
@[simp] theorem State.revoke_config (s : State) (id : Identity) (c : RevokeCause) : (s.revoke id c).config = s.config := by
  unfold State.revoke; (repeat' split) <;> simp
@[simp] theorem State.revoke_ctl (s : State) (id : Identity) (c : RevokeCause) : (s.revoke id c).ctl = s.ctl := by
  unfold State.revoke; (repeat' split) <;> simp
@[simp] theorem State.revoke_liu (s : State) (id : Identity) (c : RevokeCause) : (s.revoke id c).liu = s.liu := by
  unfold State.revoke; (repeat' split) <;> simp
@[simp] theorem State.revoke_table (s : State) (id : Identity) (c : RevokeCause) : (s.revoke id c).table = s.table := by
  unfold State.revoke; (repeat' split) <;> simp
@[simp] theorem State.revoke_queue (s : State) (id : Identity) (c : RevokeCause) : (s.revoke id c).queue = s.queue := by
  unfold State.revoke; (repeat' split) <;> simp
@[simp] theorem State.revoke_image (s : State) (id : Identity) (c : RevokeCause) : (s.revoke id c).image = s.image := by
  unfold State.revoke; (repeat' split) <;> simp
@[simp] theorem State.revoke_origin (s : State) (id : Identity) (c : RevokeCause) : (s.revoke id c).origin = s.origin := by
  unfold State.revoke; (repeat' split) <;> simp
@[simp] theorem State.revoke_serialCounter (s : State) (id : Identity) (c : RevokeCause) : (s.revoke id c).serialCounter = s.serialCounter := by
  unfold State.revoke; (repeat' split) <;> simp
@[simp] theorem State.revoke_port (s : State) (id : Identity) (c : RevokeCause) : (s.revoke id c).port = s.port := by
  unfold State.revoke; (repeat' split) <;> simp
@[simp] theorem State.revoke_address (s : State) (id : Identity) (c : RevokeCause) : (s.revoke id c).address = s.address := by simp [State.address]

/-! `State.createHeld` -/
@[simp] theorem State.createHeld_pending (s : State) (id : Identity) (a : Attempt) : (s.createHeld id a).pending = s.pending := by
  unfold State.createHeld; dsimp only; (repeat' split) <;> simp
@[simp] theorem State.createHeld_inReset (s : State) (id : Identity) (a : Attempt) : (s.createHeld id a).inReset = s.inReset := by
  unfold State.createHeld; dsimp only; (repeat' split) <;> simp
@[simp] theorem State.createHeld_divider (s : State) (id : Identity) (a : Attempt) : (s.createHeld id a).divider = s.divider := by
  unfold State.createHeld; dsimp only; (repeat' split) <;> simp
@[simp] theorem State.createHeld_config (s : State) (id : Identity) (a : Attempt) : (s.createHeld id a).config = s.config := by
  unfold State.createHeld; dsimp only; (repeat' split) <;> simp
@[simp] theorem State.createHeld_ctl (s : State) (id : Identity) (a : Attempt) : (s.createHeld id a).ctl = s.ctl := by
  unfold State.createHeld; dsimp only; (repeat' split) <;> simp
@[simp] theorem State.createHeld_liu (s : State) (id : Identity) (a : Attempt) : (s.createHeld id a).liu = s.liu := by
  unfold State.createHeld; dsimp only; (repeat' split) <;> simp
@[simp] theorem State.createHeld_table (s : State) (id : Identity) (a : Attempt) : (s.createHeld id a).table = s.table := by
  unfold State.createHeld; dsimp only; (repeat' split) <;> simp
@[simp] theorem State.createHeld_image (s : State) (id : Identity) (a : Attempt) : (s.createHeld id a).image = s.image := by
  unfold State.createHeld; dsimp only; (repeat' split) <;> simp
@[simp] theorem State.createHeld_origin (s : State) (id : Identity) (a : Attempt) : (s.createHeld id a).origin = s.origin := by
  unfold State.createHeld; dsimp only; (repeat' split) <;> simp
@[simp] theorem State.createHeld_serialCounter (s : State) (id : Identity) (a : Attempt) : (s.createHeld id a).serialCounter = s.serialCounter := by
  unfold State.createHeld; dsimp only; (repeat' split) <;> simp
@[simp] theorem State.createHeld_notices (s : State) (id : Identity) (a : Attempt) : (s.createHeld id a).notices = s.notices := by
  unfold State.createHeld; dsimp only; (repeat' split) <;> simp
@[simp] theorem State.createHeld_port (s : State) (id : Identity) (a : Attempt) : (s.createHeld id a).port = s.port := by
  unfold State.createHeld; dsimp only; (repeat' split) <;> simp
@[simp] theorem State.createHeld_address (s : State) (id : Identity) (a : Attempt) : (s.createHeld id a).address = s.address := by simp [State.address]

/-! `State.settleHeld` -/
@[simp] theorem State.settleHeld_pending (s : State) (id : Identity) : (s.settleHeld id).pending = s.pending := by
  unfold State.settleHeld; (repeat' split) <;> simp
@[simp] theorem State.settleHeld_inReset (s : State) (id : Identity) : (s.settleHeld id).inReset = s.inReset := by
  unfold State.settleHeld; (repeat' split) <;> simp
@[simp] theorem State.settleHeld_divider (s : State) (id : Identity) : (s.settleHeld id).divider = s.divider := by
  unfold State.settleHeld; (repeat' split) <;> simp
@[simp] theorem State.settleHeld_config (s : State) (id : Identity) : (s.settleHeld id).config = s.config := by
  unfold State.settleHeld; (repeat' split) <;> simp
@[simp] theorem State.settleHeld_ctl (s : State) (id : Identity) : (s.settleHeld id).ctl = s.ctl := by
  unfold State.settleHeld; (repeat' split) <;> simp
@[simp] theorem State.settleHeld_liu (s : State) (id : Identity) : (s.settleHeld id).liu = s.liu := by
  unfold State.settleHeld; (repeat' split) <;> simp
@[simp] theorem State.settleHeld_table (s : State) (id : Identity) : (s.settleHeld id).table = s.table := by
  unfold State.settleHeld; (repeat' split) <;> simp
@[simp] theorem State.settleHeld_queue (s : State) (id : Identity) : (s.settleHeld id).queue = s.queue := by
  unfold State.settleHeld; (repeat' split) <;> simp
@[simp] theorem State.settleHeld_image (s : State) (id : Identity) : (s.settleHeld id).image = s.image := by
  unfold State.settleHeld; (repeat' split) <;> simp
@[simp] theorem State.settleHeld_origin (s : State) (id : Identity) : (s.settleHeld id).origin = s.origin := by
  unfold State.settleHeld; (repeat' split) <;> simp
@[simp] theorem State.settleHeld_serialCounter (s : State) (id : Identity) : (s.settleHeld id).serialCounter = s.serialCounter := by
  unfold State.settleHeld; (repeat' split) <;> simp
@[simp] theorem State.settleHeld_notices (s : State) (id : Identity) : (s.settleHeld id).notices = s.notices := by
  unfold State.settleHeld; (repeat' split) <;> simp
@[simp] theorem State.settleHeld_port (s : State) (id : Identity) : (s.settleHeld id).port = s.port := by
  unfold State.settleHeld; (repeat' split) <;> simp
@[simp] theorem State.settleHeld_address (s : State) (id : Identity) : (s.settleHeld id).address = s.address := by simp [State.address]

/-! `State.popHeld` -/
@[simp] theorem State.popHeld_pending (s : State) (id : Identity) : (s.popHeld id).pending = s.pending := by
  unfold State.popHeld; dsimp only; (repeat' split) <;> simp
@[simp] theorem State.popHeld_inReset (s : State) (id : Identity) : (s.popHeld id).inReset = s.inReset := by
  unfold State.popHeld; dsimp only; (repeat' split) <;> simp
@[simp] theorem State.popHeld_divider (s : State) (id : Identity) : (s.popHeld id).divider = s.divider := by
  unfold State.popHeld; dsimp only; (repeat' split) <;> simp
@[simp] theorem State.popHeld_config (s : State) (id : Identity) : (s.popHeld id).config = s.config := by
  unfold State.popHeld; dsimp only; (repeat' split) <;> simp
@[simp] theorem State.popHeld_ctl (s : State) (id : Identity) : (s.popHeld id).ctl = s.ctl := by
  unfold State.popHeld; dsimp only; (repeat' split) <;> simp
@[simp] theorem State.popHeld_liu (s : State) (id : Identity) : (s.popHeld id).liu = s.liu := by
  unfold State.popHeld; dsimp only; (repeat' split) <;> simp
@[simp] theorem State.popHeld_table (s : State) (id : Identity) : (s.popHeld id).table = s.table := by
  unfold State.popHeld; dsimp only; (repeat' split) <;> simp
@[simp] theorem State.popHeld_image (s : State) (id : Identity) : (s.popHeld id).image = s.image := by
  unfold State.popHeld; dsimp only; (repeat' split) <;> simp
@[simp] theorem State.popHeld_origin (s : State) (id : Identity) : (s.popHeld id).origin = s.origin := by
  unfold State.popHeld; dsimp only; (repeat' split) <;> simp
@[simp] theorem State.popHeld_serialCounter (s : State) (id : Identity) : (s.popHeld id).serialCounter = s.serialCounter := by
  unfold State.popHeld; dsimp only; (repeat' split) <;> simp
@[simp] theorem State.popHeld_notices (s : State) (id : Identity) : (s.popHeld id).notices = s.notices := by
  unfold State.popHeld; dsimp only; (repeat' split) <;> simp
@[simp] theorem State.popHeld_port (s : State) (id : Identity) : (s.popHeld id).port = s.port := by
  unfold State.popHeld; dsimp only; (repeat' split) <;> simp
@[simp] theorem State.popHeld_address (s : State) (id : Identity) : (s.popHeld id).address = s.address := by simp [State.address]

/-! `State.setOrigin` -/
@[simp] theorem State.setOrigin_pending (s : State) (n : Serial) (g : OriginRecord → OriginRecord) : (s.setOrigin n g).pending = s.pending := rfl
@[simp] theorem State.setOrigin_inReset (s : State) (n : Serial) (g : OriginRecord → OriginRecord) : (s.setOrigin n g).inReset = s.inReset := rfl
@[simp] theorem State.setOrigin_divider (s : State) (n : Serial) (g : OriginRecord → OriginRecord) : (s.setOrigin n g).divider = s.divider := rfl
@[simp] theorem State.setOrigin_config (s : State) (n : Serial) (g : OriginRecord → OriginRecord) : (s.setOrigin n g).config = s.config := rfl
@[simp] theorem State.setOrigin_ctl (s : State) (n : Serial) (g : OriginRecord → OriginRecord) : (s.setOrigin n g).ctl = s.ctl := rfl
@[simp] theorem State.setOrigin_liu (s : State) (n : Serial) (g : OriginRecord → OriginRecord) : (s.setOrigin n g).liu = s.liu := rfl
@[simp] theorem State.setOrigin_table (s : State) (n : Serial) (g : OriginRecord → OriginRecord) : (s.setOrigin n g).table = s.table := rfl
@[simp] theorem State.setOrigin_queue (s : State) (n : Serial) (g : OriginRecord → OriginRecord) : (s.setOrigin n g).queue = s.queue := rfl
@[simp] theorem State.setOrigin_image (s : State) (n : Serial) (g : OriginRecord → OriginRecord) : (s.setOrigin n g).image = s.image := rfl
@[simp] theorem State.setOrigin_held (s : State) (n : Serial) (g : OriginRecord → OriginRecord) : (s.setOrigin n g).held = s.held := rfl
@[simp] theorem State.setOrigin_serialCounter (s : State) (n : Serial) (g : OriginRecord → OriginRecord) : (s.setOrigin n g).serialCounter = s.serialCounter := rfl
@[simp] theorem State.setOrigin_notices (s : State) (n : Serial) (g : OriginRecord → OriginRecord) : (s.setOrigin n g).notices = s.notices := rfl
@[simp] theorem State.setOrigin_port (s : State) (n : Serial) (g : OriginRecord → OriginRecord) : (s.setOrigin n g).port = s.port := rfl
@[simp] theorem State.setOrigin_address (s : State) (n : Serial) (g : OriginRecord → OriginRecord) : (s.setOrigin n g).address = s.address := by simp [State.address]

/-! `State.closeOrigin` -/
@[simp] theorem State.closeOrigin_pending (s : State) (k : Serial) (o : FinalOutcome) (n : Notice) : (s.closeOrigin k o n).pending = s.pending := by
  simp [State.closeOrigin]
@[simp] theorem State.closeOrigin_inReset (s : State) (k : Serial) (o : FinalOutcome) (n : Notice) : (s.closeOrigin k o n).inReset = s.inReset := by
  simp [State.closeOrigin]
@[simp] theorem State.closeOrigin_divider (s : State) (k : Serial) (o : FinalOutcome) (n : Notice) : (s.closeOrigin k o n).divider = s.divider := by
  simp [State.closeOrigin]
@[simp] theorem State.closeOrigin_config (s : State) (k : Serial) (o : FinalOutcome) (n : Notice) : (s.closeOrigin k o n).config = s.config := by
  simp [State.closeOrigin]
@[simp] theorem State.closeOrigin_ctl (s : State) (k : Serial) (o : FinalOutcome) (n : Notice) : (s.closeOrigin k o n).ctl = s.ctl := by
  simp [State.closeOrigin]
@[simp] theorem State.closeOrigin_liu (s : State) (k : Serial) (o : FinalOutcome) (n : Notice) : (s.closeOrigin k o n).liu = s.liu := by
  simp [State.closeOrigin]
@[simp] theorem State.closeOrigin_table (s : State) (k : Serial) (o : FinalOutcome) (n : Notice) : (s.closeOrigin k o n).table = s.table := by
  simp [State.closeOrigin]
@[simp] theorem State.closeOrigin_queue (s : State) (k : Serial) (o : FinalOutcome) (n : Notice) : (s.closeOrigin k o n).queue = s.queue := by
  simp [State.closeOrigin]
@[simp] theorem State.closeOrigin_image (s : State) (k : Serial) (o : FinalOutcome) (n : Notice) : (s.closeOrigin k o n).image = s.image := by
  simp [State.closeOrigin]
@[simp] theorem State.closeOrigin_held (s : State) (k : Serial) (o : FinalOutcome) (n : Notice) : (s.closeOrigin k o n).held = s.held := by
  simp [State.closeOrigin]
@[simp] theorem State.closeOrigin_serialCounter (s : State) (k : Serial) (o : FinalOutcome) (n : Notice) : (s.closeOrigin k o n).serialCounter = s.serialCounter := by
  simp [State.closeOrigin]
@[simp] theorem State.closeOrigin_port (s : State) (k : Serial) (o : FinalOutcome) (n : Notice) : (s.closeOrigin k o n).port = s.port := by
  simp [State.closeOrigin]
@[simp] theorem State.closeOrigin_address (s : State) (k : Serial) (o : FinalOutcome) (n : Notice) : (s.closeOrigin k o n).address = s.address := by simp [State.address]

/-! `State.postWithdraw` -/
@[simp] theorem State.postWithdraw_pending (s : State) (n : Serial) : (s.postWithdraw n).pending = s.pending := by
  simp [State.postWithdraw]
@[simp] theorem State.postWithdraw_inReset (s : State) (n : Serial) : (s.postWithdraw n).inReset = s.inReset := by
  simp [State.postWithdraw]
@[simp] theorem State.postWithdraw_divider (s : State) (n : Serial) : (s.postWithdraw n).divider = s.divider := by
  simp [State.postWithdraw]
@[simp] theorem State.postWithdraw_config (s : State) (n : Serial) : (s.postWithdraw n).config = s.config := by
  simp [State.postWithdraw]
@[simp] theorem State.postWithdraw_ctl (s : State) (n : Serial) : (s.postWithdraw n).ctl = s.ctl := by
  simp [State.postWithdraw]
@[simp] theorem State.postWithdraw_liu (s : State) (n : Serial) : (s.postWithdraw n).liu = s.liu := by
  simp [State.postWithdraw]
@[simp] theorem State.postWithdraw_table (s : State) (n : Serial) : (s.postWithdraw n).table = s.table := by
  simp [State.postWithdraw]
@[simp] theorem State.postWithdraw_image (s : State) (n : Serial) : (s.postWithdraw n).image = s.image := by
  simp [State.postWithdraw]
@[simp] theorem State.postWithdraw_held (s : State) (n : Serial) : (s.postWithdraw n).held = s.held := by
  simp [State.postWithdraw]
@[simp] theorem State.postWithdraw_origin (s : State) (n : Serial) : (s.postWithdraw n).origin = s.origin := by
  simp [State.postWithdraw]
@[simp] theorem State.postWithdraw_serialCounter (s : State) (n : Serial) : (s.postWithdraw n).serialCounter = s.serialCounter := by
  simp [State.postWithdraw]
@[simp] theorem State.postWithdraw_notices (s : State) (n : Serial) : (s.postWithdraw n).notices = s.notices := by
  simp [State.postWithdraw]
@[simp] theorem State.postWithdraw_port (s : State) (n : Serial) : (s.postWithdraw n).port = s.port := by
  simp [State.postWithdraw]
@[simp] theorem State.postWithdraw_address (s : State) (n : Serial) : (s.postWithdraw n).address = s.address := by simp [State.address]

/-! `State.beginWithdraw` -/
@[simp] theorem State.beginWithdraw_pending (s : State) (n : Serial) : (s.beginWithdraw n).pending = s.pending := by
  simp [State.beginWithdraw]
@[simp] theorem State.beginWithdraw_inReset (s : State) (n : Serial) : (s.beginWithdraw n).inReset = s.inReset := by
  simp [State.beginWithdraw]
@[simp] theorem State.beginWithdraw_divider (s : State) (n : Serial) : (s.beginWithdraw n).divider = s.divider := by
  simp [State.beginWithdraw]
@[simp] theorem State.beginWithdraw_config (s : State) (n : Serial) : (s.beginWithdraw n).config = s.config := by
  simp [State.beginWithdraw]
@[simp] theorem State.beginWithdraw_ctl (s : State) (n : Serial) : (s.beginWithdraw n).ctl = s.ctl := by
  simp [State.beginWithdraw]
@[simp] theorem State.beginWithdraw_liu (s : State) (n : Serial) : (s.beginWithdraw n).liu = s.liu := by
  simp [State.beginWithdraw]
@[simp] theorem State.beginWithdraw_table (s : State) (n : Serial) : (s.beginWithdraw n).table = s.table := by
  simp [State.beginWithdraw]
@[simp] theorem State.beginWithdraw_image (s : State) (n : Serial) : (s.beginWithdraw n).image = s.image := by
  simp [State.beginWithdraw]
@[simp] theorem State.beginWithdraw_held (s : State) (n : Serial) : (s.beginWithdraw n).held = s.held := by
  simp [State.beginWithdraw]
@[simp] theorem State.beginWithdraw_serialCounter (s : State) (n : Serial) : (s.beginWithdraw n).serialCounter = s.serialCounter := by
  simp [State.beginWithdraw]
@[simp] theorem State.beginWithdraw_notices (s : State) (n : Serial) : (s.beginWithdraw n).notices = s.notices := by
  simp [State.beginWithdraw]
@[simp] theorem State.beginWithdraw_port (s : State) (n : Serial) : (s.beginWithdraw n).port = s.port := by
  simp [State.beginWithdraw]
@[simp] theorem State.beginWithdraw_address (s : State) (n : Serial) : (s.beginWithdraw n).address = s.address := by simp [State.address]

/-! `State.originRemoved` -/
@[simp] theorem State.originRemoved_pending (s : State) (id : Identity) (o : FinalOutcome) (n : Notice) : (s.originRemoved id o n).pending = s.pending := by
  unfold State.originRemoved; (repeat' split) <;> simp
@[simp] theorem State.originRemoved_inReset (s : State) (id : Identity) (o : FinalOutcome) (n : Notice) : (s.originRemoved id o n).inReset = s.inReset := by
  unfold State.originRemoved; (repeat' split) <;> simp
@[simp] theorem State.originRemoved_divider (s : State) (id : Identity) (o : FinalOutcome) (n : Notice) : (s.originRemoved id o n).divider = s.divider := by
  unfold State.originRemoved; (repeat' split) <;> simp
@[simp] theorem State.originRemoved_config (s : State) (id : Identity) (o : FinalOutcome) (n : Notice) : (s.originRemoved id o n).config = s.config := by
  unfold State.originRemoved; (repeat' split) <;> simp
@[simp] theorem State.originRemoved_ctl (s : State) (id : Identity) (o : FinalOutcome) (n : Notice) : (s.originRemoved id o n).ctl = s.ctl := by
  unfold State.originRemoved; (repeat' split) <;> simp
@[simp] theorem State.originRemoved_liu (s : State) (id : Identity) (o : FinalOutcome) (n : Notice) : (s.originRemoved id o n).liu = s.liu := by
  unfold State.originRemoved; (repeat' split) <;> simp
@[simp] theorem State.originRemoved_table (s : State) (id : Identity) (o : FinalOutcome) (n : Notice) : (s.originRemoved id o n).table = s.table := by
  unfold State.originRemoved; (repeat' split) <;> simp
@[simp] theorem State.originRemoved_image (s : State) (id : Identity) (o : FinalOutcome) (n : Notice) : (s.originRemoved id o n).image = s.image := by
  unfold State.originRemoved; (repeat' split) <;> simp
@[simp] theorem State.originRemoved_held (s : State) (id : Identity) (o : FinalOutcome) (n : Notice) : (s.originRemoved id o n).held = s.held := by
  unfold State.originRemoved; (repeat' split) <;> simp
@[simp] theorem State.originRemoved_serialCounter (s : State) (id : Identity) (o : FinalOutcome) (n : Notice) : (s.originRemoved id o n).serialCounter = s.serialCounter := by
  unfold State.originRemoved; (repeat' split) <;> simp
@[simp] theorem State.originRemoved_port (s : State) (id : Identity) (o : FinalOutcome) (n : Notice) : (s.originRemoved id o n).port = s.port := by
  unfold State.originRemoved; (repeat' split) <;> simp
@[simp] theorem State.originRemoved_address (s : State) (id : Identity) (o : FinalOutcome) (n : Notice) : (s.originRemoved id o n).address = s.address := by simp [State.address]

/-! `State.restateAll` -/
@[simp] theorem State.restateAll_pending (s : State) : (s.restateAll).pending = s.pending := by
  unfold State.restateAll; exact foldl_keeps State.pending _ (fun s r => by split <;> simp) _ s
@[simp] theorem State.restateAll_inReset (s : State) : (s.restateAll).inReset = s.inReset := by
  unfold State.restateAll; exact foldl_keeps State.inReset _ (fun s r => by split <;> simp) _ s
@[simp] theorem State.restateAll_divider (s : State) : (s.restateAll).divider = s.divider := by
  unfold State.restateAll; exact foldl_keeps State.divider _ (fun s r => by split <;> simp) _ s
@[simp] theorem State.restateAll_config (s : State) : (s.restateAll).config = s.config := by
  unfold State.restateAll; exact foldl_keeps State.config _ (fun s r => by split <;> simp) _ s
@[simp] theorem State.restateAll_ctl (s : State) : (s.restateAll).ctl = s.ctl := by
  unfold State.restateAll; exact foldl_keeps State.ctl _ (fun s r => by split <;> simp) _ s
@[simp] theorem State.restateAll_liu (s : State) : (s.restateAll).liu = s.liu := by
  unfold State.restateAll; exact foldl_keeps State.liu _ (fun s r => by split <;> simp) _ s
@[simp] theorem State.restateAll_table (s : State) : (s.restateAll).table = s.table := by
  unfold State.restateAll; exact foldl_keeps State.table _ (fun s r => by split <;> simp) _ s
@[simp] theorem State.restateAll_image (s : State) : (s.restateAll).image = s.image := by
  unfold State.restateAll; exact foldl_keeps State.image _ (fun s r => by split <;> simp) _ s
@[simp] theorem State.restateAll_held (s : State) : (s.restateAll).held = s.held := by
  unfold State.restateAll; exact foldl_keeps State.held _ (fun s r => by split <;> simp) _ s
@[simp] theorem State.restateAll_origin (s : State) : (s.restateAll).origin = s.origin := by
  unfold State.restateAll; exact foldl_keeps State.origin _ (fun s r => by split <;> simp) _ s
@[simp] theorem State.restateAll_serialCounter (s : State) : (s.restateAll).serialCounter = s.serialCounter := by
  unfold State.restateAll; exact foldl_keeps State.serialCounter _ (fun s r => by split <;> simp) _ s
@[simp] theorem State.restateAll_notices (s : State) : (s.restateAll).notices = s.notices := by
  unfold State.restateAll; exact foldl_keeps State.notices _ (fun s r => by split <;> simp) _ s
@[simp] theorem State.restateAll_port (s : State) : (s.restateAll).port = s.port := by
  unfold State.restateAll; exact foldl_keeps State.port _ (fun s r => by split <;> simp) _ s
@[simp] theorem State.restateAll_address (s : State) : (s.restateAll).address = s.address := by simp [State.address]

/-! `State.popOrigin` -/
@[simp] theorem State.popOrigin_pending (s : State) (n : Serial) : (s.popOrigin n).pending = s.pending := rfl
@[simp] theorem State.popOrigin_inReset (s : State) (n : Serial) : (s.popOrigin n).inReset = s.inReset := rfl
@[simp] theorem State.popOrigin_divider (s : State) (n : Serial) : (s.popOrigin n).divider = s.divider := rfl
@[simp] theorem State.popOrigin_config (s : State) (n : Serial) : (s.popOrigin n).config = s.config := rfl
@[simp] theorem State.popOrigin_ctl (s : State) (n : Serial) : (s.popOrigin n).ctl = s.ctl := rfl
@[simp] theorem State.popOrigin_liu (s : State) (n : Serial) : (s.popOrigin n).liu = s.liu := rfl
@[simp] theorem State.popOrigin_table (s : State) (n : Serial) : (s.popOrigin n).table = s.table := rfl
@[simp] theorem State.popOrigin_queue (s : State) (n : Serial) : (s.popOrigin n).queue = s.queue := rfl
@[simp] theorem State.popOrigin_image (s : State) (n : Serial) : (s.popOrigin n).image = s.image := rfl
@[simp] theorem State.popOrigin_held (s : State) (n : Serial) : (s.popOrigin n).held = s.held := rfl
@[simp] theorem State.popOrigin_serialCounter (s : State) (n : Serial) : (s.popOrigin n).serialCounter = s.serialCounter := rfl
@[simp] theorem State.popOrigin_notices (s : State) (n : Serial) : (s.popOrigin n).notices = s.notices := rfl
@[simp] theorem State.popOrigin_port (s : State) (n : Serial) : (s.popOrigin n).port = s.port := rfl
@[simp] theorem State.popOrigin_address (s : State) (n : Serial) : (s.popOrigin n).address = s.address := by simp [State.address]

end Sys2Proof.Machine
end

