-- ==== Sys2Proof/Laws/Units.lean ====
section
/-! SUPPORT. What the reports and the changes of station state leave as they were. -/

namespace Sys2Proof.Machine

/-! `State.reportOrigin` -/
@[simp] theorem State.reportOrigin_pending (s : State) (id : Identity) (c : RemovalCause) : (s.reportOrigin id c).pending = s.pending := by
  unfold State.reportOrigin; (repeat' split) <;> simp
@[simp] theorem State.reportOrigin_inReset (s : State) (id : Identity) (c : RemovalCause) : (s.reportOrigin id c).inReset = s.inReset := by
  unfold State.reportOrigin; (repeat' split) <;> simp
@[simp] theorem State.reportOrigin_divider (s : State) (id : Identity) (c : RemovalCause) : (s.reportOrigin id c).divider = s.divider := by
  unfold State.reportOrigin; (repeat' split) <;> simp
@[simp] theorem State.reportOrigin_config (s : State) (id : Identity) (c : RemovalCause) : (s.reportOrigin id c).config = s.config := by
  unfold State.reportOrigin; (repeat' split) <;> simp
@[simp] theorem State.reportOrigin_ctl (s : State) (id : Identity) (c : RemovalCause) : (s.reportOrigin id c).ctl = s.ctl := by
  unfold State.reportOrigin; (repeat' split) <;> simp
@[simp] theorem State.reportOrigin_liu (s : State) (id : Identity) (c : RemovalCause) : (s.reportOrigin id c).liu = s.liu := by
  unfold State.reportOrigin; (repeat' split) <;> simp
@[simp] theorem State.reportOrigin_table (s : State) (id : Identity) (c : RemovalCause) : (s.reportOrigin id c).table = s.table := by
  unfold State.reportOrigin; (repeat' split) <;> simp
@[simp] theorem State.reportOrigin_image (s : State) (id : Identity) (c : RemovalCause) : (s.reportOrigin id c).image = s.image := by
  unfold State.reportOrigin; (repeat' split) <;> simp
@[simp] theorem State.reportOrigin_held (s : State) (id : Identity) (c : RemovalCause) : (s.reportOrigin id c).held = s.held := by
  unfold State.reportOrigin; (repeat' split) <;> simp
@[simp] theorem State.reportOrigin_serialCounter (s : State) (id : Identity) (c : RemovalCause) : (s.reportOrigin id c).serialCounter = s.serialCounter := by
  unfold State.reportOrigin; (repeat' split) <;> simp
@[simp] theorem State.reportOrigin_port (s : State) (id : Identity) (c : RemovalCause) : (s.reportOrigin id c).port = s.port := by
  unfold State.reportOrigin; (repeat' split) <;> simp
@[simp] theorem State.reportOrigin_address (s : State) (id : Identity) (c : RemovalCause) : (s.reportOrigin id c).address = s.address := by simp [State.address]

/-! `State.deliver` -/
/-- `State.deliver` in every case. -/
theorem State.deliver_keeps (s : State) (b : Bool) (f : Frame) (r : Report) :
    (State.deliver b f s r).pending = s.pending
      ∧ (State.deliver b f s r).inReset = s.inReset
      ∧ (State.deliver b f s r).divider = s.divider
      ∧ (State.deliver b f s r).config = s.config
      ∧ (State.deliver b f s r).ctl = s.ctl
      ∧ (State.deliver b f s r).liu = s.liu
      ∧ (State.deliver b f s r).table = s.table
      ∧ (State.deliver b f s r).image = s.image
      ∧ (State.deliver b f s r).serialCounter = s.serialCounter
      ∧ (State.deliver b f s r).port = s.port := by
  cases r <;> simp only [State.deliver] <;> (repeat' split) <;> simp
@[simp] theorem State.deliver_pending (s : State) (b : Bool) (f : Frame) (r : Report) : (State.deliver b f s r).pending = s.pending := (s.deliver_keeps b f r).1
@[simp] theorem State.deliver_inReset (s : State) (b : Bool) (f : Frame) (r : Report) : (State.deliver b f s r).inReset = s.inReset := (s.deliver_keeps b f r).2.1
@[simp] theorem State.deliver_divider (s : State) (b : Bool) (f : Frame) (r : Report) : (State.deliver b f s r).divider = s.divider := (s.deliver_keeps b f r).2.2.1
@[simp] theorem State.deliver_config (s : State) (b : Bool) (f : Frame) (r : Report) : (State.deliver b f s r).config = s.config := (s.deliver_keeps b f r).2.2.2.1
@[simp] theorem State.deliver_ctl (s : State) (b : Bool) (f : Frame) (r : Report) : (State.deliver b f s r).ctl = s.ctl := (s.deliver_keeps b f r).2.2.2.2.1
@[simp] theorem State.deliver_liu (s : State) (b : Bool) (f : Frame) (r : Report) : (State.deliver b f s r).liu = s.liu := (s.deliver_keeps b f r).2.2.2.2.2.1
@[simp] theorem State.deliver_table (s : State) (b : Bool) (f : Frame) (r : Report) : (State.deliver b f s r).table = s.table := (s.deliver_keeps b f r).2.2.2.2.2.2.1
@[simp] theorem State.deliver_image (s : State) (b : Bool) (f : Frame) (r : Report) : (State.deliver b f s r).image = s.image := (s.deliver_keeps b f r).2.2.2.2.2.2.2.1
@[simp] theorem State.deliver_serialCounter (s : State) (b : Bool) (f : Frame) (r : Report) : (State.deliver b f s r).serialCounter = s.serialCounter := (s.deliver_keeps b f r).2.2.2.2.2.2.2.2.1
@[simp] theorem State.deliver_port (s : State) (b : Bool) (f : Frame) (r : Report) : (State.deliver b f s r).port = s.port := (s.deliver_keeps b f r).2.2.2.2.2.2.2.2.2
@[simp] theorem State.deliver_address (s : State) (b : Bool) (f : Frame) (r : Report) : (State.deliver b f s r).address = s.address := by simp [State.address]

/-! `State.deliverExpiry` -/
@[simp] theorem State.deliverExpiry_pending (s : State) (r : Report) : (s.deliverExpiry r).pending = s.pending := by
  cases r <;> simp [State.deliverExpiry]
@[simp] theorem State.deliverExpiry_inReset (s : State) (r : Report) : (s.deliverExpiry r).inReset = s.inReset := by
  cases r <;> simp [State.deliverExpiry]
@[simp] theorem State.deliverExpiry_divider (s : State) (r : Report) : (s.deliverExpiry r).divider = s.divider := by
  cases r <;> simp [State.deliverExpiry]
@[simp] theorem State.deliverExpiry_config (s : State) (r : Report) : (s.deliverExpiry r).config = s.config := by
  cases r <;> simp [State.deliverExpiry]
@[simp] theorem State.deliverExpiry_ctl (s : State) (r : Report) : (s.deliverExpiry r).ctl = s.ctl := by
  cases r <;> simp [State.deliverExpiry]
@[simp] theorem State.deliverExpiry_liu (s : State) (r : Report) : (s.deliverExpiry r).liu = s.liu := by
  cases r <;> simp [State.deliverExpiry]
@[simp] theorem State.deliverExpiry_table (s : State) (r : Report) : (s.deliverExpiry r).table = s.table := by
  cases r <;> simp [State.deliverExpiry]
@[simp] theorem State.deliverExpiry_queue (s : State) (r : Report) : (s.deliverExpiry r).queue = s.queue := by
  cases r <;> simp [State.deliverExpiry]
@[simp] theorem State.deliverExpiry_image (s : State) (r : Report) : (s.deliverExpiry r).image = s.image := by
  cases r <;> simp [State.deliverExpiry]
@[simp] theorem State.deliverExpiry_origin (s : State) (r : Report) : (s.deliverExpiry r).origin = s.origin := by
  cases r <;> simp [State.deliverExpiry]
@[simp] theorem State.deliverExpiry_serialCounter (s : State) (r : Report) : (s.deliverExpiry r).serialCounter = s.serialCounter := by
  cases r <;> simp [State.deliverExpiry]
@[simp] theorem State.deliverExpiry_port (s : State) (r : Report) : (s.deliverExpiry r).port = s.port := by
  cases r <;> simp [State.deliverExpiry]
@[simp] theorem State.deliverExpiry_address (s : State) (r : Report) : (s.deliverExpiry r).address = s.address := by simp [State.address]

/-! `State.enterListen` -/
@[simp] theorem State.enterListen_pending (s : State) : (s.enterListen).pending = s.pending := rfl
@[simp] theorem State.enterListen_inReset (s : State) : (s.enterListen).inReset = s.inReset := rfl
@[simp] theorem State.enterListen_divider (s : State) : (s.enterListen).divider = s.divider := rfl
@[simp] theorem State.enterListen_config (s : State) : (s.enterListen).config = s.config := rfl
@[simp] theorem State.enterListen_table (s : State) : (s.enterListen).table = s.table := rfl
@[simp] theorem State.enterListen_queue (s : State) : (s.enterListen).queue = s.queue := rfl
@[simp] theorem State.enterListen_image (s : State) : (s.enterListen).image = s.image := rfl
@[simp] theorem State.enterListen_held (s : State) : (s.enterListen).held = s.held := rfl
@[simp] theorem State.enterListen_origin (s : State) : (s.enterListen).origin = s.origin := rfl
@[simp] theorem State.enterListen_serialCounter (s : State) : (s.enterListen).serialCounter = s.serialCounter := rfl
@[simp] theorem State.enterListen_notices (s : State) : (s.enterListen).notices = s.notices := rfl
@[simp] theorem State.enterListen_port (s : State) : (s.enterListen).port = s.port := rfl
@[simp] theorem State.enterListen_address (s : State) : (s.enterListen).address = s.address := by simp [State.address]

/-! `State.enterActive` -/
@[simp] theorem State.enterActive_pending (s : State) : (s.enterActive).pending = s.pending := by
  simp [State.enterActive]
@[simp] theorem State.enterActive_inReset (s : State) : (s.enterActive).inReset = s.inReset := by
  simp [State.enterActive]
@[simp] theorem State.enterActive_divider (s : State) : (s.enterActive).divider = s.divider := by
  simp [State.enterActive]
@[simp] theorem State.enterActive_config (s : State) : (s.enterActive).config = s.config := by
  simp [State.enterActive]
@[simp] theorem State.enterActive_liu (s : State) : (s.enterActive).liu = s.liu := by
  simp [State.enterActive]
@[simp] theorem State.enterActive_table (s : State) : (s.enterActive).table = s.table := by
  simp [State.enterActive]
@[simp] theorem State.enterActive_image (s : State) : (s.enterActive).image = s.image := by
  simp [State.enterActive]
@[simp] theorem State.enterActive_held (s : State) : (s.enterActive).held = s.held := by
  simp [State.enterActive]
@[simp] theorem State.enterActive_origin (s : State) : (s.enterActive).origin = s.origin := by
  simp [State.enterActive]
@[simp] theorem State.enterActive_serialCounter (s : State) : (s.enterActive).serialCounter = s.serialCounter := by
  simp [State.enterActive]
@[simp] theorem State.enterActive_port (s : State) : (s.enterActive).port = s.port := by
  simp [State.enterActive]
@[simp] theorem State.enterActive_address (s : State) : (s.enterActive).address = s.address := by simp [State.address]

/-! `State.refuseQueued` -/
@[simp] theorem State.refuseQueued_pending (s : State) : (s.refuseQueued).pending = s.pending := by
  unfold State.refuseQueued; exact foldl_keeps State.pending _ (fun s r => by split <;> simp) _ s
@[simp] theorem State.refuseQueued_inReset (s : State) : (s.refuseQueued).inReset = s.inReset := by
  unfold State.refuseQueued; exact foldl_keeps State.inReset _ (fun s r => by split <;> simp) _ s
@[simp] theorem State.refuseQueued_divider (s : State) : (s.refuseQueued).divider = s.divider := by
  unfold State.refuseQueued; exact foldl_keeps State.divider _ (fun s r => by split <;> simp) _ s
@[simp] theorem State.refuseQueued_config (s : State) : (s.refuseQueued).config = s.config := by
  unfold State.refuseQueued; exact foldl_keeps State.config _ (fun s r => by split <;> simp) _ s
@[simp] theorem State.refuseQueued_ctl (s : State) : (s.refuseQueued).ctl = s.ctl := by
  unfold State.refuseQueued; exact foldl_keeps State.ctl _ (fun s r => by split <;> simp) _ s
@[simp] theorem State.refuseQueued_liu (s : State) : (s.refuseQueued).liu = s.liu := by
  unfold State.refuseQueued; exact foldl_keeps State.liu _ (fun s r => by split <;> simp) _ s
@[simp] theorem State.refuseQueued_table (s : State) : (s.refuseQueued).table = s.table := by
  unfold State.refuseQueued; exact foldl_keeps State.table _ (fun s r => by split <;> simp) _ s
@[simp] theorem State.refuseQueued_queue (s : State) : (s.refuseQueued).queue = s.queue := by
  unfold State.refuseQueued; exact foldl_keeps State.queue _ (fun s r => by split <;> simp) _ s
@[simp] theorem State.refuseQueued_image (s : State) : (s.refuseQueued).image = s.image := by
  unfold State.refuseQueued; exact foldl_keeps State.image _ (fun s r => by split <;> simp) _ s
@[simp] theorem State.refuseQueued_held (s : State) : (s.refuseQueued).held = s.held := by
  unfold State.refuseQueued; exact foldl_keeps State.held _ (fun s r => by split <;> simp) _ s
@[simp] theorem State.refuseQueued_serialCounter (s : State) : (s.refuseQueued).serialCounter = s.serialCounter := by
  unfold State.refuseQueued; exact foldl_keeps State.serialCounter _ (fun s r => by split <;> simp) _ s
@[simp] theorem State.refuseQueued_port (s : State) : (s.refuseQueued).port = s.port := by
  unfold State.refuseQueued; exact foldl_keeps State.port _ (fun s r => by split <;> simp) _ s
@[simp] theorem State.refuseQueued_address (s : State) : (s.refuseQueued).address = s.address := by simp [State.address]

/-! `State.mutePurge` -/
@[simp] theorem State.mutePurge_pending (s : State) : (s.mutePurge).pending = s.pending := by
  simp [State.mutePurge]
@[simp] theorem State.mutePurge_inReset (s : State) : (s.mutePurge).inReset = s.inReset := by
  simp [State.mutePurge]
@[simp] theorem State.mutePurge_divider (s : State) : (s.mutePurge).divider = s.divider := by
  simp [State.mutePurge]
@[simp] theorem State.mutePurge_config (s : State) : (s.mutePurge).config = s.config := by
  simp [State.mutePurge]
@[simp] theorem State.mutePurge_ctl (s : State) : (s.mutePurge).ctl = s.ctl := by
  simp [State.mutePurge]
@[simp] theorem State.mutePurge_liu (s : State) : (s.mutePurge).liu = s.liu := by
  simp [State.mutePurge]
@[simp] theorem State.mutePurge_table (s : State) : (s.mutePurge).table = s.table := by
  simp [State.mutePurge]
@[simp] theorem State.mutePurge_held (s : State) : (s.mutePurge).held = s.held := by
  simp [State.mutePurge]
@[simp] theorem State.mutePurge_serialCounter (s : State) : (s.mutePurge).serialCounter = s.serialCounter := by
  simp [State.mutePurge]
@[simp] theorem State.mutePurge_port (s : State) : (s.mutePurge).port = s.port := by
  simp [State.mutePurge]
@[simp] theorem State.mutePurge_address (s : State) : (s.mutePurge).address = s.address := by simp [State.address]

/-! `State.toMute` -/
@[simp] theorem State.toMute_pending (s : State) (c : MuteCause) : (s.toMute c).pending = s.pending := rfl
@[simp] theorem State.toMute_inReset (s : State) (c : MuteCause) : (s.toMute c).inReset = s.inReset := rfl
@[simp] theorem State.toMute_divider (s : State) (c : MuteCause) : (s.toMute c).divider = s.divider := rfl
@[simp] theorem State.toMute_config (s : State) (c : MuteCause) : (s.toMute c).config = s.config := rfl
@[simp] theorem State.toMute_liu (s : State) (c : MuteCause) : (s.toMute c).liu = s.liu := rfl
@[simp] theorem State.toMute_table (s : State) (c : MuteCause) : (s.toMute c).table = s.table := rfl
@[simp] theorem State.toMute_queue (s : State) (c : MuteCause) : (s.toMute c).queue = s.queue := rfl
@[simp] theorem State.toMute_image (s : State) (c : MuteCause) : (s.toMute c).image = s.image := rfl
@[simp] theorem State.toMute_held (s : State) (c : MuteCause) : (s.toMute c).held = s.held := rfl
@[simp] theorem State.toMute_origin (s : State) (c : MuteCause) : (s.toMute c).origin = s.origin := rfl
@[simp] theorem State.toMute_serialCounter (s : State) (c : MuteCause) : (s.toMute c).serialCounter = s.serialCounter := rfl
@[simp] theorem State.toMute_notices (s : State) (c : MuteCause) : (s.toMute c).notices = s.notices := rfl
@[simp] theorem State.toMute_port (s : State) (c : MuteCause) : (s.toMute c).port = s.port := rfl
@[simp] theorem State.toMute_address (s : State) (c : MuteCause) : (s.toMute c).address = s.address := by simp [State.address]

/-! `State.muteFailures` -/
@[simp] theorem State.muteFailures_pending (s : State) : (s.muteFailures).pending = s.pending := by
  unfold State.muteFailures; (repeat' split) <;> simp
@[simp] theorem State.muteFailures_inReset (s : State) : (s.muteFailures).inReset = s.inReset := by
  unfold State.muteFailures; (repeat' split) <;> simp
@[simp] theorem State.muteFailures_divider (s : State) : (s.muteFailures).divider = s.divider := by
  unfold State.muteFailures; (repeat' split) <;> simp
@[simp] theorem State.muteFailures_config (s : State) : (s.muteFailures).config = s.config := by
  unfold State.muteFailures; (repeat' split) <;> simp
@[simp] theorem State.muteFailures_liu (s : State) : (s.muteFailures).liu = s.liu := by
  unfold State.muteFailures; (repeat' split) <;> simp
@[simp] theorem State.muteFailures_table (s : State) : (s.muteFailures).table = s.table := by
  unfold State.muteFailures; (repeat' split) <;> simp
@[simp] theorem State.muteFailures_held (s : State) : (s.muteFailures).held = s.held := by
  unfold State.muteFailures; (repeat' split) <;> simp
@[simp] theorem State.muteFailures_serialCounter (s : State) : (s.muteFailures).serialCounter = s.serialCounter := by
  unfold State.muteFailures; (repeat' split) <;> simp
@[simp] theorem State.muteFailures_port (s : State) : (s.muteFailures).port = s.port := by
  unfold State.muteFailures; (repeat' split) <;> simp
@[simp] theorem State.muteFailures_address (s : State) : (s.muteFailures).address = s.address := by simp [State.address]

/-! `State.addressClash` -/
@[simp] theorem State.addressClash_pending (s : State) : (s.addressClash).pending = s.pending := by
  unfold State.addressClash; (repeat' split) <;> simp
@[simp] theorem State.addressClash_inReset (s : State) : (s.addressClash).inReset = s.inReset := by
  unfold State.addressClash; (repeat' split) <;> simp
@[simp] theorem State.addressClash_divider (s : State) : (s.addressClash).divider = s.divider := by
  unfold State.addressClash; (repeat' split) <;> simp
@[simp] theorem State.addressClash_config (s : State) : (s.addressClash).config = s.config := by
  unfold State.addressClash; (repeat' split) <;> simp
@[simp] theorem State.addressClash_liu (s : State) : (s.addressClash).liu = s.liu := by
  unfold State.addressClash; (repeat' split) <;> simp
@[simp] theorem State.addressClash_table (s : State) : (s.addressClash).table = s.table := by
  unfold State.addressClash; (repeat' split) <;> simp
@[simp] theorem State.addressClash_held (s : State) : (s.addressClash).held = s.held := by
  unfold State.addressClash; (repeat' split) <;> simp
@[simp] theorem State.addressClash_serialCounter (s : State) : (s.addressClash).serialCounter = s.serialCounter := by
  unfold State.addressClash; (repeat' split) <;> simp
@[simp] theorem State.addressClash_port (s : State) : (s.addressClash).port = s.port := by
  unfold State.addressClash; (repeat' split) <;> simp
@[simp] theorem State.addressClash_address (s : State) : (s.addressClash).address = s.address := by simp [State.address]

/-! `State.enterDetached` -/
@[simp] theorem State.enterDetached_pending (s : State) : (s.enterDetached).pending = s.pending := by
  simp [State.enterDetached]
@[simp] theorem State.enterDetached_inReset (s : State) : (s.enterDetached).inReset = s.inReset := by
  simp [State.enterDetached]
@[simp] theorem State.enterDetached_divider (s : State) : (s.enterDetached).divider = s.divider := by
  simp [State.enterDetached]
@[simp] theorem State.enterDetached_config (s : State) : (s.enterDetached).config = s.config := by
  simp [State.enterDetached]
@[simp] theorem State.enterDetached_queue (s : State) : (s.enterDetached).queue = s.queue := by
  simp [State.enterDetached]
@[simp] theorem State.enterDetached_image (s : State) : (s.enterDetached).image = s.image := by
  simp [State.enterDetached]
@[simp] theorem State.enterDetached_held (s : State) : (s.enterDetached).held = s.held := by
  simp [State.enterDetached]
@[simp] theorem State.enterDetached_origin (s : State) : (s.enterDetached).origin = s.origin := by
  simp [State.enterDetached]
@[simp] theorem State.enterDetached_serialCounter (s : State) : (s.enterDetached).serialCounter = s.serialCounter := by
  simp [State.enterDetached]
@[simp] theorem State.enterDetached_port (s : State) : (s.enterDetached).port = s.port := by
  simp [State.enterDetached]
@[simp] theorem State.enterDetached_address (s : State) : (s.enterDetached).address = s.address := by simp [State.address]

end Sys2Proof.Machine
end

