-- ==== Sys2Proof/Laws/Drain.lean ====
section
/-! SUPPORT. What the leave drain and the join leave as they were. -/

namespace Sys2Proof.Machine

/-! `State.testDrain` -/
@[simp] theorem State.testDrain_pending (s : State) : (s.testDrain).pending = s.pending := by
  unfold State.testDrain; (repeat' split) <;> simp
@[simp] theorem State.testDrain_inReset (s : State) : (s.testDrain).inReset = s.inReset := by
  unfold State.testDrain; (repeat' split) <;> simp
@[simp] theorem State.testDrain_divider (s : State) : (s.testDrain).divider = s.divider := by
  unfold State.testDrain; (repeat' split) <;> simp
@[simp] theorem State.testDrain_config (s : State) : (s.testDrain).config = s.config := by
  unfold State.testDrain; (repeat' split) <;> simp
@[simp] theorem State.testDrain_queue (s : State) : (s.testDrain).queue = s.queue := by
  unfold State.testDrain; (repeat' split) <;> simp
@[simp] theorem State.testDrain_image (s : State) : (s.testDrain).image = s.image := by
  unfold State.testDrain; (repeat' split) <;> simp
@[simp] theorem State.testDrain_held (s : State) : (s.testDrain).held = s.held := by
  unfold State.testDrain; (repeat' split) <;> simp
@[simp] theorem State.testDrain_origin (s : State) : (s.testDrain).origin = s.origin := by
  unfold State.testDrain; (repeat' split) <;> simp
@[simp] theorem State.testDrain_serialCounter (s : State) : (s.testDrain).serialCounter = s.serialCounter := by
  unfold State.testDrain; (repeat' split) <;> simp
@[simp] theorem State.testDrain_port (s : State) : (s.testDrain).port = s.port := by
  unfold State.testDrain; (repeat' split) <;> simp
@[simp] theorem State.testDrain_address (s : State) : (s.testDrain).address = s.address := by simp [State.address]

/-! `State.releaseAwaiting` -/
@[simp] theorem State.releaseAwaiting_pending (s : State) : (s.releaseAwaiting).pending = s.pending := by
  unfold State.releaseAwaiting; exact foldl_keeps State.pending _ (fun s r => by split <;> simp) _ s
@[simp] theorem State.releaseAwaiting_inReset (s : State) : (s.releaseAwaiting).inReset = s.inReset := by
  unfold State.releaseAwaiting; exact foldl_keeps State.inReset _ (fun s r => by split <;> simp) _ s
@[simp] theorem State.releaseAwaiting_divider (s : State) : (s.releaseAwaiting).divider = s.divider := by
  unfold State.releaseAwaiting; exact foldl_keeps State.divider _ (fun s r => by split <;> simp) _ s
@[simp] theorem State.releaseAwaiting_config (s : State) : (s.releaseAwaiting).config = s.config := by
  unfold State.releaseAwaiting; exact foldl_keeps State.config _ (fun s r => by split <;> simp) _ s
@[simp] theorem State.releaseAwaiting_ctl (s : State) : (s.releaseAwaiting).ctl = s.ctl := by
  unfold State.releaseAwaiting; exact foldl_keeps State.ctl _ (fun s r => by split <;> simp) _ s
@[simp] theorem State.releaseAwaiting_liu (s : State) : (s.releaseAwaiting).liu = s.liu := by
  unfold State.releaseAwaiting; exact foldl_keeps State.liu _ (fun s r => by split <;> simp) _ s
@[simp] theorem State.releaseAwaiting_table (s : State) : (s.releaseAwaiting).table = s.table := by
  unfold State.releaseAwaiting; exact foldl_keeps State.table _ (fun s r => by split <;> simp) _ s
@[simp] theorem State.releaseAwaiting_image (s : State) : (s.releaseAwaiting).image = s.image := by
  unfold State.releaseAwaiting; exact foldl_keeps State.image _ (fun s r => by split <;> simp) _ s
@[simp] theorem State.releaseAwaiting_origin (s : State) : (s.releaseAwaiting).origin = s.origin := by
  unfold State.releaseAwaiting; exact foldl_keeps State.origin _ (fun s r => by split <;> simp) _ s
@[simp] theorem State.releaseAwaiting_serialCounter (s : State) : (s.releaseAwaiting).serialCounter = s.serialCounter := by
  unfold State.releaseAwaiting; exact foldl_keeps State.serialCounter _ (fun s r => by split <;> simp) _ s
@[simp] theorem State.releaseAwaiting_notices (s : State) : (s.releaseAwaiting).notices = s.notices := by
  unfold State.releaseAwaiting; exact foldl_keeps State.notices _ (fun s r => by split <;> simp) _ s
@[simp] theorem State.releaseAwaiting_port (s : State) : (s.releaseAwaiting).port = s.port := by
  unfold State.releaseAwaiting; exact foldl_keeps State.port _ (fun s r => by split <;> simp) _ s
@[simp] theorem State.releaseAwaiting_address (s : State) : (s.releaseAwaiting).address = s.address := by simp [State.address]

/-! `State.leaveRecord` -/
@[simp] theorem State.leaveRecord_pending (s : State) (r : OriginRecord) : (s.leaveRecord r).pending = s.pending := by
  unfold State.leaveRecord; (repeat' split) <;> simp
@[simp] theorem State.leaveRecord_inReset (s : State) (r : OriginRecord) : (s.leaveRecord r).inReset = s.inReset := by
  unfold State.leaveRecord; (repeat' split) <;> simp
@[simp] theorem State.leaveRecord_divider (s : State) (r : OriginRecord) : (s.leaveRecord r).divider = s.divider := by
  unfold State.leaveRecord; (repeat' split) <;> simp
@[simp] theorem State.leaveRecord_config (s : State) (r : OriginRecord) : (s.leaveRecord r).config = s.config := by
  unfold State.leaveRecord; (repeat' split) <;> simp
@[simp] theorem State.leaveRecord_ctl (s : State) (r : OriginRecord) : (s.leaveRecord r).ctl = s.ctl := by
  unfold State.leaveRecord; (repeat' split) <;> simp
@[simp] theorem State.leaveRecord_liu (s : State) (r : OriginRecord) : (s.leaveRecord r).liu = s.liu := by
  unfold State.leaveRecord; (repeat' split) <;> simp
@[simp] theorem State.leaveRecord_table (s : State) (r : OriginRecord) : (s.leaveRecord r).table = s.table := by
  unfold State.leaveRecord; (repeat' split) <;> simp
@[simp] theorem State.leaveRecord_image (s : State) (r : OriginRecord) : (s.leaveRecord r).image = s.image := by
  unfold State.leaveRecord; (repeat' split) <;> simp
@[simp] theorem State.leaveRecord_held (s : State) (r : OriginRecord) : (s.leaveRecord r).held = s.held := by
  unfold State.leaveRecord; (repeat' split) <;> simp
@[simp] theorem State.leaveRecord_serialCounter (s : State) (r : OriginRecord) : (s.leaveRecord r).serialCounter = s.serialCounter := by
  unfold State.leaveRecord; (repeat' split) <;> simp
@[simp] theorem State.leaveRecord_port (s : State) (r : OriginRecord) : (s.leaveRecord r).port = s.port := by
  unfold State.leaveRecord; (repeat' split) <;> simp
@[simp] theorem State.leaveRecord_address (s : State) (r : OriginRecord) : (s.leaveRecord r).address = s.address := by simp [State.address]

/-! `State.repostWithdraws` -/
@[simp] theorem State.repostWithdraws_pending (s : State) : (s.repostWithdraws).pending = s.pending := by
  unfold State.repostWithdraws; exact foldl_keeps State.pending _ (fun s r => by split <;> simp) _ s
@[simp] theorem State.repostWithdraws_inReset (s : State) : (s.repostWithdraws).inReset = s.inReset := by
  unfold State.repostWithdraws; exact foldl_keeps State.inReset _ (fun s r => by split <;> simp) _ s
@[simp] theorem State.repostWithdraws_divider (s : State) : (s.repostWithdraws).divider = s.divider := by
  unfold State.repostWithdraws; exact foldl_keeps State.divider _ (fun s r => by split <;> simp) _ s
@[simp] theorem State.repostWithdraws_config (s : State) : (s.repostWithdraws).config = s.config := by
  unfold State.repostWithdraws; exact foldl_keeps State.config _ (fun s r => by split <;> simp) _ s
@[simp] theorem State.repostWithdraws_ctl (s : State) : (s.repostWithdraws).ctl = s.ctl := by
  unfold State.repostWithdraws; exact foldl_keeps State.ctl _ (fun s r => by split <;> simp) _ s
@[simp] theorem State.repostWithdraws_liu (s : State) : (s.repostWithdraws).liu = s.liu := by
  unfold State.repostWithdraws; exact foldl_keeps State.liu _ (fun s r => by split <;> simp) _ s
@[simp] theorem State.repostWithdraws_table (s : State) : (s.repostWithdraws).table = s.table := by
  unfold State.repostWithdraws; exact foldl_keeps State.table _ (fun s r => by split <;> simp) _ s
@[simp] theorem State.repostWithdraws_image (s : State) : (s.repostWithdraws).image = s.image := by
  unfold State.repostWithdraws; exact foldl_keeps State.image _ (fun s r => by split <;> simp) _ s
@[simp] theorem State.repostWithdraws_held (s : State) : (s.repostWithdraws).held = s.held := by
  unfold State.repostWithdraws; exact foldl_keeps State.held _ (fun s r => by split <;> simp) _ s
@[simp] theorem State.repostWithdraws_origin (s : State) : (s.repostWithdraws).origin = s.origin := by
  unfold State.repostWithdraws; exact foldl_keeps State.origin _ (fun s r => by split <;> simp) _ s
@[simp] theorem State.repostWithdraws_serialCounter (s : State) : (s.repostWithdraws).serialCounter = s.serialCounter := by
  unfold State.repostWithdraws; exact foldl_keeps State.serialCounter _ (fun s r => by split <;> simp) _ s
@[simp] theorem State.repostWithdraws_notices (s : State) : (s.repostWithdraws).notices = s.notices := by
  unfold State.repostWithdraws; exact foldl_keeps State.notices _ (fun s r => by split <;> simp) _ s
@[simp] theorem State.repostWithdraws_port (s : State) : (s.repostWithdraws).port = s.port := by
  unfold State.repostWithdraws; exact foldl_keeps State.port _ (fun s r => by split <;> simp) _ s
@[simp] theorem State.repostWithdraws_address (s : State) : (s.repostWithdraws).address = s.address := by simp [State.address]

/-! `State.startUpReached` -/
@[simp] theorem State.startUpReached_pending (s : State) : (s.startUpReached).pending = s.pending := by
  unfold State.startUpReached; (repeat' split) <;> simp
@[simp] theorem State.startUpReached_inReset (s : State) : (s.startUpReached).inReset = s.inReset := by
  unfold State.startUpReached; (repeat' split) <;> simp
@[simp] theorem State.startUpReached_divider (s : State) : (s.startUpReached).divider = s.divider := by
  unfold State.startUpReached; (repeat' split) <;> simp
@[simp] theorem State.startUpReached_config (s : State) : (s.startUpReached).config = s.config := by
  unfold State.startUpReached; (repeat' split) <;> simp
@[simp] theorem State.startUpReached_liu (s : State) : (s.startUpReached).liu = s.liu := by
  unfold State.startUpReached; (repeat' split) <;> simp
@[simp] theorem State.startUpReached_table (s : State) : (s.startUpReached).table = s.table := by
  unfold State.startUpReached; (repeat' split) <;> simp
@[simp] theorem State.startUpReached_image (s : State) : (s.startUpReached).image = s.image := by
  unfold State.startUpReached; (repeat' split) <;> simp
@[simp] theorem State.startUpReached_held (s : State) : (s.startUpReached).held = s.held := by
  unfold State.startUpReached; (repeat' split) <;> simp
@[simp] theorem State.startUpReached_origin (s : State) : (s.startUpReached).origin = s.origin := by
  unfold State.startUpReached; (repeat' split) <;> simp
@[simp] theorem State.startUpReached_serialCounter (s : State) : (s.startUpReached).serialCounter = s.serialCounter := by
  unfold State.startUpReached; (repeat' split) <;> simp
@[simp] theorem State.startUpReached_notices (s : State) : (s.startUpReached).notices = s.notices := by
  unfold State.startUpReached; (repeat' split) <;> simp
@[simp] theorem State.startUpReached_port (s : State) : (s.startUpReached).port = s.port := by
  unfold State.startUpReached; (repeat' split) <;> simp
@[simp] theorem State.startUpReached_address (s : State) : (s.startUpReached).address = s.address := by simp [State.address]

/-! `State.idleReached` -/
@[simp] theorem State.idleReached_pending (s : State) : (s.idleReached).pending = s.pending := by
  unfold State.idleReached; (repeat' split) <;> simp
@[simp] theorem State.idleReached_inReset (s : State) : (s.idleReached).inReset = s.inReset := by
  unfold State.idleReached; (repeat' split) <;> simp
@[simp] theorem State.idleReached_divider (s : State) : (s.idleReached).divider = s.divider := by
  unfold State.idleReached; (repeat' split) <;> simp
@[simp] theorem State.idleReached_config (s : State) : (s.idleReached).config = s.config := by
  unfold State.idleReached; (repeat' split) <;> simp
@[simp] theorem State.idleReached_liu (s : State) : (s.idleReached).liu = s.liu := by
  unfold State.idleReached; (repeat' split) <;> simp
@[simp] theorem State.idleReached_table (s : State) : (s.idleReached).table = s.table := by
  unfold State.idleReached; (repeat' split) <;> simp
@[simp] theorem State.idleReached_image (s : State) : (s.idleReached).image = s.image := by
  unfold State.idleReached; (repeat' split) <;> simp
@[simp] theorem State.idleReached_held (s : State) : (s.idleReached).held = s.held := by
  unfold State.idleReached; (repeat' split) <;> simp
@[simp] theorem State.idleReached_origin (s : State) : (s.idleReached).origin = s.origin := by
  unfold State.idleReached; (repeat' split) <;> simp
@[simp] theorem State.idleReached_serialCounter (s : State) : (s.idleReached).serialCounter = s.serialCounter := by
  unfold State.idleReached; (repeat' split) <;> simp
@[simp] theorem State.idleReached_port (s : State) : (s.idleReached).port = s.port := by
  unfold State.idleReached; (repeat' split) <;> simp
@[simp] theorem State.idleReached_address (s : State) : (s.idleReached).address = s.address := by simp [State.address]

/-! `State.joinTaken` -/
@[simp] theorem State.joinTaken_pending (s : State) (b : Bool) (a : Level) : (s.joinTaken b a).pending = s.pending := by
  unfold State.joinTaken; (repeat' split) <;> simp
@[simp] theorem State.joinTaken_inReset (s : State) (b : Bool) (a : Level) : (s.joinTaken b a).inReset = s.inReset := by
  unfold State.joinTaken; (repeat' split) <;> simp
@[simp] theorem State.joinTaken_divider (s : State) (b : Bool) (a : Level) : (s.joinTaken b a).divider = s.divider := by
  unfold State.joinTaken; (repeat' split) <;> simp
@[simp] theorem State.joinTaken_config (s : State) (b : Bool) (a : Level) : (s.joinTaken b a).config = s.config := by
  unfold State.joinTaken; (repeat' split) <;> simp
@[simp] theorem State.joinTaken_liu (s : State) (b : Bool) (a : Level) : (s.joinTaken b a).liu = s.liu := by
  unfold State.joinTaken; (repeat' split) <;> simp
@[simp] theorem State.joinTaken_table (s : State) (b : Bool) (a : Level) : (s.joinTaken b a).table = s.table := by
  unfold State.joinTaken; (repeat' split) <;> simp
@[simp] theorem State.joinTaken_image (s : State) (b : Bool) (a : Level) : (s.joinTaken b a).image = s.image := by
  unfold State.joinTaken; (repeat' split) <;> simp
@[simp] theorem State.joinTaken_held (s : State) (b : Bool) (a : Level) : (s.joinTaken b a).held = s.held := by
  unfold State.joinTaken; (repeat' split) <;> simp
@[simp] theorem State.joinTaken_origin (s : State) (b : Bool) (a : Level) : (s.joinTaken b a).origin = s.origin := by
  unfold State.joinTaken; (repeat' split) <;> simp
@[simp] theorem State.joinTaken_serialCounter (s : State) (b : Bool) (a : Level) : (s.joinTaken b a).serialCounter = s.serialCounter := by
  unfold State.joinTaken; (repeat' split) <;> simp
@[simp] theorem State.joinTaken_port (s : State) (b : Bool) (a : Level) : (s.joinTaken b a).port = s.port := by
  unfold State.joinTaken; (repeat' split) <;> simp
@[simp] theorem State.joinTaken_address (s : State) (b : Bool) (a : Level) : (s.joinTaken b a).address = s.address := by simp [State.address]

end Sys2Proof.Machine
end

