-- ==== Sys2Proof/Laws/Liu.lean ====
section
/-! SUPPORT. What the LIU's operations on its own items leave and set, and the step on each form of the command
queue. -/

namespace Sys2Proof.Machine

@[simp] theorem Liu.sample_phase (l : Liu) (b : Bool) : (l.sample b).phase = l.phase := by
  cases b <;> rfl
@[simp] theorem Liu.sample_failures (l : Liu) (b : Bool) : (l.sample b).failures = l.failures := by
  cases b <;> rfl
@[simp] theorem Liu.sample_alone (l : Liu) (b : Bool) : (l.sample b).alone = l.alone := by
  cases b <;> rfl

@[simp] theorem Liu.sampleAll_failures (l : Liu) (bits : List Bool) : (l.sampleAll bits).failures = l.failures := by
  induction bits generalizing l with
  | nil => rfl
  | cons b rest ih => exact (ih (l.sample b)).trans (Liu.sample_failures l b)

@[simp] theorem Liu.sampleAll_phase (l : Liu) (bits : List Bool) : (l.sampleAll bits).phase = l.phase := by
  induction bits generalizing l with
  | nil => rfl
  | cons b rest ih => exact (ih (l.sample b)).trans (Liu.sample_phase l b)

@[simp] theorem Liu.sampleAll_alone (l : Liu) (bits : List Bool) : (l.sampleAll bits).alone = l.alone := by
  induction bits generalizing l with
  | nil => rfl
  | cons b rest ih => exact (ih (l.sample b)).trans (Liu.sample_alone l b)

/-- R74: one sample: a recessive one sets the count of dominant samples to 0, a dominant one raises it by at most 1. -/
theorem Liu.sample_dominant_le (l : Liu) (b : Bool) (n : Nat) (h : l.dominant ≤ n) :
    (l.sample b).dominant ≤ if b then 0 else n + 1 := by
  cases b <;> simp only [Liu.sample] <;> simp
  split <;> omega

/-- R57, R74: while bits with inserted edges are sampled, the dominant samples in succession stay at six or below. -/
theorem Liu.sampleAll_insertEdgesFrom (bits : List Bool) :
    ∀ (l : Liu) (last : Bool) (run : Nat), run ≤ 6 → l.dominant ≤ (if last then 0 else run) →
      (l.sampleAll (insertEdgesFrom last run bits)).dominant ≤ 6 := by
  induction bits with
  | nil =>
    intro l last run hr hd
    refine Nat.le_trans hd ?_
    split <;> omega
  | cons b rest ih =>
    intro l last run hr hd
    rw [insertEdgesFrom]
    by_cases h : run = Config.edgeRun
    · rw [if_pos h]
      change run = 6 at h
      refine ih _ b _ (by split <;> omega) (Nat.le_trans (Liu.sample_dominant_le _ b _
        (Liu.sample_dominant_le l (!last) _ hd)) ?_)
      cases b <;> cases last <;> simp
    · rw [if_neg h]
      change ¬ run = 6 at h
      refine ih _ b _ (by split <;> omega) (Nat.le_trans (Liu.sample_dominant_le l b _ hd) ?_)
      cases b <;> cases last <;> simp

/-- R57, R74: a frame as sent, sampled from its start edge, leaves at most six dominant samples in succession, so that its
slots bring no stuck Line about. -/
theorem Liu.sampleAll_wireBits_dominant (l : Liu) (f : Frame) :
    (l.atEdge.sampleAll f.wireBits).dominant ≤ 6 := by
  unfold Frame.wireBits insertEdges
  split
  · exact Nat.zero_le 6
  · rename_i b rest _
    refine Liu.sampleAll_insertEdgesFrom rest _ b 1 (by omega)
      (Nat.le_trans (Liu.sample_dominant_le l.atEdge b 0 (Nat.le_refl 0)) ?_)
    cases b <;> simp

/-- R60: at the end of a frame the LIU is in SPACING, its failure count and Alone flag as they were, having driven
what it drove. -/
theorem Liu.endFrame_spec (l : Liu) (bits : List Bool) (accept object run : Bool) :
    (l.endFrame bits accept object run).phase = .spacing
      ∧ (l.endFrame bits accept object run).failures = l.failures
      ∧ (l.endFrame bits accept object run).alone = l.alone
      ∧ (l.endFrame bits accept object run).droveAccept = accept
      ∧ (l.endFrame bits accept object run).droveObject = object
      ∧ (l.endFrame bits accept object run).droveRun = run := by
  simp [Liu.endFrame]

@[simp] theorem Liu.atEdge_phase (l : Liu) : l.atEdge.phase = l.phase := rfl
@[simp] theorem Liu.atEdge_failures (l : Liu) : l.atEdge.failures = l.failures := rfl
@[simp] theorem Liu.atEdge_alone (l : Liu) : l.atEdge.alone = l.alone := rfl
@[simp] theorem Liu.atEdge_dominant (l : Liu) : l.atEdge.dominant = 0 := rfl
@[simp] theorem Liu.atAccept_phase (l : Liu) (own : Bool) : (l.atAccept own).phase = .slots := rfl
@[simp] theorem Liu.atAccept_failures (l : Liu) (own : Bool) : (l.atAccept own).failures = l.failures := rfl
@[simp] theorem Liu.atAccept_alone (l : Liu) (own : Bool) : (l.atAccept own).alone = l.alone := rfl
@[simp] theorem Liu.atAccept_dominant (l : Liu) (own : Bool) : (l.atAccept own).dominant = l.dominant := rfl
@[simp] theorem Liu.atAccept_idle (l : Liu) (own : Bool) : (l.atAccept own).idle = 0 := rfl
@[simp] theorem Liu.sent_phase (l : Liu) (img : TransmitImage) (n : Nat) : (l.sent img n).phase = sendingPhase img n := rfl
@[simp] theorem Liu.sent_txSent (l : Liu) (img : TransmitImage) (n : Nat) : (l.sent img n).txSent = n := rfl
@[simp] theorem Liu.sent_failures (l : Liu) (img : TransmitImage) (n : Nat) : (l.sent img n).failures = l.failures := rfl
@[simp] theorem Liu.sent_alone (l : Liu) (img : TransmitImage) (n : Nat) : (l.sent img n).alone = l.alone := rfl
@[simp] theorem Liu.sent_dominant (l : Liu) (img : TransmitImage) (n : Nat) : (l.sent img n).dominant = l.dominant := rfl
@[simp] theorem Liu.sent_recessive (l : Liu) (img : TransmitImage) (n : Nat) : (l.sent img n).recessive = l.recessive := rfl

/-- R60: the idle count is 0 at entry to SLOTS. -/
theorem Liu.sent_idle (l : Liu) {img : TransmitImage} {n : Nat} (h : sendingPhase img n = .slots) :
    (l.sent img n).idle = 0 := if_pos h

@[simp] theorem Liu.atObject_phase (l : Liu) (own : Bool) : (l.atObject own).phase = l.phase := rfl
@[simp] theorem Liu.atObject_failures (l : Liu) (own : Bool) : (l.atObject own).failures = l.failures := rfl
@[simp] theorem Liu.atObject_alone (l : Liu) (own : Bool) : (l.atObject own).alone = l.alone := rfl
@[simp] theorem Liu.atObject_dominant (l : Liu) (own : Bool) : (l.atObject own).dominant = l.dominant := rfl
@[simp] theorem Liu.release_failures (l : Liu) : l.release.failures = l.failures := rfl
@[simp] theorem Liu.release_alone (l : Liu) : l.release.alone = l.alone := rfl
@[simp] theorem Liu.release_phase (l : Liu) : l.release.phase = .spacing := rfl
@[simp] theorem Liu.hold_failures (l : Liu) : l.hold.failures = l.failures := rfl
@[simp] theorem Liu.hold_alone (l : Liu) : l.hold.alone = l.alone := rfl
@[simp] theorem Liu.hold_phase (l : Liu) : l.hold.phase = .idle := rfl
@[simp] theorem Liu.stick_failures (l : Liu) : l.stick.failures = l.failures := rfl
@[simp] theorem Liu.stick_alone (l : Liu) : l.stick.alone = l.alone := rfl
@[simp] theorem Liu.stick_phase (l : Liu) : l.stick.phase = .recovering := rfl
@[simp] theorem Liu.recover_failures (l : Liu) : l.recover.failures = l.failures := rfl
@[simp] theorem Liu.recover_alone (l : Liu) : l.recover.alone = l.alone := rfl
@[simp] theorem Liu.recover_phase (l : Liu) : l.recover.phase = .idle := rfl
@[simp] theorem Liu.spaced_failures (l : Liu) : l.spaced.failures = l.failures := rfl
@[simp] theorem Liu.spaced_alone (l : Liu) : l.spaced.alone = l.alone := rfl
@[simp] theorem Liu.spaced_phase (l : Liu) : l.spaced.phase = .idle := rfl

/-- The table of commands gives its rows no bits, so no word is placed in front of the queue. -/
@[simp] theorem State.withFetchWord_eq (s : State) (nbits w : Nat) : s.withFetchWord nbits w = s := rfl

end Sys2Proof.Machine
end

