-- ==== Sys2Proof/Laws/Outcomes.lean ====
section
/-! SUPPORT. What the outcomes of own frames leave as they were. -/

namespace Sys2Proof.Machine

/-! `State.toldTaken` -/
/-- `State.toldTaken` in every case. -/
theorem State.toldTaken_keeps (s : State) (a : Level) (q : Queued) :
    (s.toldTaken a q).pending = s.pending
      ∧ (s.toldTaken a q).inReset = s.inReset
      ∧ (s.toldTaken a q).divider = s.divider
      ∧ (s.toldTaken a q).config = s.config
      ∧ (s.toldTaken a q).liu = s.liu
      ∧ (s.toldTaken a q).table = s.table
      ∧ (s.toldTaken a q).image = s.image
      ∧ (s.toldTaken a q).serialCounter = s.serialCounter
      ∧ (s.toldTaken a q).port = s.port := by
  cases q <;> simp only [State.toldTaken] <;> (repeat' split) <;> simp
@[simp] theorem State.toldTaken_pending (s : State) (a : Level) (q : Queued) : (s.toldTaken a q).pending = s.pending := (s.toldTaken_keeps a q).1
@[simp] theorem State.toldTaken_inReset (s : State) (a : Level) (q : Queued) : (s.toldTaken a q).inReset = s.inReset := (s.toldTaken_keeps a q).2.1
@[simp] theorem State.toldTaken_divider (s : State) (a : Level) (q : Queued) : (s.toldTaken a q).divider = s.divider := (s.toldTaken_keeps a q).2.2.1
@[simp] theorem State.toldTaken_config (s : State) (a : Level) (q : Queued) : (s.toldTaken a q).config = s.config := (s.toldTaken_keeps a q).2.2.2.1
@[simp] theorem State.toldTaken_liu (s : State) (a : Level) (q : Queued) : (s.toldTaken a q).liu = s.liu := (s.toldTaken_keeps a q).2.2.2.2.1
@[simp] theorem State.toldTaken_table (s : State) (a : Level) (q : Queued) : (s.toldTaken a q).table = s.table := (s.toldTaken_keeps a q).2.2.2.2.2.1
@[simp] theorem State.toldTaken_image (s : State) (a : Level) (q : Queued) : (s.toldTaken a q).image = s.image := (s.toldTaken_keeps a q).2.2.2.2.2.2.1
@[simp] theorem State.toldTaken_serialCounter (s : State) (a : Level) (q : Queued) : (s.toldTaken a q).serialCounter = s.serialCounter := (s.toldTaken_keeps a q).2.2.2.2.2.2.2.1
@[simp] theorem State.toldTaken_port (s : State) (a : Level) (q : Queued) : (s.toldTaken a q).port = s.port := (s.toldTaken_keeps a q).2.2.2.2.2.2.2.2
@[simp] theorem State.toldTaken_address (s : State) (a : Level) (q : Queued) : (s.toldTaken a q).address = s.address := by simp [State.address]

/-! `State.closeWithdrawn` -/
@[simp] theorem State.closeWithdrawn_pending (s : State) (id : Identity) : (s.closeWithdrawn id).pending = s.pending := by
  simp [State.closeWithdrawn]
@[simp] theorem State.closeWithdrawn_inReset (s : State) (id : Identity) : (s.closeWithdrawn id).inReset = s.inReset := by
  simp [State.closeWithdrawn]
@[simp] theorem State.closeWithdrawn_divider (s : State) (id : Identity) : (s.closeWithdrawn id).divider = s.divider := by
  simp [State.closeWithdrawn]
@[simp] theorem State.closeWithdrawn_config (s : State) (id : Identity) : (s.closeWithdrawn id).config = s.config := by
  simp [State.closeWithdrawn]
@[simp] theorem State.closeWithdrawn_ctl (s : State) (id : Identity) : (s.closeWithdrawn id).ctl = s.ctl := by
  simp [State.closeWithdrawn]
@[simp] theorem State.closeWithdrawn_liu (s : State) (id : Identity) : (s.closeWithdrawn id).liu = s.liu := by
  simp [State.closeWithdrawn]
@[simp] theorem State.closeWithdrawn_table (s : State) (id : Identity) : (s.closeWithdrawn id).table = s.table := by
  simp [State.closeWithdrawn]
@[simp] theorem State.closeWithdrawn_image (s : State) (id : Identity) : (s.closeWithdrawn id).image = s.image := by
  simp [State.closeWithdrawn]
@[simp] theorem State.closeWithdrawn_held (s : State) (id : Identity) : (s.closeWithdrawn id).held = s.held := by
  simp [State.closeWithdrawn]
@[simp] theorem State.closeWithdrawn_serialCounter (s : State) (id : Identity) : (s.closeWithdrawn id).serialCounter = s.serialCounter := by
  simp [State.closeWithdrawn]
@[simp] theorem State.closeWithdrawn_port (s : State) (id : Identity) : (s.closeWithdrawn id).port = s.port := by
  simp [State.closeWithdrawn]
@[simp] theorem State.closeWithdrawn_address (s : State) (id : Identity) : (s.closeWithdrawn id).address = s.address := by simp [State.address]

/-! `State.toldRefused` -/
/-- `State.toldRefused` in every case. -/
theorem State.toldRefused_keeps (s : State) (q : Queued) :
    (s.toldRefused q).pending = s.pending
      ∧ (s.toldRefused q).inReset = s.inReset
      ∧ (s.toldRefused q).divider = s.divider
      ∧ (s.toldRefused q).config = s.config
      ∧ (s.toldRefused q).ctl = s.ctl
      ∧ (s.toldRefused q).liu = s.liu
      ∧ (s.toldRefused q).table = s.table
      ∧ (s.toldRefused q).image = s.image
      ∧ (s.toldRefused q).held = s.held
      ∧ (s.toldRefused q).serialCounter = s.serialCounter
      ∧ (s.toldRefused q).port = s.port := by
  cases q <;> simp only [State.toldRefused] <;> (repeat' split) <;> simp
@[simp] theorem State.toldRefused_pending (s : State) (q : Queued) : (s.toldRefused q).pending = s.pending := (s.toldRefused_keeps q).1
@[simp] theorem State.toldRefused_inReset (s : State) (q : Queued) : (s.toldRefused q).inReset = s.inReset := (s.toldRefused_keeps q).2.1
@[simp] theorem State.toldRefused_divider (s : State) (q : Queued) : (s.toldRefused q).divider = s.divider := (s.toldRefused_keeps q).2.2.1
@[simp] theorem State.toldRefused_config (s : State) (q : Queued) : (s.toldRefused q).config = s.config := (s.toldRefused_keeps q).2.2.2.1
@[simp] theorem State.toldRefused_ctl (s : State) (q : Queued) : (s.toldRefused q).ctl = s.ctl := (s.toldRefused_keeps q).2.2.2.2.1
@[simp] theorem State.toldRefused_liu (s : State) (q : Queued) : (s.toldRefused q).liu = s.liu := (s.toldRefused_keeps q).2.2.2.2.2.1
@[simp] theorem State.toldRefused_table (s : State) (q : Queued) : (s.toldRefused q).table = s.table := (s.toldRefused_keeps q).2.2.2.2.2.2.1
@[simp] theorem State.toldRefused_image (s : State) (q : Queued) : (s.toldRefused q).image = s.image := (s.toldRefused_keeps q).2.2.2.2.2.2.2.1
@[simp] theorem State.toldRefused_held (s : State) (q : Queued) : (s.toldRefused q).held = s.held := (s.toldRefused_keeps q).2.2.2.2.2.2.2.2.1
@[simp] theorem State.toldRefused_serialCounter (s : State) (q : Queued) : (s.toldRefused q).serialCounter = s.serialCounter := (s.toldRefused_keeps q).2.2.2.2.2.2.2.2.2.1
@[simp] theorem State.toldRefused_port (s : State) (q : Queued) : (s.toldRefused q).port = s.port := (s.toldRefused_keeps q).2.2.2.2.2.2.2.2.2.2
@[simp] theorem State.toldRefused_address (s : State) (q : Queued) : (s.toldRefused q).address = s.address := by simp [State.address]

/-! `State.toldKept` -/
/-- `State.toldKept` in every case. -/
theorem State.toldKept_keeps (s : State) (q : Queued) :
    (s.toldKept q).pending = s.pending
      ∧ (s.toldKept q).inReset = s.inReset
      ∧ (s.toldKept q).divider = s.divider
      ∧ (s.toldKept q).config = s.config
      ∧ (s.toldKept q).ctl = s.ctl
      ∧ (s.toldKept q).liu = s.liu
      ∧ (s.toldKept q).table = s.table
      ∧ (s.toldKept q).image = s.image
      ∧ (s.toldKept q).held = s.held
      ∧ (s.toldKept q).serialCounter = s.serialCounter
      ∧ (s.toldKept q).port = s.port := by
  cases q <;> simp only [State.toldKept] <;> (repeat' split) <;> simp
@[simp] theorem State.toldKept_pending (s : State) (q : Queued) : (s.toldKept q).pending = s.pending := (s.toldKept_keeps q).1
@[simp] theorem State.toldKept_inReset (s : State) (q : Queued) : (s.toldKept q).inReset = s.inReset := (s.toldKept_keeps q).2.1
@[simp] theorem State.toldKept_divider (s : State) (q : Queued) : (s.toldKept q).divider = s.divider := (s.toldKept_keeps q).2.2.1
@[simp] theorem State.toldKept_config (s : State) (q : Queued) : (s.toldKept q).config = s.config := (s.toldKept_keeps q).2.2.2.1
@[simp] theorem State.toldKept_ctl (s : State) (q : Queued) : (s.toldKept q).ctl = s.ctl := (s.toldKept_keeps q).2.2.2.2.1
@[simp] theorem State.toldKept_liu (s : State) (q : Queued) : (s.toldKept q).liu = s.liu := (s.toldKept_keeps q).2.2.2.2.2.1
@[simp] theorem State.toldKept_table (s : State) (q : Queued) : (s.toldKept q).table = s.table := (s.toldKept_keeps q).2.2.2.2.2.2.1
@[simp] theorem State.toldKept_image (s : State) (q : Queued) : (s.toldKept q).image = s.image := (s.toldKept_keeps q).2.2.2.2.2.2.2.1
@[simp] theorem State.toldKept_held (s : State) (q : Queued) : (s.toldKept q).held = s.held := (s.toldKept_keeps q).2.2.2.2.2.2.2.2.1
@[simp] theorem State.toldKept_serialCounter (s : State) (q : Queued) : (s.toldKept q).serialCounter = s.serialCounter := (s.toldKept_keeps q).2.2.2.2.2.2.2.2.2.1
@[simp] theorem State.toldKept_port (s : State) (q : Queued) : (s.toldKept q).port = s.port := (s.toldKept_keeps q).2.2.2.2.2.2.2.2.2.2
@[simp] theorem State.toldKept_address (s : State) (q : Queued) : (s.toldKept q).address = s.address := by simp [State.address]

/-! `State.reportOutcome` -/
@[simp] theorem State.reportOutcome_pending (s : State) (o : FrameOutcome) (a : Level) : (s.reportOutcome o a).pending = s.pending := by
  unfold State.reportOutcome; (repeat' split) <;> simp
@[simp] theorem State.reportOutcome_inReset (s : State) (o : FrameOutcome) (a : Level) : (s.reportOutcome o a).inReset = s.inReset := by
  unfold State.reportOutcome; (repeat' split) <;> simp
@[simp] theorem State.reportOutcome_divider (s : State) (o : FrameOutcome) (a : Level) : (s.reportOutcome o a).divider = s.divider := by
  unfold State.reportOutcome; (repeat' split) <;> simp
@[simp] theorem State.reportOutcome_config (s : State) (o : FrameOutcome) (a : Level) : (s.reportOutcome o a).config = s.config := by
  unfold State.reportOutcome; (repeat' split) <;> simp
@[simp] theorem State.reportOutcome_liu (s : State) (o : FrameOutcome) (a : Level) : (s.reportOutcome o a).liu = s.liu := by
  unfold State.reportOutcome; (repeat' split) <;> simp
@[simp] theorem State.reportOutcome_table (s : State) (o : FrameOutcome) (a : Level) : (s.reportOutcome o a).table = s.table := by
  unfold State.reportOutcome; (repeat' split) <;> simp
@[simp] theorem State.reportOutcome_serialCounter (s : State) (o : FrameOutcome) (a : Level) : (s.reportOutcome o a).serialCounter = s.serialCounter := by
  unfold State.reportOutcome; (repeat' split) <;> simp
@[simp] theorem State.reportOutcome_port (s : State) (o : FrameOutcome) (a : Level) : (s.reportOutcome o a).port = s.port := by
  unfold State.reportOutcome; (repeat' split) <;> simp
@[simp] theorem State.reportOutcome_address (s : State) (o : FrameOutcome) (a : Level) : (s.reportOutcome o a).address = s.address := by simp [State.address]

end Sys2Proof.Machine
end

