-- ==== Sys2Proof/Laws/Taken.lean ====
section
/-! SUPPORT. What the handling of taken frames, the timers and the reports of the Line leave as they were. -/

namespace Sys2Proof.Machine

/-! `State.tellAlone` -/
@[simp] theorem State.tellAlone_pending (s : State) (b : Bool) : (s.tellAlone b).pending = s.pending := by
  unfold State.tellAlone; (repeat' split) <;> simp
@[simp] theorem State.tellAlone_inReset (s : State) (b : Bool) : (s.tellAlone b).inReset = s.inReset := by
  unfold State.tellAlone; (repeat' split) <;> simp
@[simp] theorem State.tellAlone_divider (s : State) (b : Bool) : (s.tellAlone b).divider = s.divider := by
  unfold State.tellAlone; (repeat' split) <;> simp
@[simp] theorem State.tellAlone_config (s : State) (b : Bool) : (s.tellAlone b).config = s.config := by
  unfold State.tellAlone; (repeat' split) <;> simp
@[simp] theorem State.tellAlone_ctl (s : State) (b : Bool) : (s.tellAlone b).ctl = s.ctl := by
  unfold State.tellAlone; (repeat' split) <;> simp
@[simp] theorem State.tellAlone_liu (s : State) (b : Bool) : (s.tellAlone b).liu = s.liu := by
  unfold State.tellAlone; (repeat' split) <;> simp
@[simp] theorem State.tellAlone_table (s : State) (b : Bool) : (s.tellAlone b).table = s.table := by
  unfold State.tellAlone; (repeat' split) <;> simp
@[simp] theorem State.tellAlone_queue (s : State) (b : Bool) : (s.tellAlone b).queue = s.queue := by
  unfold State.tellAlone; (repeat' split) <;> simp
@[simp] theorem State.tellAlone_image (s : State) (b : Bool) : (s.tellAlone b).image = s.image := by
  unfold State.tellAlone; (repeat' split) <;> simp
@[simp] theorem State.tellAlone_held (s : State) (b : Bool) : (s.tellAlone b).held = s.held := by
  unfold State.tellAlone; (repeat' split) <;> simp
@[simp] theorem State.tellAlone_origin (s : State) (b : Bool) : (s.tellAlone b).origin = s.origin := by
  unfold State.tellAlone; (repeat' split) <;> simp
@[simp] theorem State.tellAlone_serialCounter (s : State) (b : Bool) : (s.tellAlone b).serialCounter = s.serialCounter := by
  unfold State.tellAlone; (repeat' split) <;> simp
@[simp] theorem State.tellAlone_port (s : State) (b : Bool) : (s.tellAlone b).port = s.port := by
  unfold State.tellAlone; (repeat' split) <;> simp
@[simp] theorem State.tellAlone_address (s : State) (b : Bool) : (s.tellAlone b).address = s.address := by simp [State.address]

/-! `State.restatementDuty` -/
@[simp] theorem State.restatementDuty_pending (s : State) (f : Frame) (b : Bool) : (s.restatementDuty f b).pending = s.pending := by
  unfold State.restatementDuty; (repeat' split) <;> simp
@[simp] theorem State.restatementDuty_inReset (s : State) (f : Frame) (b : Bool) : (s.restatementDuty f b).inReset = s.inReset := by
  unfold State.restatementDuty; (repeat' split) <;> simp
@[simp] theorem State.restatementDuty_divider (s : State) (f : Frame) (b : Bool) : (s.restatementDuty f b).divider = s.divider := by
  unfold State.restatementDuty; (repeat' split) <;> simp
@[simp] theorem State.restatementDuty_config (s : State) (f : Frame) (b : Bool) : (s.restatementDuty f b).config = s.config := by
  unfold State.restatementDuty; (repeat' split) <;> simp
@[simp] theorem State.restatementDuty_ctl (s : State) (f : Frame) (b : Bool) : (s.restatementDuty f b).ctl = s.ctl := by
  unfold State.restatementDuty; (repeat' split) <;> simp
@[simp] theorem State.restatementDuty_liu (s : State) (f : Frame) (b : Bool) : (s.restatementDuty f b).liu = s.liu := by
  unfold State.restatementDuty; (repeat' split) <;> simp
@[simp] theorem State.restatementDuty_table (s : State) (f : Frame) (b : Bool) : (s.restatementDuty f b).table = s.table := by
  unfold State.restatementDuty; (repeat' split) <;> simp
@[simp] theorem State.restatementDuty_image (s : State) (f : Frame) (b : Bool) : (s.restatementDuty f b).image = s.image := by
  unfold State.restatementDuty; (repeat' split) <;> simp
@[simp] theorem State.restatementDuty_held (s : State) (f : Frame) (b : Bool) : (s.restatementDuty f b).held = s.held := by
  unfold State.restatementDuty; (repeat' split) <;> simp
@[simp] theorem State.restatementDuty_origin (s : State) (f : Frame) (b : Bool) : (s.restatementDuty f b).origin = s.origin := by
  unfold State.restatementDuty; (repeat' split) <;> simp
@[simp] theorem State.restatementDuty_serialCounter (s : State) (f : Frame) (b : Bool) : (s.restatementDuty f b).serialCounter = s.serialCounter := by
  unfold State.restatementDuty; (repeat' split) <;> simp
@[simp] theorem State.restatementDuty_notices (s : State) (f : Frame) (b : Bool) : (s.restatementDuty f b).notices = s.notices := by
  unfold State.restatementDuty; (repeat' split) <;> simp
@[simp] theorem State.restatementDuty_port (s : State) (f : Frame) (b : Bool) : (s.restatementDuty f b).port = s.port := by
  unfold State.restatementDuty; (repeat' split) <;> simp
@[simp] theorem State.restatementDuty_address (s : State) (f : Frame) (b : Bool) : (s.restatementDuty f b).address = s.address := by simp [State.address]

/-! `State.handleTaken` -/
@[simp] theorem State.handleTaken_pending (s : State) (b : Bool) (f : Frame) : (s.handleTaken b f).pending = s.pending := by
  simp [State.handleTaken, foldl_keeps State.pending (State.deliver b f) (fun s r => by simp)]
@[simp] theorem State.handleTaken_inReset (s : State) (b : Bool) (f : Frame) : (s.handleTaken b f).inReset = s.inReset := by
  simp [State.handleTaken, foldl_keeps State.inReset (State.deliver b f) (fun s r => by simp)]
@[simp] theorem State.handleTaken_divider (s : State) (b : Bool) (f : Frame) : (s.handleTaken b f).divider = s.divider := by
  simp [State.handleTaken, foldl_keeps State.divider (State.deliver b f) (fun s r => by simp)]
@[simp] theorem State.handleTaken_config (s : State) (b : Bool) (f : Frame) : (s.handleTaken b f).config = s.config := by
  simp [State.handleTaken, foldl_keeps State.config (State.deliver b f) (fun s r => by simp)]
@[simp] theorem State.handleTaken_ctl (s : State) (b : Bool) (f : Frame) : (s.handleTaken b f).ctl = s.ctl := by
  simp [State.handleTaken, foldl_keeps State.ctl (State.deliver b f) (fun s r => by simp)]
@[simp] theorem State.handleTaken_liu (s : State) (b : Bool) (f : Frame) : (s.handleTaken b f).liu = s.liu := by
  simp [State.handleTaken, foldl_keeps State.liu (State.deliver b f) (fun s r => by simp)]
@[simp] theorem State.handleTaken_image (s : State) (b : Bool) (f : Frame) : (s.handleTaken b f).image = s.image := by
  simp [State.handleTaken, foldl_keeps State.image (State.deliver b f) (fun s r => by simp)]
@[simp] theorem State.handleTaken_serialCounter (s : State) (b : Bool) (f : Frame) : (s.handleTaken b f).serialCounter = s.serialCounter := by
  simp [State.handleTaken, foldl_keeps State.serialCounter (State.deliver b f) (fun s r => by simp)]
@[simp] theorem State.handleTaken_port (s : State) (b : Bool) (f : Frame) : (s.handleTaken b f).port = s.port := by
  simp [State.handleTaken, foldl_keeps State.port (State.deliver b f) (fun s r => by simp)]
@[simp] theorem State.handleTaken_address (s : State) (b : Bool) (f : Frame) : (s.handleTaken b f).address = s.address := by simp [State.address]

/-! `State.spacingComplete` -/
@[simp] theorem State.spacingComplete_pending (s : State) : (s.spacingComplete).pending = s.pending := by
  unfold State.spacingComplete; (repeat' split) <;> simp
@[simp] theorem State.spacingComplete_inReset (s : State) : (s.spacingComplete).inReset = s.inReset := by
  unfold State.spacingComplete; (repeat' split) <;> simp
@[simp] theorem State.spacingComplete_divider (s : State) : (s.spacingComplete).divider = s.divider := by
  unfold State.spacingComplete; (repeat' split) <;> simp
@[simp] theorem State.spacingComplete_config (s : State) : (s.spacingComplete).config = s.config := by
  unfold State.spacingComplete; (repeat' split) <;> simp
@[simp] theorem State.spacingComplete_ctl (s : State) : (s.spacingComplete).ctl = s.ctl := by
  unfold State.spacingComplete; (repeat' split) <;> simp
@[simp] theorem State.spacingComplete_table (s : State) : (s.spacingComplete).table = s.table := by
  unfold State.spacingComplete; (repeat' split) <;> simp
@[simp] theorem State.spacingComplete_queue (s : State) : (s.spacingComplete).queue = s.queue := by
  unfold State.spacingComplete; (repeat' split) <;> simp
@[simp] theorem State.spacingComplete_image (s : State) : (s.spacingComplete).image = s.image := by
  unfold State.spacingComplete; (repeat' split) <;> simp
@[simp] theorem State.spacingComplete_held (s : State) : (s.spacingComplete).held = s.held := by
  unfold State.spacingComplete; (repeat' split) <;> simp
@[simp] theorem State.spacingComplete_origin (s : State) : (s.spacingComplete).origin = s.origin := by
  unfold State.spacingComplete; (repeat' split) <;> simp
@[simp] theorem State.spacingComplete_serialCounter (s : State) : (s.spacingComplete).serialCounter = s.serialCounter := by
  unfold State.spacingComplete; (repeat' split) <;> simp
@[simp] theorem State.spacingComplete_notices (s : State) : (s.spacingComplete).notices = s.notices := by
  unfold State.spacingComplete; (repeat' split) <;> simp
@[simp] theorem State.spacingComplete_port (s : State) : (s.spacingComplete).port = s.port := by
  unfold State.spacingComplete; (repeat' split) <;> simp
@[simp] theorem State.spacingComplete_address (s : State) : (s.spacingComplete).address = s.address := by simp [State.address]

/-! `State.recoveryComplete` -/
@[simp] theorem State.recoveryComplete_pending (s : State) : (s.recoveryComplete).pending = s.pending := by
  unfold State.recoveryComplete; (repeat' split) <;> simp
@[simp] theorem State.recoveryComplete_inReset (s : State) : (s.recoveryComplete).inReset = s.inReset := by
  unfold State.recoveryComplete; (repeat' split) <;> simp
@[simp] theorem State.recoveryComplete_divider (s : State) : (s.recoveryComplete).divider = s.divider := by
  unfold State.recoveryComplete; (repeat' split) <;> simp
@[simp] theorem State.recoveryComplete_config (s : State) : (s.recoveryComplete).config = s.config := by
  unfold State.recoveryComplete; (repeat' split) <;> simp
@[simp] theorem State.recoveryComplete_table (s : State) : (s.recoveryComplete).table = s.table := by
  unfold State.recoveryComplete; (repeat' split) <;> simp
@[simp] theorem State.recoveryComplete_image (s : State) : (s.recoveryComplete).image = s.image := by
  unfold State.recoveryComplete; (repeat' split) <;> simp
@[simp] theorem State.recoveryComplete_held (s : State) : (s.recoveryComplete).held = s.held := by
  unfold State.recoveryComplete; (repeat' split) <;> simp
@[simp] theorem State.recoveryComplete_origin (s : State) : (s.recoveryComplete).origin = s.origin := by
  unfold State.recoveryComplete; (repeat' split) <;> simp
@[simp] theorem State.recoveryComplete_serialCounter (s : State) : (s.recoveryComplete).serialCounter = s.serialCounter := by
  unfold State.recoveryComplete; (repeat' split) <;> simp
@[simp] theorem State.recoveryComplete_notices (s : State) : (s.recoveryComplete).notices = s.notices := by
  unfold State.recoveryComplete; (repeat' split) <;> simp
@[simp] theorem State.recoveryComplete_port (s : State) : (s.recoveryComplete).port = s.port := by
  unfold State.recoveryComplete; (repeat' split) <;> simp
@[simp] theorem State.recoveryComplete_address (s : State) : (s.recoveryComplete).address = s.address := by simp [State.address]

/-! `State.deadlineTick` -/
@[simp] theorem State.deadlineTick_pending (s : State) : (s.deadlineTick).pending = s.pending := by
  simp [State.deadlineTick, foldl_keeps State.pending State.deliverExpiry (fun s r => by simp)]
@[simp] theorem State.deadlineTick_inReset (s : State) : (s.deadlineTick).inReset = s.inReset := by
  simp [State.deadlineTick, foldl_keeps State.inReset State.deliverExpiry (fun s r => by simp)]
@[simp] theorem State.deadlineTick_config (s : State) : (s.deadlineTick).config = s.config := by
  simp [State.deadlineTick, foldl_keeps State.config State.deliverExpiry (fun s r => by simp)]
@[simp] theorem State.deadlineTick_ctl (s : State) : (s.deadlineTick).ctl = s.ctl := by
  simp [State.deadlineTick, foldl_keeps State.ctl State.deliverExpiry (fun s r => by simp)]
@[simp] theorem State.deadlineTick_liu (s : State) : (s.deadlineTick).liu = s.liu := by
  simp [State.deadlineTick, foldl_keeps State.liu State.deliverExpiry (fun s r => by simp)]
@[simp] theorem State.deadlineTick_image (s : State) : (s.deadlineTick).image = s.image := by
  simp [State.deadlineTick, foldl_keeps State.image State.deliverExpiry (fun s r => by simp)]
@[simp] theorem State.deadlineTick_origin (s : State) : (s.deadlineTick).origin = s.origin := by
  simp [State.deadlineTick, foldl_keeps State.origin State.deliverExpiry (fun s r => by simp)]
@[simp] theorem State.deadlineTick_serialCounter (s : State) : (s.deadlineTick).serialCounter = s.serialCounter := by
  simp [State.deadlineTick, foldl_keeps State.serialCounter State.deliverExpiry (fun s r => by simp)]
@[simp] theorem State.deadlineTick_port (s : State) : (s.deadlineTick).port = s.port := by
  simp [State.deadlineTick, foldl_keeps State.port State.deliverExpiry (fun s r => by simp)]
@[simp] theorem State.deadlineTick_address (s : State) : (s.deadlineTick).address = s.address := by simp [State.address]

/-! `State.runOutAt` -/
@[simp] theorem State.runOutAt_pending (s : State) (id : Identity) : (s.runOutAt id).pending = s.pending := rfl
@[simp] theorem State.runOutAt_inReset (s : State) (id : Identity) : (s.runOutAt id).inReset = s.inReset := rfl
@[simp] theorem State.runOutAt_divider (s : State) (id : Identity) : (s.runOutAt id).divider = s.divider := rfl
@[simp] theorem State.runOutAt_config (s : State) (id : Identity) : (s.runOutAt id).config = s.config := rfl
@[simp] theorem State.runOutAt_ctl (s : State) (id : Identity) : (s.runOutAt id).ctl = s.ctl := rfl
@[simp] theorem State.runOutAt_liu (s : State) (id : Identity) : (s.runOutAt id).liu = s.liu := rfl
@[simp] theorem State.runOutAt_queue (s : State) (id : Identity) : (s.runOutAt id).queue = s.queue := rfl
@[simp] theorem State.runOutAt_image (s : State) (id : Identity) : (s.runOutAt id).image = s.image := rfl
@[simp] theorem State.runOutAt_held (s : State) (id : Identity) : (s.runOutAt id).held = s.held := rfl
@[simp] theorem State.runOutAt_origin (s : State) (id : Identity) : (s.runOutAt id).origin = s.origin := rfl
@[simp] theorem State.runOutAt_serialCounter (s : State) (id : Identity) : (s.runOutAt id).serialCounter = s.serialCounter := rfl
@[simp] theorem State.runOutAt_notices (s : State) (id : Identity) : (s.runOutAt id).notices = s.notices := rfl
@[simp] theorem State.runOutAt_port (s : State) (id : Identity) : (s.runOutAt id).port = s.port := rfl
@[simp] theorem State.runOutAt_address (s : State) (id : Identity) : (s.runOutAt id).address = s.address := by simp [State.address]

end Sys2Proof.Machine
end

