-- ==== Sys2Proof/Laws/Ops.lean ====
section
/-! SUPPORT. What each shared operation can do, said once: choices from a list, the Event Table, the Frame Queue,
the notices, the re-choices, the leave drain and the processing of a request. -/

namespace Sys2Proof.Machine

/-! ### Choices from a list -/

/-- The pick is an element whose key is below every earlier one's and at most every later one's. -/
theorem pickLeast_some {α : Type} (key : α → Nat) (l : List α) (a : α) (h : pickLeast key l = some a) :
    ∃ older younger : List α, l = older ++ a :: younger
      ∧ (∀ x ∈ older, key a < key x) ∧ ∀ x ∈ younger, key a ≤ key x := by
  induction l generalizing a with
  | nil => simp [pickLeast] at h
  | cons b rest ih =>
    simp only [pickLeast] at h
    split at h
    · rename_i hnone
      have hrest : rest = [] := by
        cases rest with
        | nil => rfl
        | cons c cs => simp only [pickLeast] at hnone; split at hnone <;> (try split at hnone) <;> simp at hnone
      cases h
      exact ⟨[], rest, rfl, by simp, by simp [hrest]⟩
    · rename_i c hc
      obtain ⟨older, younger, hl, ho, hy⟩ := ih c hc
      split at h
      · rename_i hlt
        cases h
        refine ⟨b :: older, younger, by simp [hl], ?_, hy⟩
        intro x hx
        rcases List.mem_cons.1 hx with rfl | hx
        · exact hlt
        · exact ho x hx
      · rename_i hge
        cases h
        refine ⟨[], rest, rfl, by simp, ?_⟩
        intro x hx
        rw [hl, List.mem_append, List.mem_cons] at hx
        rcases hx with hx | rfl | hx
        · have := ho x hx; omega
        · omega
        · have := hy x hx; omega

/-- There is a pick exactly from a list that is not empty. -/
theorem pickLeast_none {α : Type} (key : α → Nat) (l : List α) : pickLeast key l = none ↔ l = [] := by
  cases l with
  | nil => simp [pickLeast]
  | cons b rest => simp only [pickLeast]; split <;> (try split) <;> simp

/-- The pick is an element of the list. -/
theorem pickLeast_mem {α : Type} (key : α → Nat) (l : List α) (a : α) (h : pickLeast key l = some a) : a ∈ l := by
  obtain ⟨older, younger, rfl, -, -⟩ := pickLeast_some key l a h
  simp

/-! ### The Event Table -/

/-- An entry that is found is in the table, under the identity looked for. -/
theorem findEntry_some {t : List Entry} {id : Identity} {e : Entry} (h : findEntry t id = some e) :
    e ∈ t ∧ e.id = id :=
  ⟨List.mem_of_find?_eq_some h, by simpa using List.find?_some h⟩

/-- No entry is found exactly when none has the identity. -/
theorem findEntry_none {t : List Entry} {id : Identity} : findEntry t id = none ↔ ∀ e ∈ t, e.id ≠ id := by
  simp [findEntry]

/-- In a table without two entries of one identity, an entry is found under its own. -/
theorem findEntry_of_mem {t : List Entry} {e : Entry} (hn : (t.map Entry.id).Nodup) (h : e ∈ t) :
    findEntry t e.id = some e := by
  induction t with
  | nil => cases h
  | cons x t ih =>
    simp only [List.map_cons, List.nodup_cons] at hn
    rcases List.mem_cons.1 h with rfl | h'
    · simp [findEntry]
    · have hx : x.id ≠ e.id := fun he => hn.1 (he ▸ List.mem_map_of_mem h')
      have := ih hn.2 h'
      simpa [findEntry, hx] using this

/-- A removal keeps exactly the entries of other identities. -/
@[simp] theorem mem_removeEntry {t : List Entry} {id : Identity} {e : Entry} :
    e ∈ removeEntry t id ↔ e ∈ t ∧ e.id ≠ id := by simp [removeEntry]

/-- A change that keeps the identity of every entry keeps the list of identities. -/
theorem updateEntry_ids (t : List Entry) (id : Identity) (f : Entry → Entry) (hf : ∀ e, (f e).id = e.id) :
    (updateEntry t id f).map Entry.id = t.map Entry.id := by
  simp only [updateEntry, List.map_map]
  refine List.map_congr_left fun e _ => ?_
  dsimp only [Function.comp]
  split
  · exact hf e
  · rfl

/-- A change keeps the number of entries. -/
@[simp] theorem updateEntry_length (t : List Entry) (id : Identity) (f : Entry → Entry) :
    (updateEntry t id f).length = t.length := by simp [updateEntry]

/-- A removal makes the table no longer. -/
theorem removeEntry_length (t : List Entry) (id : Identity) : (removeEntry t id).length ≤ t.length :=
  List.length_filter_le _ _

/-- A reopening removes the entry, at its limit, or changes it at its position. -/
theorem reopen_table (t : List Entry) (e : Entry) (cause : ReopenCause) (a : Address) :
    (reopen t e cause a).table =
      if e.atLimit then removeEntry t e.id
      else updateEntry t e.id fun x =>
        { x with attempt := e.nextAttempt, claim := none, lastClaimant := some a } := by
  unfold reopen
  split <;> rfl

/-- Below 7 the attempt of a reopened entry rises by 1. -/
theorem Entry.nextAttempt_of_ne {e : Entry} (h : e.attempt ≠ 7) : e.nextAttempt.toNat = e.attempt.toNat + 1 := by
  simp only [Entry.nextAttempt, h, if_false]
  exact (by decide : ∀ a : Attempt, a ≠ 7 → (a + 1).toNat = a.toNat + 1) _ h

/-- An entry is at its limit exactly when its attempt raised by 1 equals it. -/
@[simp] theorem Entry.atLimit_iff {e : Entry} : e.atLimit = true ↔ e.limit.toNat = e.attempt.toNat + 1 := by
  simp [Entry.atLimit]

/-- A deadline tick keeps every identity. -/
@[simp] theorem Entry.tick_id (me : Address) (e : Entry) : (e.tick me).id = e.id := by
  unfold Entry.tick
  (repeat' split) <;> rfl

/-- A stale frame changes no table. -/
theorem applyFrame_stale {me : Address} {b : Bool} {t : List Entry} {f : Frame} (h : applies me b t f = false) :
    applyFrame me b t f = Applied.unchanged t := by simp [applyFrame, h]

/-! ### The Frame Queue -/

/-- A frame found in a place is in the queue, and stands in that place. -/
theorem framePlaced_some {q : List QueuedFrame} {p : Place} {g : QueuedFrame} (h : framePlaced q p = some g) :
    g ∈ q ∧ g.frame.place = p :=
  ⟨List.mem_of_find?_eq_some h, by simpa using List.find?_some h⟩

/-- A place is empty exactly when no queued frame stands in it. -/
theorem framePlaced_none {q : List QueuedFrame} {p : Place} :
    framePlaced q p = none ↔ ∀ g ∈ q, g.frame.place ≠ p := by simp [framePlaced]

/-- A post changes nothing, or puts its frame last, off the Line, in place of whatever its place held. -/
theorem State.post_cases (s : State) (f : Queued) :
    s.post f = s
      ∨ (s.takesPosts = true ∧ (s.post f).queue = withoutPlace s.queue f.place ++ [{ frame := f, onLine := false }]) := by
  unfold State.post
  split
  · rename_i h
    right
    unfold State.postAnswer at h
    split at h
    · rename_i ht
      split at h
      · rename_i hn
        refine ⟨ht, ?_⟩
        have : withoutPlace s.queue f.place = s.queue := by
          refine List.filter_eq_self.2 fun g hg => ?_
          simpa using framePlaced_none.1 hn g hg
        simp [this]
      · (repeat' split at h) <;> simp at h
    · simp at h
  · rename_i h
    right
    unfold State.postAnswer at h
    split at h
    · rename_i ht; exact ⟨ht, rfl⟩
    · simp at h
  · exact .inl rfl
  · exact .inl rfl
  · exact .inl rfl

/-- A poster's removal leaves the frame on the Line and every frame of another place. -/
@[simp] theorem State.mem_removeFrame {s : State} {p : Place} {g : QueuedFrame} :
    g ∈ (s.removeFrame p).queue ↔ g ∈ s.queue ∧ (g.frame.place = p → g.onLine = true) := by
  simp [State.removeFrame, imp_iff_not_or]

/-- The purge leaves the frame on the Line and every frame that is not superseded. -/
@[simp] theorem State.mem_purge {s : State} {g : QueuedFrame} :
    g ∈ s.purge.queue ↔ g ∈ s.queue ∧ (g.onLine = true ∨ superseded s.table s.address g.frame = false) := by
  simp [State.purge]

/-- A dropped frame is the one on the Line, and no other leaves the queue. -/
@[simp] theorem State.mem_dropFrame {s : State} {g : QueuedFrame} :
    g ∈ s.dropFrame.queue ↔ g ∈ s.queue ∧ g.onLine = false := by simp [State.dropFrame]

/-- A kept frame keeps its place, and no frame is on the Line. -/
@[simp] theorem State.keepFrame_places (s : State) :
    (s.keepFrame.queue.map fun g => g.frame.place) = s.queue.map fun g => g.frame.place := by
  simp [State.keepFrame, Function.comp_def]

/-- The frame on the Line is a queued frame with its mark set. -/
theorem State.frameOnLine_some {s : State} {g : QueuedFrame} (h : s.frameOnLine = some g) :
    g ∈ s.queue ∧ g.onLine = true :=
  ⟨List.mem_of_find?_eq_some h, by simpa using List.find?_some h⟩

/-- Re-making the bid choice leaves the queue, removes a queued BID, or posts one for the chosen entry. -/
theorem State.remakeBid_cases (s : State) :
    s.remakeBid = s ∨ (s.bidChoice = none ∧ s.remakeBid = s.removeFrame .bid)
      ∨ ∃ e, s.bidChoice = some e ∧ s.remakeBid = s.post (.bid e.id e.priority e.attempt) := by
  unfold State.remakeBid
  split
  · split
    · exact .inl rfl
    · rename_i e he; exact .inr (.inr ⟨e, he, rfl⟩)
  · split
    · exact .inl rfl
    · split
      · rename_i hn; exact .inr (.inl ⟨hn, rfl⟩)
      · rename_i e he
        split
        · exact .inl rfl
        · exact .inr (.inr ⟨e, he, rfl⟩)

/-- Re-making the LAPSE choice leaves the queue, removes a queued LAPSE, or posts one for the chosen entry, and does
either of the last two in ACTIVE only. -/
theorem State.remakeLapse_cases (s : State) :
    s.remakeLapse = s
      ∨ (s.station = .active ∧ ((s.lapseChoice = none ∧ s.remakeLapse = s.removeFrame .lapse)
        ∨ ∃ e, s.lapseChoice = some e ∧ s.remakeLapse = s.post (.lapse e.id e.priority e.attempt))) := by
  unfold State.remakeLapse
  split
  · rename_i ha
    split
    · split
      · exact .inl rfl
      · rename_i e he; exact .inr ⟨ha, .inr ⟨e, he, rfl⟩⟩
    · split
      · exact .inl rfl
      · split
        · rename_i hn; exact .inr ⟨ha, .inl ⟨hn, rfl⟩⟩
        · rename_i e he
          split
          · exact .inl rfl
          · exact .inr ⟨ha, .inr ⟨e, he, rfl⟩⟩
  · exact .inl rfl

/-! ### Samples -/

/-- A sample changes the LIU's counts, or brings about a stuck Line with its twelfth dominant sample. -/
theorem State.sampleLine_cases (s : State) (b : Bool) :
    s.sampleLine b = { s with liu := s.liu.sample b }
      ∨ (s.liu.phase ≠ .recovering ∧ (s.liu.sample b).dominant = Config.stuckSamples
        ∧ s.sampleLine b = { s with liu := s.liu.sample b }.stuckLine) := by
  unfold State.sampleLine
  dsimp only
  split
  · rename_i h
    refine .inr ⟨?_, h.2, rfl⟩
    have := h.1
    cases b <;> exact this
  · exact .inl rfl

/-- A dominant sample starts this station's own frame, or has it receive, at a start edge; elsewhere it is only
sampled. -/
theorem State.dominantSample_cases (s : State) :
    (s.liu.seesStartEdge = true ∧ s.readyToStart = true ∧ s.dominantSample = s.startFrame)
      ∨ (s.liu.seesStartEdge = true ∧ s.readyToStart = false
        ∧ s.dominantSample = { s with liu := { s.liu.atEdge.sample false with phase := .receiving } })
      ∨ (s.liu.seesStartEdge = false ∧ s.dominantSample = s.sampleLine false) := by
  unfold State.dominantSample
  split
  · rename_i h
    split
    · rename_i hr; exact .inl ⟨h, hr, rfl⟩
    · rename_i hr; exact .inr (.inl ⟨h, by simpa using hr, rfl⟩)
  · rename_i h; exact .inr (.inr ⟨by simpa using h, rfl⟩)

/-- A station that is held or sends hears nothing; any other takes the sample for what it is. -/
theorem State.hear_cases (s : State) (b : Bool) :
    (s.liuHeld = true ∨ s.image.isSome = true) ∧ s.hear b = s
      ∨ s.liuHeld = false ∧ s.image = none
        ∧ (b = true ∧ s.hear b = s.quietSample ∨ b = false ∧ s.hear b = s.dominantSample) := by
  unfold State.hear
  split
  · rename_i h; exact .inl ⟨h, rfl⟩
  · rename_i h
    rw [not_or] at h
    refine .inr ⟨by simpa using h.1, by simpa using h.2, ?_⟩
    cases b
    · exact .inr ⟨rfl, rfl⟩
    · exact .inl ⟨rfl, rfl⟩

/-- What every sample keeps, a row of samples keeps. -/
theorem State.watch_keeps {P : State → Prop} (h : ∀ s b, P s → P (s.hear b)) (bits : List Bool) :
    ∀ s, P s → P (s.watch bits) := by
  induction bits with
  | nil => exact fun s hs => hs
  | cons b rest ih => exact fun s hs => ih (s.hear b) (h s b hs)

/-- A row of samples is taken piece by piece. -/
theorem State.watch_append (s : State) (first later : List Bool) :
    s.watch (first ++ later) = (s.watch first).watch later := List.foldl_append

/-- R74: no twelfth dominant sample: one sample changes the LIU's counts alone. -/
theorem State.sampleLine_of_lt {s : State} {b : Bool} (h : (s.liu.sample b).dominant < Config.stuckSamples) :
    s.sampleLine b = { s with liu := s.liu.sample b } := by
  rcases State.sampleLine_cases s b with e | ⟨-, hd, -⟩
  · exact e
  · omega

/-- An own frame that a stuck Line ends leaves the LIU in its phase. -/
theorem State.stuckFrame_phase (s : State) : s.stuckFrame.liu.phase = s.liu.phase := by
  unfold State.stuckFrame
  dsimp only
  (repeat' split) <;> simp [Liu.outcome]

/-- The test of the drain leaves the state, or brings a LEAVING station whose drain is complete into DETACHED. -/
theorem State.testDrain_cases (s : State) :
    s.testDrain = s
      ∨ (s.station = .leaving ∧ s.ctl.draining = true ∧ s.drainComplete = true ∧ s.testDrain = s.enterDetached) := by
  unfold State.testDrain
  split
  · rename_i h; exact .inr ⟨h.1, h.2.1, h.2.2, rfl⟩
  · exact .inl rfl

/-- R74: after a stuck Line the LIU takes part in no slot. -/
theorem State.stuckLine_phase {s : State} (h : s.liuHeld = false) (hp : s.liu.phase ≠ .recovering) :
    s.stuckLine.liu.phase ≠ .slots := by
  have hs : ({ s with liu := s.liu.stick }.stuckFrame).liu.phase = .recovering := by
    rw [State.stuckFrame_phase]; rfl
  unfold State.stuckLine
  rw [if_neg (by simp [h, hp])]
  dsimp only
  split
  · simp only [State.restartNow]
    split
    · simp
    · simp [hs]
  · rcases State.testDrain_cases (({ s with liu := s.liu.stick }.stuckFrame).raiseCause .lineFault).muteFailures
      with e | ⟨-, -, -, e⟩
    · rw [e]; simp [hs]
    · rw [e]; simp [State.enterDetached]

/-- The LIU after the slots of a frame taken nowhere. -/
theorem Liu.slots_endFrame (l : Liu) (accept : Level) (ownAccept ownObject : Bool) :
    ((((l.atAccept ownAccept).sample accept.bit).atObject ownObject).sample false).endFrame [] ownAccept ownObject false
      = { l with phase := .slots }.endFrame [accept.bit, false] ownAccept ownObject false := by
  cases accept <;> rfl

/-- R66, R67, R74: the slots of a frame taken nowhere end it, or are a stuck Line at their first or second sample. -/
theorem State.objectedSlots_cases (s : State) (accept : Level) (ownAccept ownObject : Bool) (h : s.liuHeld = false) :
    s.objectedSlots accept ownAccept ownObject
        = { s with liu := { s.liu with phase := .slots }.endFrame [accept.bit, false] ownAccept ownObject false }
      ∨ ∃ l : Liu, l.phase = .slots ∧ l.failures = s.liu.failures ∧ l.alone = s.liu.alone
        ∧ l.dominant = Config.stuckSamples ∧ s.objectedSlots accept ownAccept ownObject = { s with liu := l }.stuckLine := by
  unfold State.objectedSlots
  rcases State.sampleLine_cases { s with liu := s.liu.atAccept ownAccept } accept.bit with e | ⟨-, hd, e⟩
  · simp only [e]
    rw [if_neg (by simp)]
    unfold State.objectSlot
    rcases State.sampleLine_cases
        { s with liu := ((s.liu.atAccept ownAccept).sample accept.bit).atObject ownObject } false with e' | ⟨-, hd, e'⟩
    · refine .inl ?_
      simp only [e']
      rw [if_neg (by simp), Liu.slots_endFrame]
    · refine .inr ⟨(((s.liu.atAccept ownAccept).sample accept.bit).atObject ownObject).sample false,
        by simp, by simp, by simp, hd, ?_⟩
      simp only [e']
      exact if_pos (State.stuckLine_phase (s := { s with
        liu := (((s.liu.atAccept ownAccept).sample accept.bit).atObject ownObject).sample false }) h (by simp))
  · refine .inr ⟨(s.liu.atAccept ownAccept).sample accept.bit, by simp, by simp, by simp, hd, ?_⟩
    simp only [e]
    exact if_pos (State.stuckLine_phase (s := { s with
      liu := (s.liu.atAccept ownAccept).sample accept.bit }) h (by simp))

/-- R66, R67: slots that follow at most nine dominant samples in succession end the frame. -/
theorem State.objectedSlots_of_le {s : State} (accept : Level) (ownAccept ownObject : Bool) (h : s.liu.dominant ≤ 9) :
    s.objectedSlots accept ownAccept ownObject
      = { s with liu := { s.liu with phase := .slots }.endFrame [accept.bit, false] ownAccept ownObject false } := by
  have h₁ : ((s.liu.atAccept ownAccept).sample accept.bit).dominant ≤ 10 :=
    Nat.le_trans (Liu.sample_dominant_le (s.liu.atAccept ownAccept) accept.bit 9 h) (by split <;> omega)
  have h₂ : ((((s.liu.atAccept ownAccept).sample accept.bit).atObject ownObject).sample false).dominant ≤ 11 :=
    Liu.sample_dominant_le (((s.liu.atAccept ownAccept).sample accept.bit).atObject ownObject) false 10 h₁
  unfold State.objectedSlots
  simp only [State.sampleLine_of_lt (s := { s with liu := s.liu.atAccept ownAccept }) (Nat.lt_of_le_of_lt h₁ (by decide))]
  rw [if_neg (by simp)]
  unfold State.objectSlot
  simp only [State.sampleLine_of_lt
    (s := { s with liu := ((s.liu.atAccept ownAccept).sample accept.bit).atObject ownObject })
    (Nat.lt_of_le_of_lt h₂ (by decide))]
  rw [if_neg (by simp), Liu.slots_endFrame]

/-- R57, R74: the slots of a frame as sent, which this station samples whole, are no stuck Line. -/
theorem State.span_dominant (s : State) (f : Frame) : (s.span f).liu.dominant ≤ 6 :=
  Liu.sampleAll_wireBits_dominant s.liu f

/-- A station joins a peer's start edge, and then loses to its frame, exactly when it is ready at that edge. -/
theorem State.meets_cases (s : State) :
    s.meets = s ∨ (s.liu.seesStartEdge = true ∧ s.readyToStart = true ∧ s.meets = s.startFrame.loseArbitration) := by
  unfold State.meets
  split
  · rename_i h; exact .inr ⟨h.1, h.2, rfl⟩
  · exact .inl rfl

/-! ### Notices -/

/-- A notice joins the end of the queue. -/
@[simp] theorem State.notify_notices (s : State) (n : Notice) : (s.notify n).notices = s.notices ++ [n] := rfl

/-- A cause joins the waiting STATION notice, or queues a new one. -/
theorem State.raiseCause_notices (s : State) (c : StationCause) :
    (s.raiseCause c).notices =
      if s.notices.any Notice.isStation then s.notices.map (Notice.addCause c) else s.notices ++ [.station c.bit] := by
  unfold State.raiseCause
  split <;> simp_all

/-- A cause that joins a notice leaves its kind. -/
@[simp] theorem Notice.addCause_isStation (c : StationCause) (n : Notice) :
    (n.addCause c).isStation = n.isStation := by cases n <;> rfl

/-- A cause changes no notice but a STATION notice. -/
theorem Notice.addCause_of_not_station (c : StationCause) {n : Notice} (h : n.isStation = false) :
    n.addCause c = n := by cases n <;> simp_all [Notice.isStation, Notice.addCause]

/-! ### Records -/

/-- A record that is found is in the Held List, under the identity looked for. -/
theorem State.heldRecord_some {s : State} {id : Identity} {r : HeldRecord} (h : s.heldRecord id = some r) :
    r ∈ s.held ∧ r.id = id :=
  ⟨List.mem_of_find?_eq_some h, by simpa using List.find?_some h⟩

/-- A record that is found is in the Origin List, under the serial looked for. -/
theorem State.originRecord_some {s : State} {n : Serial} {r : OriginRecord} (h : s.originRecord n = some r) :
    r ∈ s.origin ∧ r.serial = n :=
  ⟨List.mem_of_find?_eq_some h, by simpa using List.find?_some h⟩

/-! ### Changes of station state, and requests -/

/-- Outside LEAVING the test of the drain changes nothing. -/
theorem State.testDrain_of_not_leaving {s : State} (h : s.station ≠ .leaving) : s.testDrain = s := by
  simp [State.testDrain, h]

/-- A failure count of 8 brings a station on the Line into MUTE; any other leaves it. -/
theorem State.muteFailures_cases (s : State) :
    s.muteFailures = s
      ∨ (s.takesPosts = true ∧ s.liu.failures = Config.failureLimit
        ∧ s.muteFailures = ((s.toMute .failures).raiseCause .muted).mutePurge) := by
  unfold State.muteFailures
  split
  · rename_i h; exact .inr ⟨h.1, h.2, rfl⟩
  · exact .inl rfl

/-- A request in processing is answered by its owner. -/
theorem State.request_of_inProcessing {s : State} {code : Byte} {body : List Byte} (h : s.inProcessing code body)
    (owner : State → Answer) :
    s.request code body owner = (owner s).after.complete code (owner s).outcome (owner s).body := by
  obtain ⟨hr, hp, hb⟩ := h
  simp [State.request, State.processes, hr, hp, hb]

/-- An answer with nothing changed only replies. -/
theorem State.complete_eq_replied (s : State) (code : Byte) (o : ReplyCode) (b : List Byte) :
    s.complete code o b = s.replied code o b := rfl

end Sys2Proof.Machine
end

