-- ==== Sys2Proof/Tests/Slice0.lean ====
section
/-! SUPPORT. Tests: the smoke test of `WellFormed`, small tests of one command each with results worked out in the
manual, and for every statement with premises a state and operands that meet them, clause by clause. -/

namespace Sys2Proof.Tests

open Sys2Proof Sys2Proof.Machine

/-! ### The states that the tests use -/

/-- Page 0 of Table 8-2: class 1 capable, class 5 defined and capable (priority 2, deadline 50, limit 3). -/
def page0 : Vector ClassEntry 8 :=
  ((Vector.replicate 8 ClassEntry.cleared).set 1 { ClassEntry.cleared with capable := true }).set 5
    { defined := true, capable := true, priority := 2, deadline := 50, limit := 3 }

/-- Station 7 with page 0 written. -/
def config7 : Configuration :=
  { address := some 7, rate := 0, slots := 3
    classes := (Vector.replicate 8 (Vector.replicate 8 ClassEntry.cleared)).set 0 page0 }

/-- Station 7 in a station state, with three service slots, ready to start frames, the LIU in IDLE. -/
def at7 (station : StationState) : State :=
  { State.reset with
    config := config7
    ctl := { Controller.cleared with state := station, draining := station = .leaving }
    liu := { Liu.cleared with startUpIdle := 16 } }

/-- A request of this code and body in processing. -/
def ask (s : State) (code : Byte) (body : List Byte) : State :=
  { s with port := { s.port with processing := some (.good code body) } }

/-- The state after a command. -/
def run (c : Instr) (s : State) : State :=
  match exec c s with
  | .next t => t
  | .fault f => nomatch f
  | .refused _ => s

/-- What a command replied. -/
def reply (c : Instr) (s : State) : Option (ReplyCode × List Byte) :=
  (run c s).port.pendingReply.map fun r => (r.outcome, r.body)

def id34 : Identity := { origin := 3, serial := 4 }
def id70 : Identity := { origin := 7, serial := 0 }

/-- Event 3/4 of Section 2.10: class 5, priority 2, limit 3, deadline 50, OPEN at attempt 0. -/
def open34 : Entry :=
  { id := id34, cls := 5, priority := 2, claim := none, lastClaimant := none, attempt := 0, limit := 3
    deadline := 50, payload := [0xAA, 0xBB] }

/-- Event 3/4 claimed by a station, with its timer at `remaining`. -/
def claimed34 (a : Address) (remaining : Units) : Entry :=
  { open34 with claim := some { claimant := a, remaining := remaining, expired := false } }

/-- Event 7/0, originated by station 7. -/
def open70 : Entry := { open34 with id := id70 }

/-- A held record for 3/4 won at attempt 0. -/
def record34 (st : HeldState) : HeldRecord :=
  { id := id34, attempt := 0, priority := 2, state := st, unread := 0, deadlineNoticed := false }

/-- The Origin record of 7/0. -/
def record70 (st : OriginState) : OriginRecord := { serial := 0, state := st, withdrawPending := false }

/-- Station 7 that holds 3/4 in a record state. -/
def holds34 (station : StationState) (st : HeldState) : State :=
  { at7 station with table := [claimed34 7 50], held := [record34 st] }

/-- Station 7 with its event 7/0 in the pool. -/
def live70 (station : StationState) : State :=
  { at7 station with table := [open70], origin := [record70 .live] }

/-- Station 7 with 7/0 QUEUED, its RAISE on the Line or not. -/
def queued70 (onLine : Bool) : State :=
  { at7 .active with
    origin := [record70 .queued]
    queue := [{ frame := .raise id70 5 2 3 50 [0x01], onLine := onLine }] }

/-- A header without payload. -/
def head (priority : Priority) (sender : Address) (id : Identity) (attempt : Attempt) : Header :=
  { priority := priority, load := 0, sender := sender, id := id, attempt := attempt, payload := [] }

/-- The state while the LIU receives a peer's frame. -/
def receiving (s : State) : State := { s with liu := { s.liu with phase := .receiving } }

/-- The state with a frame of this station on the Line, as composed. -/
def sending (s : State) (f : Frame) : State :=
  { s with image := some { frame := f, bits := [] }, liu := { s.liu with phase := .arbitrating } }

/-- The frame of the RAISE of 7/0. -/
def raise70 : Frame :=
  { head := { priority := 2, load := 0, sender := 7, id := id70, attempt := 0, payload := [0x01] }
    body := .raise 5 3 50 }

/-! ### WellFormed refuses an ill-formed term, for each check -/

/-- 33 bytes, one more than a request body has (R173). -/
def body33 : List Byte := List.replicate 33 0

/-- A header with 9 payload bytes, one more than a frame carries (Table 3-6). -/
def head9 : Header := { head 2 3 id34 0 with payload := List.replicate 9 0 }

theorem test_wf_refuses_long_bodies :
    ∀ c ∈ [Instr.nop body33, .setup body33, .classPage body33, .start body33, .raiseRequest body33,
      .withdrawRequest body33, .take body33, .finishRequest body33, .releaseRequest body33, .notice body33,
      .status body33, .lookup body33, .find body33, .leave body33, .rejoin body33, .restart body33],
      c.wf = false := by decide

theorem test_wf_accepts_bodies_of_32 :
    (Instr.setup (List.replicate 32 0)).wf = true ∧ (Instr.restart []).wf = true := by decide

theorem test_wf_refuses_long_payloads :
    ∀ c ∈ [Instr.raiseFrame head9 5 3 50 .dominant, .bidFrame head9 .dominant, .finishFrame head9 1 .dominant,
      .releaseFrame head9 0 .dominant, .lapseFrame head9 .dominant, .withdrawFrame head9 .dominant,
      .freshJoin head9 .dominant, .join head9 .dominant,
      .restateFrame head9 5 3 50 false 0 0 .dominant],
      c.wf = false := by decide

theorem test_wf_accepts_payload_of_8 :
    (Instr.raiseFrame { head9 with payload := List.replicate 8 0 } 5 3 50 .dominant).wf = true := by decide

/-! ### Commands, with results that the manual works out -/

/-- Table 8-2: START before SETUP is answered STATE. -/
theorem test_start_before_setup : reply (.start []) State.reset = some (.state, []) := by decide

/-- Table 8-2: SETUP with 5 slots is answered BADARG and writes nothing. -/
theorem test_setup_five_slots :
    reply (.setup [12, 2, 5]) State.reset = some (.badArg, [])
      ∧ (run (.setup [12, 2, 5]) State.reset).config.address = none := by decide

/-- Table 8-2: SETUP of address 12, rate 2, 2 slots. -/
theorem test_setup_ok :
    reply (.setup [12, 2, 2]) State.reset = some (.ok, [])
      ∧ (run (.setup [12, 2, 2]) State.reset).config.address = some 12
      ∧ (run (.setup [12, 2, 2]) State.reset).config.slots = 2 := by decide

/-- The CLASS body of Table 8-2, with the deadline of class 6 given. -/
def classBody (deadline6 : Byte) : List Byte :=
  [0, 0x07, 1, 1, 0x47, 1, 1, 0x07, 1, 1, 0x07, 1, 1, 0x07, 1, 1, 0xC2, 50, 3, 0x87, deadline6, 1, 0x07, 1, 1]

/-- Table 8-2: a deadline of 0 in class 6 refuses the page. -/
theorem test_class_refused_whole : reply (.classPage (classBody 0)) State.reset = some (.badArg, []) := by decide

/-- Table 8-2: the page is written. -/
theorem test_class_written :
    reply (.classPage (classBody 1)) State.reset = some (.ok, [])
      ∧ ClassTable.entry (run (.classPage (classBody 1)) State.reset).config.classes 5
        = { defined := true, capable := true, priority := 2, deadline := 50, limit := 3 }
      ∧ (ClassTable.entry (run (.classPage (classBody 1)) State.reset).config.classes 1).capable = true := by decide

/-- Table 9-12, transaction 1: STATUS after pin reset shows state 0 and address 0. -/
theorem test_status_after_reset :
    reply (.status []) State.reset = some (.ok, [0, 0, 0, 0, 0, 0, 0, 0, 0, 0]) := by decide

/-- Table 9-12, transaction 1: the first transaction shifts out NONE. -/
theorem test_first_transaction_none : (run .selFallingEdge State.reset).sdo = some [0x69] := by decide

/-- R170: bits are shifted most significant first, an incomplete byte is discarded, and fill bytes of 00h follow. -/
theorem test_bits_of_a_transaction :
    bytesOfBits [false, false, false, false, true, false, false, true, true, true] = [0x09]
      ∧ (run .selFallingEdge State.reset).sdoBit 1 = some true
      ∧ (run .selFallingEdge State.reset).sdoBit 8 = some false ∧ State.reset.sdoBit 0 = none := by decide

/-- Table 9-12, transaction 5: START with length 40 is malformed. -/
theorem test_length_40_malformed :
    Request.ofBytes [3, 40] = .malformed 3 ∧ reply (.malformed [3, 40]) State.reset = some (.malformed, []) := by
  decide

/-- Table 9-12, transactions 9 and 10: after a restart the first request is discarded, and NOTICE then pops the
STATION notice, in state 1 with causes 80h. -/
theorem test_restart_then_notice :
    (run (.selRisingEdge [9, 0]) (run .selFallingEdge (run (.restart []) (at7 .active)))).port.processing = none
      ∧ reply (.notice []) { run (.restart []) (at7 .active) with port := Port.cleared false }
        = some (.ok, [7, 1, 0x80]) := by decide

/-- Section 6.2.1: the counter at 254 with serials 254 and 0 in use gives 255, and then 1. -/
theorem test_serials_wrap :
    freeSerial [⟨254, .live, false⟩, ⟨0, .closed .withdrawn, false⟩] 254 256 = 255
      ∧ freeSerial [⟨254, .live, false⟩, ⟨0, .closed .withdrawn, false⟩, ⟨255, .queued, false⟩] 0 256 = 1 := by
  decide

/-- Section 3.5.1: the three arbitration fields. -/
theorem test_arbitration_fields :
    Frame.arbitrationField { head := head 2 5 { origin := 5, serial := 20 } 0, body := .raise 5 3 50 } = 0xAA05
      ∧ Frame.arbitrationField { head := head 2 7 id34 0, body := .bid } = 0xA807
      ∧ Frame.arbitrationField { head := { head 2 12 id34 0 with load := 1 }, body := .bid } = 0xA84C := by decide

/-- Table 3-10: the lengths of frames through the check field. -/
theorem test_frame_lengths :
    (Frame.spanBits { head := head 2 7 id34 0, body := .bid }).length = 54
      ∧ (Frame.spanBits { head := head 0 7 id70 0, body := .join true }).length = 55
      ∧ (Frame.spanBits { head := head 2 7 id34 0, body := .finish 1 }).length = 58
      ∧ (Frame.spanBits { head := head 2 7 id70 0, body := .restate 5 3 50 false 0 0 }).length = 86 := by decide +kernel

/-- Section 3.5.1: six dominant bits in station 7's field draw one inserted recessive bit. -/
theorem test_inserted_bit :
    insertEdges (false :: bitsOf 16 0xA807)
      = [false, true, false, true, false, true, false, false, false, false, false, false, true, false, false, true, true, true] := by
  decide

/-- Section 2.10.3: station 3's LAPSE reopens 3/4 at attempt 1 with last claimant 7; the record of station 7 closes
and its FINISH is purged. -/
theorem test_lapse_beats_finish :
    let s : State := { holds34 .active .ending with
      queue := [{ frame := .finish id34 2 0 1 [], onLine := false }] }
    let t := run (.lapseFrame (head 2 3 id34 0) .dominant) (receiving s)
    t.table = [{ open34 with attempt := 1, lastClaimant := some 7 }]
      ∧ t.held = [{ record34 .closed with unread := 1 }] ∧ t.queue = [] ∧ t.notices = [.revoked id34 .lapsed] := by
  decide

/-- Section 2.10.2: station 7's FINISH is taken: the entry and the record are gone, and nothing is told. -/
theorem test_own_finish_taken :
    let f : Frame := { head := head 2 7 id34 0, body := .finish 1 }
    let s : State := { holds34 .active .ending with queue := [{ frame := .finish id34 2 0 1 [], onLine := true }] }
    let t := run (.finishFrame f.head 1 .dominant) (sending s f)
    t.table = [] ∧ t.held = [] ∧ t.queue = [] ∧ t.notices = [] := by decide

/-- Section 10.5: FINISH for a CLOSED record is answered LATE; the pop of the last notice frees the slot. -/
theorem test_late_finish_and_pop :
    let s : State := { at7 .active with
      held := [{ record34 .closed with unread := 1 }], notices := [.revoked id34 .lapsed] }
    reply (.finishRequest [3, 4, 1]) s = some (.late, []) ∧ reply (.notice []) s = some (.ok, [6, 3, 4, 0])
      ∧ (run (.notice []) s).held = [] := by decide

/-- Table 3-8, case C: a RAISE that draws ACCEPT and OBJECT is REFUSED, and its origin told CAPACITY. -/
theorem test_raise_refused :
    let t := run .frameRefused (sending (queued70 true) raise70)
    t.origin = [record70 (.closed .refused)] ∧ t.notices = [.refused id70 .capacity] ∧ t.liu.failures = 0 := by
  decide +kernel

/-- Table 3-8, case D: a corrupted RAISE stays queued, and the failure count is 1. -/
theorem test_raise_corrupted :
    let t := run (.frameCorrupted .objectionRun) (sending (queued70 true) raise70)
    t.queue = (queued70 false).queue ∧ t.liu.failures = 1 := by decide

/-- R127: an undefined class is answered BADARG, and a RAISE of class 5 takes its priority from the Class Table. -/
theorem test_raise_request :
    reply (.raiseRequest [1]) (at7 .active) = some (.badArg, [])
      ∧ reply (.raiseRequest [5, 0x01]) (at7 .active) = some (.ok, [0])
      ∧ (run (.raiseRequest [5, 0x01]) (at7 .active)).queue
        = [{ frame := .raise id70 5 2 3 50 [0x01], onLine := false }] := by decide

/-- R101: in ACTIVE a taken RAISE of a capable class draws a BID. -/
theorem test_raise_draws_bid :
    (run (.raiseFrame (head 2 3 id34 0) 5 3 50 .dominant) (receiving (at7 .active))).queue
      = [{ frame := .bid id34 2 0, onLine := false }] := by decide

/-- R107: TAKE replies the entry. -/
theorem test_take :
    reply (.take []) (holds34 .active .awaiting) = some (.ok, [3, 4, 5, 2, 0, 3, 50, 0xAA, 0xBB]) := by decide

/-- R192, R193: LOOKUP of a claimed entry, and past the end. -/
theorem test_lookup :
    reply (.lookup [0]) (holds34 .active .awaiting)
        = some (.ok, [3, 4, 5, 2, 1, 7, 0, 0, 3, 50, 50, 0xAA, 0xBB])
      ∧ reply (.lookup [1]) (holds34 .active .awaiting) = some (.atEnd, []) := by decide

/-- R196: FIND by class and state, and END. -/
theorem test_find :
    (reply (.find [0, 5, 0xFF, 1, 7, 7]) (holds34 .active .awaiting)).map Prod.fst = some .ok
      ∧ reply (.find [0, 5, 0xFF, 0, 7, 7]) (holds34 .active .awaiting) = some (.atEnd, []) := by decide

/-- R11, R16: the tick that brings a timer to 0 at a station that is not the claimant sets the mark, and in ACTIVE a
LAPSE is posted (R17). -/
theorem test_tick_expires :
    let t := run .deadlineTick { at7 .active with table := [claimed34 12 1] }
    t.table.map Entry.isExpired = [true] ∧ t.queue = [{ frame := .lapse id34 2 0, onLine := false }] := by decide

/-- R15: at the claimant the tick queues a DEADLINE notice instead. -/
theorem test_tick_notifies :
    (run .deadlineTick { holds34 .active .inService with table := [claimed34 7 1] }).notices = [.deadline id34] := by
  decide

/-- R143: START_UP_IDLE posts the fresh JOIN of a station in IDLE_WAIT. -/
theorem test_join_posted :
    (run .startUpIdle (run (.start []) (at7 .config))).queue = [{ frame := .join true, onLine := false }] := by decide

/-- R74: a stuck Line is reported once. -/
theorem test_stuck_line :
    (run .stuckLine (at7 .active)).notices = [.station 0x20]
      ∧ (run .stuckLine (at7 .active)).liu.phase = .recovering ∧ (run .stuckLine (at7 .active)).attn = true := by decide

/-- R150, R151: LEAVE with nothing to do detaches at once. -/
theorem test_leave_at_once : (run (.leave []) (at7 .active)).station = .detached := by decide

/-- Section 3.5.1: a station that is ready joins the start edge, loses arbitration to a BID of the same priority, and
applies it; its RAISE stays queued. -/
theorem test_joined_start_is_lost :
    let s : State := { queued70 false with table := [open34] }
    let t := run (.bidFrame (head 2 12 id34 0) .dominant) s
    t.table = [claimed34 12 50] ∧ t.queue = (queued70 false).queue ∧ t.image = none ∧ t.liu.failures = 0 := by
  decide +kernel

/-- The LIU in a spacing, after a number of recessive samples. -/
def spacing (n : Nat) : State :=
  { at7 .active with liu := { (at7 .active).liu with phase := .spacing, recessive := n } }

/-- R60: an edge after six recessive samples of the spacing starts no frame; after seven it does. -/
theorem test_early_edge :
    (run (.frameStart .peerEdge) (spacing 6)).liu.phase = .spacing
      ∧ (run (.frameStart .peerEdge) (spacing 6)).liu.recessive = 0
      ∧ (run (.frameStart .peerEdge) (spacing 7)).liu.phase = .receiving := by decide

/-- R60: the eighth recessive sample of the spacing brings the LIU to IDLE. -/
theorem test_spacing_of_eight :
    (spacing 7).bitTime.liu.phase = .idle ∧ (spacing 6).bitTime.liu.phase = .spacing := by decide

/-- R74: twelve dominant samples in a row are a stuck Line; eleven are not. -/
theorem test_twelve_dominant_samples :
    (run (.frameTakenNowhere (List.replicate 12 false) .dominant) (receiving (at7 .active))).notices = [.station 0x20]
      ∧ (run (.frameTakenNowhere (List.replicate 12 false) .dominant) (receiving (at7 .active))).liu.phase = .recovering
      ∧ (run (.frameTakenNowhere (List.replicate 11 false) .dominant) (receiving (at7 .active))).notices = [] := by
  decide

/-- The bits of a BID with sender 63, ten dominant samples before its slots. -/
def badSenderBits : List Bool :=
  Frame.wireBits { head := head 2 63 id34 0, body := .bid } ++ true :: List.replicate 10 false

/-- R74: with ten dominant samples at the end of the span the two slots, both dominant, make twelve; a recessive ACCEPT slot
resets the count. -/
theorem test_stuck_in_the_slots :
    (run (.frameTakenNowhere badSenderBits .dominant) (receiving (at7 .active))).notices = [.station 0x20]
      ∧ (run (.frameTakenNowhere badSenderBits .dominant) (receiving (at7 .active))).liu.phase = .recovering
      ∧ (run (.frameTakenNowhere badSenderBits .recessive) (receiving (at7 .active))).liu.phase = .spacing := by
  decide +kernel

/-- R60: with the last bit of its frame the transmitter enters SLOTS, and the idle count is 0. -/
theorem test_idle_count_at_slots :
    let s := run (.frameStart .alone) (queued70 false)
    let n := s.image.elim 0 fun i => i.bits.length - 1
    let t := { s with liu := { s.liu with phase := .sending, txSent := n, idle := 3 } }.bitTime
    t.liu.phase = .slots ∧ t.liu.idle = 0 := by decide +kernel

/-- R36: the entry is abandoned when the raised attempt equals the limit, and reopened when it passes it. -/
theorem test_reopening_by_equality :
    let at_ (a : Attempt) : State := receiving { at7 .active with table := [{ claimed34 12 50 with attempt := a }] }
    (run (.releaseFrame (head 2 12 id34 2) 0 .dominant) (at_ 2)).table = []
      ∧ (run (.releaseFrame (head 2 12 id34 3) 0 .dominant) (at_ 3)).table.map Entry.attempt = [4] := by decide

/-! ### For each statement, a state and operands that meet its premises, clause by clause -/

/-- The whole law, evaluated. -/
def lawful (s : State) : Bool :=
  decide s.TableLaw && decide s.QueueLaw && decide s.StandingLaw && decide s.OriginLaw && decide s.HeldLaw
    && decide s.OwnEventsLaw && decide s.NoticeLaw && decide s.ControllerLaw && s.queue.all s.standsFor
    && s.imageMatches

/-- What `lawful` evaluates is `State.Lawful`. -/
theorem lawful_iff (s : State) : lawful s = true ↔ s.Lawful := by
  simp only [lawful, State.Lawful, Bool.and_eq_true, decide_eq_true_eq, List.all_eq_true, and_assoc]

/-- With this request in processing, the state is lawful and the request is taken. -/
def ready (s : State) (code : Byte) (body : List Byte) : Bool :=
  lawful (ask s code body) && decide ((ask s code body).inProcessing code body)

theorem witness_StepRunsFrontCommand :
    ({ at7 .active with pending := [.pinReset, .deadlineTick] } : State).pending = .pinReset :: [.deadlineTick] := rfl

theorem witness_PinResetClearsEveryBlock :
    (run .pinReset { at7 .active with port := Port.cleared true }).inReset = true
      ∧ (run .pinReset { at7 .active with port := Port.cleared true }).port.transaction = .closed
      ∧ (run .pinReset { at7 .active with port := Port.cleared true }).port.selLow = true := by decide

theorem witness_SelEdgesOpenAndCloseTransactions_fall :
    (at7 .active).inReset = false ∧ (at7 .active).port.selLow = false
      ∧ (ask (at7 .active) 0 []).port.processing.isSome = true
      ∧ (run (.nop []) (at7 .active)).port.processing = none
      ∧ (run (.nop []) (at7 .active)).port.pendingReply = some { code := 0, outcome := .ok, body := [] }
      ∧ (at7 .active).port.processing = none ∧ (at7 .active).port.pendingReply = none := by decide

theorem witness_SelEdgesOpenAndCloseTransactions_rise :
    (run .selFallingEdge (at7 .active)).port.selLow = true
      ∧ (run .selFallingEdge (at7 .active)).port.transaction = .opened
      ∧ (run .selFallingEdge (at7 .active)).port.restartClose = false
      ∧ (run .selFallingEdge (run (.restart []) (at7 .active))).port.restartClose = true
      ∧ (run .selFallingEdge (run (.restart []) (at7 .active))).port.transaction = .opened
      ∧ (run .selFallingEdge (ask (at7 .active) 0 [])).port.transaction = .busy := by decide

/-- The four malformed cases at their boundaries, and the longest request that is not malformed. -/
theorem witness_MalformedRequestAnswered :
    Request.ofBytes [] = .malformed 0xFF ∧ Request.ofBytes [15] = .malformed 15
      ∧ Request.ofBytes [16, 0] = .malformed 16 ∧ Request.ofBytes [15, 33] = .malformed 15
      ∧ Request.ofBytes (15 :: 32 :: List.replicate 31 0) = .malformed 15
      ∧ Request.ofBytes (15 :: 32 :: List.replicate 32 0) = .good 15 (List.replicate 32 0)
      ∧ Request.ofBytes [15, 0, 1] = .good 15 [] := by decide

/-- Every request is taken outside pin reset, in CONFIG and in ACTIVE, with a body of 0 and of 32 bytes. -/
theorem witness_inProcessing :
    ∀ code ∈ List.range 16, ∀ n ∈ [0, 32], ∀ st ∈ [StationState.config, .active],
      (ask (at7 st) (BitVec.ofNat 8 code) (List.replicate n 0)).inProcessing (BitVec.ofNat 8 code)
        (List.replicate n 0) := by decide

/-- The addresses 1 and 62, rate 3 and 1 and 4 slots are accepted; 0 and 63, rate 4 and 0 and 5 slots are not. -/
theorem witness_SetupWritesAllOrNothing :
    (at7 .active).station ≠ .config ∧ State.reset.station = .config
      ∧ setupOperands [1, 3, 1] = some (1, 3, 1) ∧ setupOperands [62, 0, 4] = some (62, 0, 4)
      ∧ setupOperands [0, 3, 1] = none ∧ setupOperands [63, 3, 1] = none ∧ setupOperands [64, 3, 1] = none
      ∧ setupOperands [1, 4, 1] = none ∧ setupOperands [1, 3, 0] = none ∧ setupOperands [1, 3, 5] = none := by decide

/-- A page that is accepted, and the page number 8, a reserved flag, a deadline of 0, a limit of 0 and one of 8. -/
theorem witness_ClassWritesOnePage :
    (classOperands (classBody 1)).isSome = true ∧ (classOperands (7 :: (classBody 1).tail)).isSome = true
      ∧ classOperands (8 :: (classBody 1).tail) = none ∧ classOperands (classBody 0) = none
      ∧ classOperands ((classBody 1).set 22 0x0F) = none ∧ classOperands ((classBody 1).set 24 0) = none
      ∧ classOperands ((classBody 1).set 24 8) = none := by decide

theorem witness_StartAndRejoinEnterListen_start :
    (ask State.reset 3 []).inProcessing 3 [] ∧ State.reset.config.address = none
      ∧ (ask (at7 .config) 3 []).inProcessing 3 [] ∧ (at7 .config).config.address ≠ none
      ∧ (at7 .config).station = .config ∧ (at7 .mute).station ≠ .config := by decide

/-- Class 63, 8 payload bytes, the 7th record and the 47th entry pass; an undefined class and a ninth byte do not. -/
theorem witness_RaiseRequestChecked :
    ready (at7 .active) 4 (5 :: List.replicate 8 0) = true ∧ ready (at7 .active) 4 [] = true
      ∧ ready (at7 .mute) 4 [5] = true ∧ ready (live70 .active) 4 [63, 1] = true
      ∧ (ClassTable.entry config7.classes 5).defined = true ∧ (ClassTable.entry config7.classes 63).defined = false
      ∧ (live70 .active).origin.length < 8 ∧ (live70 .active).table.length < 48 := by decide

/-- Eight CLOSED records fill the Origin List. -/
def full8 : State :=
  { at7 .active with
    origin := (List.range 8).map fun n => ⟨BitVec.ofNat 8 n, .closed .withdrawn, false⟩
    notices := (List.range 8).map fun n => .withdrawn { origin := 7, serial := BitVec.ofNat 8 n } }

theorem witness_RaiseRequestChecked_full :
    ready full8 4 [5] = true ∧ full8.origin.length = 8 ∧ full8.station = .active := by decide

theorem witness_WithdrawRequestByRecord :
    ready State.reset 5 [0] = true ∧ ready (at7 .active) 5 [] = true ∧ ready (at7 .active) 5 [0] = true
      ∧ ready (queued70 false) 5 [0] = true ∧ (queued70 false).ownOnLine 0 = false
      ∧ ready (live70 .active) 5 [0] = true ∧ (live70 .active).takesPosts = true
      ∧ (live70 .active).ownOnLine 0 = false ∧ ready (live70 .mute) 5 [0] = true
      ∧ ready full8 5 [7] = true ∧ full8.origin.head?.map OriginRecord.isClosed = some true := by decide

/-- Station 7 with the RAISE of 7/0 on the Line. -/
def raising70 : State := sending (queued70 true) raise70

/-- The same, with the host's withdrawal pending. -/
def raising70Withdrawn : State := run (.withdrawRequest [0]) raising70

/-- Station 7 with 7/0 WITHDRAWING. -/
def withdrawing70 : State := run (.withdrawRequest [0]) (live70 .active)

/-- Station 7 with the RESTATE of 7/0 on the Line. -/
def restating70 : State :=
  sending { live70 .active with queue := [{ frame := .restate id70, onLine := true }] }
    { head := { raise70.head with payload := [0xAA, 0xBB] }, body := .restate 5 3 50 false 0 0 }

theorem witness_WithdrawRequestByRecord_onLine :
    ready raising70 5 [0] = true ∧ raising70.ownOnLine 0 = true ∧ ready raising70Withdrawn 5 [0] = true
      ∧ raising70Withdrawn.origin.map OriginRecord.withdrawPending = [true]
      ∧ ready withdrawing70 5 [0] = true ∧ withdrawing70.origin = [record70 .withdrawing]
      ∧ ready restating70 5 [0] = true ∧ restating70.ownOnLine 0 = true
      ∧ restating70.origin = [record70 .live] := by decide

theorem witness_OfferIsMostUrgentAwaiting :
    (holds34 .active .inService).offer = none ∧ (holds34 .active .inService).attn = false
      ∧ (holds34 .active .awaiting).offer = some (record34 .awaiting) ∧ (holds34 .active .awaiting).attn = true
      ∧ offerOf [{ record34 .awaiting with priority := 1 }, record34 .inService]
        = some { record34 .awaiting with priority := 1 }
      ∧ offerOf [record34 .awaiting, record34 .inService] = none := by decide

theorem witness_TakeServesTheOffer :
    ready (at7 .active) 6 [] = true ∧ (at7 .active).offer = none ∧ ready (holds34 .active .awaiting) 6 [] = true
      ∧ (holds34 .active .awaiting).offer = some (record34 .awaiting)
      ∧ findEntry (holds34 .active .awaiting).table id34 = some (claimed34 7 50) := by decide

/-- The result 15 and 4 payload bytes are the last in range; a record in each state. -/
theorem witness_FinishAndReleaseRequestsByRecord_finish :
    ready (holds34 .active .inService) 7 [3, 4, 15, 0, 0, 0, 0] = true
      ∧ (holds34 .active .inService).takesPosts = true
      ∧ ready (holds34 .active .inService) 7 [3, 4, 16] = true ∧ ready (holds34 .active .inService) 7 [3, 4] = true
      ∧ ready (holds34 .active .inService) 7 [3, 4, 15, 0, 0, 0, 0, 0] = true
      ∧ ready (holds34 .active .inService) 7 [3, 5, 0] = true
      ∧ ready (holds34 .active .awaiting) 7 [3, 4, 0] = true ∧ ready (holds34 .mute .inService) 7 [3, 4, 0] = true
      ∧ ready (holds34 .active .ending) 7 [3, 4, 0] = true := by decide

/-- Station 7 whose record for 3/4 is CLOSED, with its two notices unread (Section 10.5). -/
def closed34 : State :=
  { at7 .active with
    table := [{ open34 with attempt := 1, lastClaimant := some 7 }]
    held := [{ record34 .closed with unread := 2, deadlineNoticed := true }]
    notices := [.deadline id34, .revoked id34 .lapsed] }

theorem witness_FinishAndReleaseRequestsByRecord_release :
    ready closed34 8 [3, 4] = true ∧ ready closed34 7 [3, 4, 0] = true
      ∧ closed34.held.map HeldRecord.state = [.closed] ∧ ready (holds34 .leaving .inService) 8 [3, 4] = true
      ∧ (holds34 .leaving .inService).takesPosts = true ∧ ready (holds34 .mute .awaiting) 8 [3, 4] = true
      ∧ ready (holds34 .active .ending) 8 [3, 4] = true ∧ ready (holds34 .active .ending) 8 [3] = true
      ∧ ready (at7 .active) 8 [3, 4] = true ∧ ready State.reset 8 [3, 4] = true := by decide

/-- A final notice, a held notice that is not the last and one that is, and a STATION notice, at the front. -/
theorem witness_NoticePopsTheFront :
    ready (at7 .active) 9 [] = true ∧ (at7 .active).notices = [] ∧ ready full8 9 [] = true
      ∧ (Notice.withdrawn id70).finalFor id70 = true ∧ ready closed34 9 [] = true
      ∧ (Notice.deadline id34).deadlineFor id34 = true ∧ ready (run (.notice []) closed34) 9 [] = true
      ∧ (run (.notice []) closed34).held.map HeldRecord.unread = [1]
      ∧ (run (.notice []) closed34).notices = [.revoked id34 .lapsed]
      ∧ (Notice.revoked id34 .lapsed).revokedFor id34 = true
      ∧ ready { at7 .active with notices := [.station 1] } 9 [] = true := by decide

/-- Positions 47 and 48, with a table of one entry. -/
theorem witness_ReadingRequestsOnlyReply :
    reply (.lookup [47]) (live70 .active) = some (.atEnd, []) ∧ reply (.lookup [48]) (live70 .active) = some (.badArg, [])
      ∧ (live70 .active).table[0]? = some open70 := by decide

/-- Each byte of FIND at its last value in range, and one past it. -/
theorem witness_FindGivesTheFirstFit :
    (findOperands [47, 63, 62, 1, 62, 7]).isSome = true ∧ (findOperands [0, 0, 1, 0, 1, 0]).isSome = true
      ∧ (findOperands [0, 0xFF, 0xFF, 0xFF, 0xFF, 7]).isSome = true ∧ findOperands [48, 63, 62, 1, 62, 7] = none
      ∧ findOperands [47, 64, 62, 1, 62, 7] = none ∧ findOperands [47, 63, 63, 1, 62, 7] = none
      ∧ findOperands [47, 63, 0, 1, 62, 7] = none ∧ findOperands [47, 63, 62, 2, 62, 7] = none
      ∧ findOperands [47, 63, 62, 1, 0, 7] = none ∧ findOperands [47, 63, 62, 1, 62, 8] = none := by decide

/-- ACTIVE with an AWAITING record, a LIVE record and a queued BID off the Line. -/
def busy7 : State :=
  { at7 .active with
    table := [claimed34 7 50, open70], held := [record34 .awaiting], origin := [record70 .live]
    queue := [{ frame := .bid id70 2 0, onLine := false }] }

theorem witness_LeaveStartsTheDrain :
    ready busy7 0x0D [] = true ∧ busy7.station = .active ∧ busy7.ownOnLine 0 = false
      ∧ ready (queued70 false) 0x0D [] = true ∧ ready raising70 0x0D [] = true
      ∧ ready (at7 .leaving) 0x0D [] = true := by decide

theorem witness_StartAndRejoinEnterListen_rejoin :
    ready (at7 .detached) 0x0E [] = true ∧ ready (at7 .mute) 0x0E [] = true ∧ ready (live70 .active) 0x0E [] = true
      ∧ ready { withdrawing70 with ctl := { Controller.cleared with state := .mute }, queue := [] } 0x0E [] = true := by
  decide

theorem witness_RestartWaitsForOwnFrame :
    (ask State.reset 0x0F []).inProcessing 0x0F [] ∧ State.reset.station = .config ∧ (at7 .active).image = none
      ∧ raising70.image ≠ none ∧ raising70.ctl.restartWaiting = false ∧ raising70.liuHeld = false
      ∧ (run (.restart []) raising70).ctl.restartWaiting = true
      ∧ (run (.restart []) raising70).inReset = false ∧ (run (.restart []) raising70).liuHeld = false
      ∧ (run (.restart []) raising70).image.map TransmitImage.frame = some raise70
      ∧ (run (.restart []) raising70).liu.phase = .arbitrating := by decide

theorem witness_RestartWaitsForOwnFrame_proceeds :
    (at7 .active).inReset = false ∧ (at7 .detached).station ≠ .config ∧ (at7 .active).image = none
      ∧ (at7 .active).port.processing = none
      ∧ ({ run (.restart []) raising70 with image := none } : State).ctl.restartWaiting = true := by decide

theorem witness_DeadlineTickCountsDown :
    (holds34 .active .inService).inReset = false ∧ (at7 .active).station = .active
      ∧ framePlaced (at7 .active).queue .lapse = none ∧ lawful (holds34 .mute .inService) = true ∧ lawful (holds34 .active .inService) = true ∧ lawful ({ at7 .active with table := [claimed34 12 1] } : State) = true := by decide

/-- Station 7 with a LAPSE of 7/0 queued, and the older 3/4 not yet marked. -/
def lapseQueued : State :=
  { at7 .active with
    table := [claimed34 12 1, { open70 with claim := some { claimant := 12, remaining := 0, expired := true } }]
    origin := [record70 .live]
    queue := [{ frame := .lapse id70 2 0, onLine := false }] }

theorem witness_ExpiryActsByClaimant :
    lawful (holds34 .active .inService) = true ∧ (claimed34 7 50) ∈ (holds34 .active .inService).table
      ∧ lawful ({ at7 .active with table := [claimed34 12 1] } : State) = true
      ∧ lawful ({ at7 .mute with table := [claimed34 12 1] } : State) = true
      ∧ lawful lapseQueued = true ∧ lapseQueued.table.any (fun e => e = claimed34 12 1) = true
      ∧ framePlaced lapseQueued.queue .lapse = some { frame := .lapse id70 2 0, onLine := false } := by decide

/-- R17: the queued LAPSE of 7/0 is replaced by one for 3/4, which is older, when the mark of 3/4 is set. -/
theorem test_lapse_is_replaced :
    (run (.expiredMark id34) lapseQueued).queue = [{ frame := .lapse id34 2 0, onLine := false }] := by decide

/-- A queue with and without a STATION notice. -/
theorem witness_CauseJoinsTheStationNotice :
    (∀ n ∈ (at7 .active).notices, ∀ causes : Byte, n ≠ .station causes)
      ∧ (∀ n ∈ closed34.notices ++ [.withdrawn id70], ∀ other : Byte, n ≠ .station other) := by
  constructor
  · intro n hn; cases hn
  · intro n hn other h
    simp [closed34] at hn
    rcases hn with rfl | rfl | rfl <;> cases h

/-- Station 7 in LISTEN, in a join stage and a line phase. -/
def listening (stage : JoinStage) (phase : LinePhase) : State :=
  { at7 .listen with
    ctl := { Controller.cleared with state := .listen, joinStage := some stage }
    liu := { Liu.cleared with phase := phase } }

/-- In reset; ready; the divider below and at its limit; held; sending; the eighth sample of a spacing, the sixteenth of a
recovery and of the start-up count, and the thirty-second of the idle count. -/
theorem witness_BitTimePassesOnEmptyQueue :
    (run .pinReset (at7 .active)).inReset = true ∧ lawful (run .pinReset (at7 .active)) = true
      ∧ lawful (queued70 false) = true ∧ (queued70 false).readyToStart = true ∧ (queued70 false).liu.phase = .idle
      ∧ lawful (spacing 7) = true ∧ (spacing 7).CountLaw ∧ (spacing 7).divider + 320 < 160000
      ∧ lawful ({ spacing 7 with divider := 159999 } : State) = true ∧ (at7 .detached).liuHeld = true
      ∧ lawful (run (.frameStart .alone) (queued70 false)) = true
      ∧ (run (.frameStart .alone) (queued70 false)).image.map (fun i => i.bits.head?) = some (some false)
      ∧ (run (.frameStart .alone) (queued70 false)).liu.phase = .arbitrating
      ∧ (let s := listening .idleWait .recovering
         lawful { s with liu := { s.liu with recessive := 15 } } = true)
      ∧ (let s := listening .idleWait .spacing
         lawful { s with liu := { s.liu with startUpIdle := 15 } } = true)
      ∧ (let s := listening .window .idle
         lawful { s with liu := { s.liu with idle := 31 } } = true) := by decide +kernel

/-- On an idle Line; at an edge after the seventh recessive sample, and before it; and not ready. -/
theorem witness_FrameStartSelectsLowestKey :
    (queued70 false).liuHeld = false ∧ (queued70 false).liu.phase = .idle ∧ (queued70 false).takesPosts = true
      ∧ (queued70 false).liu.startUpIdle = 16 ∧ (queued70 false).frameOnLine = none
      ∧ (queued70 false).image = none ∧ (queued70 false).candidates.length = 1
      ∧ (spacing 7).liu.firstSpacing = false ∧ 7 ≤ (spacing 7).liu.recessive ∧ (spacing 7).candidates = []
      ∧ (spacing 6).liu.recessive < 7 ∧ (spacing 6).liu.phase = .spacing ∧ (spacing 6).image = none := by decide

theorem witness_StartedFrameIsComposed :
    lawful (queued70 false) = true ∧ (queued70 false).candidates.length = 1 ∧ lawful restating70 = true
      ∧ restating70.candidates.length = 1 := by decide

theorem witness_JoinedStartIsContended :
    (queued70 false).liuHeld = false ∧ (queued70 false).liu.seesStartEdge = true ∧ (queued70 false).readyToStart = true
      ∧ Frame.arbitrationField { head := head 2 12 id34 0, body := .bid } < raise70.arbitrationField
      ∧ raise70.arbitrationField ≤ Frame.arbitrationField { head := head 7 12 id34 0, body := .bid } := by decide

/-- A frame with this header, of a peer, is one that the station hears. -/
def peer (s : State) (h : Header) : Bool := decide (s.hears h ∧ h.sender ≠ s.address)

/-- 47 entries, all of other identities, leave room for one more; 48 leave none. -/
def filled (n : Nat) : State :=
  receiving { at7 .active with
    table := (List.range n).map fun k => { open34 with id := { origin := 12, serial := BitVec.ofNat 8 k } } }

theorem witness_RaiseFrameInsertsAtEnd :
    peer (filled 47) (head 2 3 id34 0) = true ∧ (head 2 3 id34 0).sender = id34.origin
      ∧ (head 2 3 id34 0).attempt = 0 ∧ (3 : Limit) ≠ 0 ∧ (50 : Units) ≠ 0
      ∧ (filled 47).table.length < 48 ∧ (∀ e ∈ (filled 47).table, e.id ≠ id34)
      ∧ peer (filled 48) (head 2 3 id34 0) = true ∧ 48 ≤ (filled 48).table.length
      ∧ peer (filled 1) (head 2 12 { origin := 12, serial := 0 } 0) = true
      ∧ (∃ e ∈ (filled 1).table, e.id = { origin := 12, serial := 0 }) := by decide

/-- Station 7 receiving, with 3/4 OPEN. -/
def hears34 : State := receiving { at7 .active with table := [open34] }

/-- Station 7 receiving, with 3/4 claimed by station 12. -/
def hears34Claimed : State := receiving { at7 .active with table := [claimed34 12 50] }

/-- The same at the last allowed attempt. -/
def hears34Last : State := receiving { at7 .active with table := [{ claimed34 12 50 with attempt := 2 }] }

/-- Station 7, the claimant of its own event 7/0, receiving. -/
def hears70 : State :=
  receiving { at7 .active with
    table := [{ open70 with claim := some { claimant := 12, remaining := 5, expired := false } }]
    origin := [record70 .live] }

/-- A frame is received, too, whose start edge comes in IDLE or late in the spacing while the station is not ready. -/
theorem witness_receives_at_the_edge :
    (at7 .active).receives ∧ (spacing 7).receives ∧ ¬ (spacing 6).receives ∧ ¬ (queued70 false).receives := by decide

theorem witness_BidFrameClaimsTheEntry :
    peer hears34 (head 2 12 id34 0) = true ∧ findEntry hears34.table id34 = some open34 ∧ open34.claim = none
      ∧ open34.attempt = 0 := by decide

theorem witness_FinishFrameRemovesTheEntry :
    lawful hears34Claimed = true ∧ peer hears34Claimed (head 2 12 id34 0) = true
      ∧ findEntry hears34Claimed.table id34 = some (claimed34 12 50)
      ∧ (claimed34 12 50).claim.map Claim.claimant = some 12 ∧ (claimed34 12 50).attempt = 0 := by decide

/-- The same at the origin, with the longest result payload. -/
theorem witness_FinishFrameRemovesTheEntry_mine :
    lawful hears70 = true ∧ peer hears70 { head 2 12 id70 0 with payload := [0, 0, 0, 0] } = true
      ∧ (findEntry hears70.table id70).isSome = true := by decide

theorem witness_TakenBackClaimReopensOrAbandons_release :
    lawful hears34Claimed = true ∧ peer hears34Claimed (head 2 12 id34 0) = true
      ∧ findEntry hears34Claimed.table id34 = some (claimed34 12 50)
      ∧ lawful hears34Last = true ∧ peer hears34Last (head 2 12 id34 2) = true
      ∧ findEntry hears34Last.table id34 = some { claimed34 12 50 with attempt := 2 } := by decide

theorem witness_TakenBackClaimReopensOrAbandons_lapse :
    lawful (receiving (holds34 .active .inService)) = true
      ∧ peer (receiving (holds34 .active .inService)) (head 2 3 id34 0) = true
      ∧ findEntry (holds34 .active .inService).table id34 = some (claimed34 7 50)
      ∧ lawful hears34Last = true ∧ peer hears34Last (head 2 3 id34 2) = true := by decide

theorem witness_WithdrawFrameRemovesTheEntry :
    lawful (receiving (holds34 .active .inService)) = true
      ∧ peer (receiving (holds34 .active .inService)) (head 2 3 id34 7) = true
      ∧ findEntry (holds34 .active .inService).table id34 = some (claimed34 7 50)
      ∧ (head 2 3 id34 7).sender = id34.origin := by decide

theorem witness_JoinFrameCallsForRestatement_fresh :
    lawful (receiving { holds34 .active .inService with
        table := [claimed34 7 50, open70], origin := [record70 .live] }) = true
      ∧ peer (receiving (holds34 .active .inService)) (head 0 3 { origin := 3, serial := 0 } 0) = true
      ∧ (holds34 .active .inService).takesPosts = true := by decide

theorem witness_JoinFrameCallsForRestatement :
    lawful (receiving (live70 .active)) = true ∧ (receiving (live70 .active)).takesPosts = true
      ∧ peer (receiving (live70 .active)) (head 0 3 { origin := 3, serial := 0 } 0) = true
      ∧ lawful (receiving (live70 .mute)) = true ∧ (receiving (live70 .mute)).takesPosts = false
      ∧ peer (receiving (live70 .mute)) (head 0 3 { origin := 3, serial := 0 } 0) = true := by decide

theorem witness_RestateFrameInserts :
    lawful (filled 47) = true ∧ peer (filled 47) (head 2 3 id34 2) = true
      ∧ (head 2 3 id34 2).sender = id34.origin ∧ (head 2 3 id34 2).attempt < (3 : Limit)
      ∧ (62 : Address).toNat ≤ 62 ∧ (62 : Address) ≠ 0
      ∧ (∀ e ∈ (filled 47).table, e.id ≠ id34) ∧ (filled 47).table.length < 48
      ∧ lawful (filled 48) = true ∧ peer (filled 48) (head 2 3 id34 2) = true
      ∧ (∀ e ∈ (filled 48).table, e.id ≠ id34) ∧ 48 ≤ (filled 48).table.length := by decide

theorem witness_RestateFrameUpdatesInPlace :
    lawful (receiving (holds34 .active .inService)) = true
      ∧ peer (receiving (holds34 .active .inService)) (head 2 3 id34 0) = true
      ∧ peer (receiving (holds34 .active .inService)) (head 2 3 id34 2) = true
      ∧ (head 2 3 id34 2).sender = id34.origin ∧ (head 2 3 id34 2).attempt < (3 : Limit)
      ∧ (7 : Address).toNat ≤ 62 ∧ (7 : Address) = (holds34 .active .inService).address
      ∧ findEntry (holds34 .active .inService).table id34 = some (claimed34 7 50) := by decide

/-- One stale frame of each kind, at its nearest miss: another attempt, another claimant, a fifth payload byte, another
sender, a station field of 63 or of 0. -/
theorem witness_StaleFrameIsIgnored :
    peer hears34 (head 2 12 id34 1) = true ∧ (∀ e ∈ hears34.table, ¬ (e.id = id34 ∧ e.claim = none ∧ e.attempt = 1))
      ∧ peer hears34Claimed (head 2 3 id34 0) = true
      ∧ (∀ e ∈ hears34Claimed.table, ¬ (e.id = id34 ∧ e.attempt = 0 ∧ e.claim.map Claim.claimant = some 3))
      ∧ peer hears34Claimed { head 2 12 id34 0 with payload := List.replicate 5 0 } = true
      ∧ (∀ e ∈ hears34.table, ¬ (e.id = id34 ∧ e.claim ≠ none ∧ e.attempt = 0))
      ∧ peer hears34 (head 2 12 id34 0) = true ∧ (head 2 12 id34 0).sender ≠ id34.origin
      ∧ (head 2 3 id34 1).attempt ≠ 0 ∧ id34.origin ≠ (head 0 12 id34 0).sender
      ∧ Body.badParameters 0 (.restate 5 3 50 true 63 0) = false
      ∧ Body.badParameters 0 (.restate 5 3 50 true 0 0) = false ∧ Body.badParameters 1 (.raise 5 3 50) = false
      ∧ Body.badParameters 1 .bid = false := by decide

theorem witness_AddressClashMutes :
    lawful hears34 = true ∧ hears34.hears (head 2 7 id34 0) ∧ hears34.address = 7
      ∧ Body.badParameters 0 .bid = false
      ∧ lawful (receiving (live70 .mute)) = true ∧ (receiving (live70 .mute)).hears (head 2 7 id34 0)
      ∧ (receiving (live70 .mute)).address = 7 := by decide

theorem witness_NoSupersededFrameWaits :
    lawful hears34 = true ∧ peer hears34 (head 2 12 id34 0) = true ∧ Body.badParameters 0 .bid = false
      ∧ hears34.stores { head := head 2 12 id34 0, body := .bid } = true
      ∧ lawful raising70 = true ∧ raising70.sends (.raise id70 5 2 3 50 [0x01]) raise70
      ∧ raising70.stores raise70 = true := by
  decide

theorem witness_PlacesFollowTheChoices :
    lawful hears34 = true ∧ peer hears34 (head 2 12 id34 0) = true ∧ Body.badParameters 0 .bid = false
      ∧ hears34.stores { head := head 2 12 id34 0, body := .bid } = true
      ∧ hears34.station = .active ∧ framePlaced hears34.queue .lapse = none
      ∧ raising70.sends (.raise id70 5 2 3 50 [0x01]) raise70 ∧ raising70.stores raise70 = true
      ∧ (run (frameCommand raise70 .dominant) raising70).station = .active := by decide

theorem witness_OwnRaiseTakenBecomesLive :
    lawful raising70 = true ∧ raising70.sends (.raise id70 5 2 3 50 [0x01]) raise70
      ∧ raising70.origin = [record70 .queued] ∧ lawful raising70Withdrawn = true
      ∧ raising70Withdrawn.sends (.raise id70 5 2 3 50 [0x01]) raise70 ∧ raising70.table.length < 48 := by decide

/-- The same with a full table. -/
theorem witness_OwnRaiseTakenBecomesLive_full :
    lawful { raising70 with table := (filled 48).table } = true ∧ 48 ≤ (filled 48).table.length
      ∧ ({ raising70 with table := (filled 48).table } : State).sends (.raise id70 5 2 3 50 [0x01]) raise70 := by decide

/-- Station 7 with its BID for 3/4 on the Line. -/
def bidding34 (station : StationState) : State :=
  sending { at7 station with table := [open34], queue := [{ frame := .bid id34 2 0, onLine := true }] }
    { head := head 2 7 id34 0, body := .bid }

theorem witness_OwnBidTakenCreatesRecord :
    lawful (bidding34 .active) = true ∧ lawful (bidding34 .leaving) = true
      ∧ (bidding34 .active).sends (.bid id34 2 0) { head := head 2 7 id34 0, body := .bid }
      ∧ (bidding34 .leaving).sends (.bid id34 2 0) { head := head 2 7 id34 0, body := .bid }
      ∧ findEntry (bidding34 .active).table id34 = some open34 := by decide

/-- Station 7 with its FINISH of 3/4 on the Line. -/
def finishing34 : State :=
  sending { holds34 .active .ending with queue := [{ frame := .finish id34 2 0 1 [], onLine := true }] }
    { head := head 2 7 id34 0, body := .finish 1 }

/-- The same, with its DEADLINE notice unread. -/
def finishing34Late : State :=
  { finishing34 with
    held := [{ record34 .ending with unread := 1, deadlineNoticed := true }], notices := [.deadline id34] }

theorem witness_OwnFinishOrReleaseSettlesRecord :
    lawful finishing34 = true ∧ finishing34.sends (.finish id34 2 0 1 []) { head := head 2 7 id34 0, body := .finish 1 }
      ∧ finishing34.held = [record34 .ending] ∧ lawful finishing34Late = true
      ∧ finishing34Late.sends (.finish id34 2 0 1 []) { head := head 2 7 id34 0, body := .finish 1 }
      ∧ finishing34Late.held.map HeldRecord.unread = [1] := by decide

/-- Station 7 with its RELEASE of 3/4 on the Line, at an attempt. -/
def releasing34 (a : Attempt) : State :=
  sending { at7 .active with
      table := [{ claimed34 7 50 with attempt := a }], held := [{ record34 .ending with attempt := a }]
      queue := [{ frame := .release id34 2 a, onLine := true }] }
    { head := head 2 7 id34 a, body := .release 0 }

/-- The attempts 1 and 2, below and at the limit of 3. -/
theorem witness_OwnFinishOrReleaseSettlesRecord_release :
    lawful (releasing34 1) = true ∧ (releasing34 1).sends (.release id34 2 1) { head := head 2 7 id34 1, body := .release 0 }
      ∧ lawful (releasing34 2) = true ∧ (releasing34 2).sends (.release id34 2 2) { head := head 2 7 id34 2, body := .release 0 }
      ∧ findEntry (releasing34 2).table id34 = some { claimed34 7 50 with attempt := 2 } := by decide

/-- Station 7 with its WITHDRAW of 7/0 on the Line. -/
def withdrawingOnLine : State :=
  sending { withdrawing70 with queue := [{ frame := .withdraw id70 2, onLine := true }] }
    { head := head 2 7 id70 0, body := .withdraw }

/-- Station 7 with the RESTATE of 7/0 on the Line and its withdrawal asked for. -/
def restatingWithdrawn : State := run (.withdrawRequest [0]) restating70

theorem witness_OwnWithdrawOrRestateTaken :
    lawful withdrawingOnLine = true ∧ withdrawingOnLine.origin = [record70 .withdrawing]
      ∧ withdrawingOnLine.sends (.withdraw id70 2) { head := head 2 7 id70 0, body := .withdraw }
      ∧ lawful restating70 = true ∧ restating70.origin = [record70 .live]
      ∧ restating70.image.map TransmitImage.frame
        = some { head := { raise70.head with payload := [0xAA, 0xBB] }, body := .restate 5 3 50 false 0 0 }
      ∧ restating70.frameOnLine = some { frame := .restate id70, onLine := true }
      ∧ lawful restatingWithdrawn = true ∧ restatingWithdrawn.origin = [record70 .withdrawing] := by decide

/-- Station 7 with its LAPSE of 3/4, claimed by station 12, on the Line, at an attempt. -/
def lapsing34 (station : StationState) (a : Attempt) : State :=
  sending { at7 station with
      table := [{ open34 with attempt := a, claim := some { claimant := 12, remaining := 0, expired := true } }]
      queue := [{ frame := .lapse id34 2 a, onLine := true }] }
    { head := head 2 7 id34 a, body := .lapse }

/-- The attempts 1 and 2, below and at the limit of 3, in ACTIVE and in LEAVING. -/
theorem witness_OwnLapseTakenReopensTheEntry :
    lawful (lapsing34 .active 1) = true ∧ lawful (lapsing34 .leaving 2) = true
      ∧ (lapsing34 .active 1).sends (.lapse id34 2 1) { head := head 2 7 id34 1, body := .lapse }
      ∧ (lapsing34 .leaving 2).sends (.lapse id34 2 2) { head := head 2 7 id34 2, body := .lapse }
      ∧ (findEntry (lapsing34 .active 1).table id34).map (fun e => e.claim.isSome) = some true := by decide

/-- Station 7 with its JOIN on the Line. -/
def joining (fresh : Bool) : State :=
  sending
    { at7 .listen with
      ctl := { Controller.cleared with state := .listen, joinStage := some .joinSending, freshOwed := fresh }
      queue := [{ frame := .join fresh, onLine := true }] }
    { head := head 0 7 id70 0, body := .join fresh }

/-- The same in a rejoin after MUTE, with 7/0 LIVE. -/
def rejoining70 : State := { joining false with table := [open70], origin := [record70 .live] }

theorem witness_OwnJoinTakenOpensTheWindow :
    lawful (joining true) = true ∧ lawful (joining false) = true ∧ lawful rejoining70 = true
      ∧ (joining true).sends (.join true) { head := head 0 7 id70 0, body := .join true }
      ∧ rejoining70.sends (.join false) { head := head 0 7 id70 0, body := .join false } := by decide

/-- R42: the joiner restates its own LIVE event. -/
theorem test_joiner_restates :
    (run (.join (head 0 7 id70 0) .dominant) rejoining70).queue = [{ frame := .restate id70, onLine := false }] := by
  decide

theorem witness_OwnFrameRefusedIsDropped :
    lawful raising70 = true ∧ raising70.sends (.raise id70 5 2 3 50 [0x01]) raise70 ∧ raising70.origin = [record70 .queued]
      ∧ lawful raising70Withdrawn = true ∧ lawful restating70 = true ∧ restating70.origin = [record70 .live]
      ∧ lawful (run (.withdrawRequest [0]) restating70) = true
      ∧ (run (.withdrawRequest [0]) restating70).origin = [record70 .withdrawing]
      ∧ (run (.withdrawRequest [0]) restating70).frameOnLine = some { frame := .restate id70, onLine := true }
      ∧ (Queued.restate id70).place = .identity id70 ∧ (Queued.restate id70).isWithdraw = false := by decide

/-- The failure counts 6 and 7, below and at the eighth failure. -/
theorem witness_EighthCorruptedFrameMutes :
    lawful ({ finishing34 with liu := { finishing34.liu with failures := 6 } } : State) = true
      ∧ lawful ({ finishing34 with liu := { finishing34.liu with failures := 7 } } : State) = true
      ∧ lawful ({ joining true with liu := { (joining true).liu with failures := 7 } } : State) = true
      ∧ (Queued.finish id34 2 0 1 []).place = .held id34
      ∧ finishing34.sends (.finish id34 2 0 1 []) { head := head 2 7 id34 0, body := .finish 1 } := by decide

/-- A RAISE with and without its withdrawal pending, a RESTATE of a LIVE and of a WITHDRAWING record, a BID and a LAPSE in
ACTIVE and in LEAVING. -/
theorem witness_keepsQueued :
    lawful raising70 = true ∧ lawful raising70Withdrawn = true ∧ lawful restating70 = true
      ∧ lawful restatingWithdrawn = true ∧ lawful (bidding34 .active) = true ∧ lawful (bidding34 .leaving) = true
      ∧ lawful (lapsing34 .active 1) = true ∧ lawful (lapsing34 .leaving 1) = true := by decide

/-- R101: a LOST BID follows the choice at once. -/
theorem test_lost_bid_follows_choice :
    (run .arbitrationLost { bidding34 .active with
      table := [open34, { open34 with id := { origin := 3, serial := 5 }, priority := 1 }] }).queue
      = [{ frame := .bid { origin := 3, serial := 5 } 1 0, onLine := false }] := by decide

theorem witness_LostFrameStaysQueued :
    lawful finishing34 = true ∧ finishing34.liu.phase = .arbitrating ∧ lawful raising70 = true ∧ lawful raising70Withdrawn = true
      ∧ raising70Withdrawn.liu.phase = .arbitrating := by decide

theorem witness_StuckLineIsReportedOnce :
    lawful (at7 .active) = true ∧ (at7 .active).liuHeld = false ∧ lawful raising70 = true
      ∧ lawful (run .stuckLine (at7 .active)) = true ∧ (run .stuckLine (at7 .active)).liu.phase = .recovering
      ∧ raising70.sends (.raise id70 5 2 3 50 [0x01]) raise70 ∧ raising70.liu.failures < 7
      ∧ lawful { raising70 with liu := { raising70.liu with failures := 7 } } = true := by decide

/-- R74, R154, R183: the stuck Line that is the eighth failure: LINE_FAULT and MUTED, then REFUSED. -/
theorem test_stuck_line_mutes :
    (run .stuckLine { raising70 with liu := { raising70.liu with failures := 7 } }).notices
        = [.station 0x28, .refused id70 .muted]
      ∧ (run .stuckLine { raising70 with liu := { raising70.liu with failures := 7 } }).station = .mute := by decide

theorem witness_QuietLineReturnsToIdle :
    lawful (listening .idleWait .spacing) = true ∧ lawful (listening .idleWait .recovering) = true
      ∧ lawful (listening .window .idle) = true ∧ (listening .idleWait .spacing).liuHeld = false := by decide

theorem witness_JoinWindowEndEntersActive :
    lawful (listening .window .spacing) = true ∧ lawful (listening .window .recovering) = true ∧ lawful (at7 .active) = true := by decide

theorem witness_CompleteDrainDetaches :
    (at7 .leaving).station = .leaving ∧ (at7 .leaving).ctl.draining = true ∧ (at7 .leaving).origin = []
      ∧ (at7 .leaving).held = [] ∧ (at7 .leaving).queue = [] ∧ (at7 .leaving).image = none
      ∧ (holds34 .leaving .inService).held.all (fun r => r.state = .closed) = false := by decide

/-- Bits that end early, a sender of 63, and a frame as sent; twelve dominant samples across the span and the slots. -/
theorem witness_FrameTakenNowhereChangesOnlyLiu :
    hears34.liuHeld = false ∧ hears34.image = none ∧ hears34.receives ∧ lawful hears34 = true
      ∧ hears34.ctl.restartWaiting = false ∧ receive [false, true] = .placeLost
      ∧ receive (Frame.wireBits { head := head 2 63 id34 0, body := .bid }) = .placeKept
      ∧ receive (Frame.wireBits { head := head 2 12 id34 0, body := .bid })
        = .clean { head := head 2 12 id34 0, body := .bid }
      ∧ badSenderBits.head? = some false ∧ receive badSenderBits = .placeKept
      ∧ badSenderBits ++ [decide (Level.dominant = .recessive), false]
        = Frame.wireBits { head := head 2 63 id34 0, body := .bid } ++ [true] ++ List.replicate 12 false ++ [] := by
  decide +kernel

theorem witness_ReceivedFrameIsTheSentFrame :
    (Frame.mk { head 2 12 id34 0 with payload := List.replicate 8 0 } .bid).wf = true := by decide

theorem witness_StepKeepsQueueLaw : busy7.QueueLaw ∧ raising70.QueueLaw ∧ ∃ t, step raising70 = .next t :=
  ⟨by decide, by decide, _, rfl⟩

theorem witness_StepKeepsEachBlocksLaw :
    busy7.TableLaw ∧ busy7.StandingLaw ∧ busy7.OriginLaw ∧ busy7.StationNoticeLaw ∧ busy7.PortLaw ∧ busy7.CountLaw
      ∧ ∃ t, step busy7 = .next t :=
  ⟨by decide, by decide, by decide, by decide, by decide, by decide, _, rfl⟩

theorem witness_StepKeepsWholeLaw :
    lawful ({ busy7 with pending := [.leave []] } : State) = true ∧ lawful closed34 = true ∧ lawful raising70 = true
      ∧ ∃ t, step { busy7 with pending := [.leave []] } = .next t :=
  ⟨by decide, by decide, by decide, _, rfl⟩

theorem witness_LawBoundsTheQueues : lawful full8 = true ∧ full8.notices.length = 8 := by decide

theorem witness_StationStateFollowsFigure :
    lawful busy7 = true ∧ ∃ t, step busy7 = .next t := ⟨by decide, _, rfl⟩

theorem witness_ConfigurationIsLocked :
    (at7 .active).station ≠ .config ∧ Instr.setup [1, 2, 3] ≠ .pinReset
      ∧ ∃ t, exec (.setup [1, 2, 3]) (at7 .active) = .next t := ⟨by decide, by decide, _, rfl⟩

end Sys2Proof.Tests
end

section
/-! SUPPORT. The offer of the Service Unit and ATTN (R105, R106, R180), over every Held List. -/

namespace Sys2Proof.Machine

/-- The pick has the least key of the list. -/
theorem pickLeast_le {α : Type} {key : α → Nat} {l : List α} {a x : α} (h : pickLeast key l = some a) (hx : x ∈ l) :
    key a ≤ key x := by
  obtain ⟨older, younger, rfl, holder, hyounger⟩ := pickLeast_some key l a h
  rcases List.mem_append.1 hx with hx | hx
  · exact (holder x hx).le
  · rcases List.mem_cons.1 hx with rfl | hx
    · exact le_rfl
    · exact hyounger x hx

/-- A pick among the elements that pass a test, placed in the list before the test: older ones that pass have a greater
key, younger ones that pass no lesser one. -/
theorem pickLeast_filter_some {α : Type} {key : α → Nat} {p : α → Bool} {l : List α} {a : α}
    (h : pickLeast key (l.filter p) = some a) :
    ∃ older younger : List α, l = older ++ a :: younger ∧ p a = true
      ∧ (∀ x ∈ older, p x = true → key a < key x) ∧ ∀ x ∈ younger, p x = true → key a ≤ key x := by
  obtain ⟨olderPass, youngerPass, hsplit, holder, hyounger⟩ := pickLeast_some key _ a h
  obtain ⟨front, back, rfl, hfront, hback⟩ := List.filter_eq_append_iff.1 hsplit
  obtain ⟨failing, younger, rfl, hfailing, ha, rfl⟩ := List.filter_eq_cons_iff.1 hback
  refine ⟨front ++ failing, younger, by simp, ha, fun x hx hpx => ?_, fun x hx hpx => ?_⟩
  · rcases List.mem_append.1 hx with hx | hx
    · exact holder x (hfront ▸ List.mem_filter.2 ⟨hx, hpx⟩)
    · exact absurd hpx (hfailing x hx)
  · exact hyounger x (List.mem_filter.2 ⟨hx, hpx⟩)

/-- R105: the offered record is the pick among the AWAITING records, when it is above every IN_SERVICE record. -/
theorem offerOf_eq_some {held : List HeldRecord} {r : HeldRecord} :
    offerOf held = some r ↔
      pickLeast (fun q => q.priority.toNat) (held.filter fun q => q.state = .awaiting) = some r
        ∧ ∀ q ∈ held, q.state = .inService → r.priority < q.priority := by
  unfold offerOf
  split
  next hnone => simp [hnone]
  next b hpick =>
    have habove : (held.all fun q => q.state = .inService → b.priority < q.priority) = true ↔
        ∀ q ∈ held, q.state = .inService → b.priority < q.priority := by
      simp only [List.all_eq_true, decide_eq_true_eq]
    rw [hpick, Option.ite_none_right_eq_some, habove, Option.some.injEq, and_comm]
    exact and_congr_right fun hb => by rw [hb]

/-- R105: there is an offer exactly when some AWAITING record is strictly more urgent than every IN_SERVICE record. -/
theorem offerOf_isSome {held : List HeldRecord} :
    (offerOf held).isSome = true ↔
      ∃ r ∈ held, r.state = .awaiting ∧ ∀ q ∈ held, q.state = .inService → r.priority < q.priority := by
  constructor
  · intro h
    obtain ⟨r, hr⟩ := Option.isSome_iff_exists.1 h
    obtain ⟨hpick, habove⟩ := offerOf_eq_some.1 hr
    have hmem := pickLeast_mem _ _ r hpick
    simp only [List.mem_filter, decide_eq_true_eq] at hmem
    exact ⟨r, hmem.1, hmem.2, habove⟩
  · rintro ⟨r, hr, hawaiting, habove⟩
    have hmem : r ∈ held.filter fun r => r.state = .awaiting := by simp [hr, hawaiting]
    cases hpick : pickLeast (fun r => r.priority.toNat) (held.filter fun r => r.state = .awaiting) with
    | none => simp [(pickLeast_none _ _).1 hpick] at hmem
    | some b =>
      -- The pick is at least as urgent as `r`, so it too is above every IN_SERVICE record.
      have hle : b.priority.toNat ≤ r.priority.toNat :=
        pickLeast_le (key := fun r => r.priority.toNat) hpick hmem
      have hoffer : offerOf held = some b :=
        offerOf_eq_some.2 ⟨hpick, fun q hq hin => hle.trans_lt (habove q hq hin)⟩
      simp [hoffer]

/-- R105: the offered record in its place in the Held List. -/
theorem offerOf_some_place {held : List HeldRecord} {r : HeldRecord} (h : offerOf held = some r) :
    ∃ older younger : List HeldRecord, held = older ++ r :: younger ∧ r.state = .awaiting
      ∧ (∀ q ∈ older, q.state = .awaiting → r.priority < q.priority)
      ∧ (∀ q ∈ younger, q.state = .awaiting → r.priority ≤ q.priority)
      ∧ ∀ q ∈ held, q.state = .inService → r.priority < q.priority := by
  obtain ⟨hpick, habove⟩ := offerOf_eq_some.1 h
  obtain ⟨older, younger, hsplit, hawaiting, holder, hyounger⟩ := pickLeast_filter_some hpick
  simp only [decide_eq_true_eq] at hawaiting holder hyounger
  exact ⟨older, younger, hsplit, hawaiting, fun q hq hw => BitVec.lt_def.2 (holder q hq hw),
    fun q hq hw => BitVec.le_def.2 (hyounger q hq hw), habove⟩

/-- R105: there is no offer exactly when each AWAITING record meets an IN_SERVICE record at least as urgent. -/
theorem offerOf_eq_none {held : List HeldRecord} :
    offerOf held = none ↔
      ∀ r ∈ held, r.state = .awaiting → ∃ q ∈ held, q.state = .inService ∧ q.priority ≤ r.priority := by
  rw [← Option.not_isSome_iff_eq_none, offerOf_isSome]
  push Not
  simp only [BitVec.not_lt]

/-- R180: ATTN is high exactly while a notice waits or there is an offer. -/
theorem State.attn_eq_true {s : State} : s.attn = true ↔ s.notices ≠ [] ∨ s.offer.isSome = true := by
  simp [State.attn]

/-- Settles O10: the offer's place, its absence and ATTN, each by the fact about `offerOf` on the Held List. -/
theorem offerIsMostUrgentAwaiting : Obligations.OfferIsMostUrgentAwaiting := by
  intro s
  exact ⟨fun _ hoffer => offerOf_some_place hoffer, offerOf_eq_none,
    State.attn_eq_true.trans (or_congr_right offerOf_isSome)⟩

end Sys2Proof.Machine
end

section
/-! SUPPORT. Places, posts and Origin records of a station that meets its laws, then the RAISE request (R126 to R128)
and the WITHDRAW request (R130, R132). -/

namespace Sys2Proof.Machine

/-! ### Origin records -/

/-- R125: with no two records of one serial, a record is the one found under its own. -/
theorem State.originRecord_of_mem {s : State} {r : OriginRecord} (hn : (s.origin.map OriginRecord.serial).Nodup)
    (hr : r ∈ s.origin) : s.originRecord r.serial = some r := by
  cases hf : s.originRecord r.serial with
  | none => simpa using List.find?_eq_none.1 hf r hr
  | some x =>
    obtain ⟨hx, hserial⟩ := State.originRecord_some hf
    exact congrArg some (List.inj_on_of_nodup_map hn hx hr hserial)

/-- No Origin record is found exactly when none has the serial. -/
theorem State.originRecord_none {s : State} {n : Serial} :
    s.originRecord n = none ↔ ∀ r ∈ s.origin, r.serial ≠ n := by simp [State.originRecord]

/-- Two changes of the record of a serial are one change when they agree on the record that has it. -/
theorem State.setOrigin_congr {s : State} {r : OriginRecord} {f g : OriginRecord → OriginRecord}
    (hn : (s.origin.map OriginRecord.serial).Nodup) (hr : r ∈ s.origin) (hfg : f r = g r) :
    s.setOrigin r.serial f = s.setOrigin r.serial g := by
  have hmap : (s.origin.map fun x => if x.serial = r.serial then f x else x)
      = s.origin.map fun x => if x.serial = r.serial then g x else x := by
    refine List.map_congr_left fun x hx => ?_
    split
    next hserial => rw [List.inj_on_of_nodup_map hn hx hr hserial, hfg]
    next => rfl
  simp only [State.setOrigin, hmap]

/-! ### Places and posts -/

/-- R81: a post into an empty place enters the queue last. -/
theorem State.post_of_empty {s : State} {f : Queued} (ht : s.takesPosts = true)
    (hp : framePlaced s.queue f.place = none) :
    s.post f = { s with queue := s.queue ++ [{ frame := f, onLine := false }] } := by
  simp [State.post, State.postAnswer, ht, hp]

/-- R81: a post into a place whose frame is on the Line changes nothing. -/
theorem State.post_of_onLine {s : State} {f : Queued} {g : QueuedFrame} (hp : framePlaced s.queue f.place = some g)
    (hg : g.onLine = true) : s.post f = s := by
  cases ht : s.takesPosts <;> simp [State.post, State.postAnswer, ht, hp, hg]

/-- R81: a post replaces a waiting frame that gives way to it, and enters the queue last. -/
theorem State.post_of_givesWay {s : State} {f : Queued} {g : QueuedFrame} (ht : s.takesPosts = true)
    (hp : framePlaced s.queue f.place = some g) (hg : g.onLine = false) (hw : givesWay g.frame f = true) :
    s.post f = { s with queue := withoutPlace s.queue f.place ++ [{ frame := f, onLine := false }] } := by
  simp [State.post, State.postAnswer, ht, hp, hg, hw]

/-- An empty place leaves nothing to take out. -/
theorem withoutPlace_of_empty {q : List QueuedFrame} {p : Place} (hp : framePlaced q p = none) :
    withoutPlace q p = q :=
  List.filter_eq_self.2 fun g hg => by simpa using framePlaced_none.1 hp g hg

/-- The own frame of a serial is on the Line exactly when the frame in its place is. -/
theorem State.ownOnLine_eq_of_placed {s : State} {n : Serial} {g : QueuedFrame}
    (hn : (s.queue.map fun q => q.frame.place).Nodup)
    (hp : framePlaced s.queue (.identity (s.ownId n)) = some g) : s.ownOnLine n = g.onLine := by
  obtain ⟨hg, hplace⟩ := framePlaced_some hp
  have honly : ∀ q ∈ s.queue, q.frame.place = .identity (s.ownId n) → q = g := fun q hq hqp =>
    List.inj_on_of_nodup_map hn hq hg (hqp.trans hplace.symm)
  rw [Bool.eq_iff_iff]
  simp only [State.ownOnLine, List.any_eq_true, decide_eq_true_eq]
  constructor
  · rintro ⟨q, hq, honLine, hqp⟩
    exact honly q hq hqp ▸ honLine
  · exact fun honLine => ⟨g, hg, honLine, hplace⟩

/-- With nothing in its place, no own frame of a serial is on the Line. -/
theorem State.ownOnLine_of_empty {s : State} {n : Serial}
    (hp : framePlaced s.queue (.identity (s.ownId n)) = none) : s.ownOnLine n = false := by
  rw [← Bool.not_eq_true]
  simp only [State.ownOnLine, List.any_eq_true, decide_eq_true_eq]
  rintro ⟨q, hq, -, hqp⟩
  exact framePlaced_none.1 hp q hq hqp

/-- R83: with no own frame of the serial on the Line, a removal from its place takes out all that stands there. -/
theorem State.removeFrame_of_not_onLine {s : State} {n : Serial} (h : s.ownOnLine n = false) :
    s.removeFrame (.identity (s.ownId n))
      = { s with queue := withoutPlace s.queue (.identity (s.ownId n)) } := by
  have hoff : ∀ q ∈ s.queue, q.frame.place = .identity (s.ownId n) → q.onLine = false := by
    intro q hq hqp
    simpa [hqp] using List.any_eq_false.1 h q hq
  have hqueue : (s.queue.filter fun f => ¬ (f.frame.place = .identity (s.ownId n) ∧ ¬ f.onLine))
      = withoutPlace s.queue (.identity (s.ownId n)) := by
    refine List.filter_congr fun q hq => ?_
    by_cases hqp : q.frame.place = .identity (s.ownId n)
    · simp [hqp, hoff q hq hqp]
    · simp [hqp]
  simp only [State.removeFrame, hqueue]

/-- R151: while a frame is queued the drain is not complete. -/
theorem State.testDrain_of_queued {s : State} {g : QueuedFrame} (hg : g ∈ s.queue) : s.testDrain = s := by
  simp [State.testDrain, State.drainComplete, List.ne_nil_of_mem hg]

/-- Table 4-1: a frame in an identity place stands for the Origin record of its serial, and for a LIVE one it is the
RESTATE. -/
theorem State.record_of_identity {s : State} {q : QueuedFrame} {id : Identity} (h : s.standsFor q = true)
    (hp : q.frame.place = .identity id) :
    ∃ r ∈ s.origin, r.serial = id.serial ∧ (r.state = .live → q.frame = .restate id) := by
  obtain ⟨frame, onLine⟩ := q
  cases frame <;> cases hp <;> simp only [State.standsFor, List.any_eq_true, decide_eq_true_eq] at h
  case raise =>
    obtain ⟨-, r, hr, hserial, hqueued, -⟩ := h
    exact ⟨r, hr, hserial, by simp [hqueued]⟩
  case restate =>
    obtain ⟨-, r, hr, hserial, -⟩ := h
    exact ⟨r, hr, hserial, fun _ => rfl⟩
  case withdraw =>
    obtain ⟨-, r, hr, hserial, hwithdrawing⟩ := h
    exact ⟨r, hr, hserial, by simp [hwithdrawing]⟩

/-- R125, R126: the identity place of a serial that no record uses is empty. -/
theorem State.place_empty_of_unused {s : State} {n : Serial} (hstands : ∀ q ∈ s.queue, s.standsFor q = true)
    (hn : ∀ r ∈ s.origin, r.serial ≠ n) : framePlaced s.queue (.identity (s.ownId n)) = none := by
  refine framePlaced_none.2 fun q hq hplace => ?_
  obtain ⟨r, hr, hserial, -⟩ := State.record_of_identity (hstands q hq) hplace
  exact hn r hr hserial

/-- R43: the frame in the identity place of a LIVE record is its RESTATE. -/
theorem State.restate_of_live {s : State} {r : OriginRecord} {g : QueuedFrame}
    (hstands : ∀ q ∈ s.queue, s.standsFor q = true) (hn : (s.origin.map OriginRecord.serial).Nodup)
    (hr : r ∈ s.origin) (hlive : r.state = .live)
    (hp : framePlaced s.queue (.identity (s.ownId r.serial)) = some g) :
    g.frame = .restate (s.ownId r.serial) := by
  obtain ⟨hg, hplace⟩ := framePlaced_some hp
  obtain ⟨x, hx, hserial, hrestate⟩ := State.record_of_identity (hstands g hg) hplace
  have hxr : x = r := List.inj_on_of_nodup_map hn hx hr hserial
  exact hrestate (hxr ▸ hlive)

/-! ### The serial of a RAISE (R126) -/

/-- The search counts up over serials in use, and stops at one that is free or after its last try. -/
theorem freeSerial_eq (used : List OriginRecord) (start : Serial) (tries : Nat) :
    ∃ k ≤ tries, freeSerial used start tries = start + BitVec.ofNat 8 k
      ∧ (∀ j < k, ∃ r ∈ used, r.serial = start + BitVec.ofNat 8 j)
      ∧ (k < tries → ∀ r ∈ used, r.serial ≠ start + BitVec.ofNat 8 k) := by
  induction tries generalizing start with
  | zero => exact ⟨0, le_rfl, by simp [freeSerial], by simp, by simp⟩
  | succ tries ih =>
    by_cases huse : ∃ r ∈ used, r.serial = start
    · obtain ⟨k, hk, heq, hbelow, hfree⟩ := ih (start + 1)
      have hshift : ∀ j, start + 1 + BitVec.ofNat 8 j = start + BitVec.ofNat 8 (j + 1) := fun j => by
        rw [BitVec.add_assoc, BitVec.ofNat_add, BitVec.add_comm 1]
        rfl
      simp only [hshift] at heq hbelow hfree
      refine ⟨k + 1, by omega, by simpa [freeSerial, huse] using heq, fun j hj => ?_, fun h => hfree (by omega)⟩
      cases j with
      | zero => simpa using huse
      | succ j => exact hbelow j (by omega)
    · exact ⟨0, by omega, by simp [freeSerial, huse], by simp,
        fun _ r hr hserial => huse ⟨r, hr, by simpa using hserial⟩⟩

/-- A run of serials in use is no longer than the list of records. -/
theorem run_le_length_of_used {used : List OriginRecord} {start : Serial} {k : Nat} (hk : k ≤ 256)
    (h : ∀ j < k, ∃ r ∈ used, r.serial = start + BitVec.ofNat 8 j) : k ≤ used.length := by
  have hinj : ((List.range k).map fun j => start + BitVec.ofNat 8 j).Nodup := by
    refine List.nodup_range.map_on fun i hi j hj hij => ?_
    have hi := List.mem_range.1 hi
    have hj := List.mem_range.1 hj
    bv_omega
  have hsub : ((List.range k).map fun j => start + BitVec.ofNat 8 j) ⊆ used.map OriginRecord.serial := by
    intro n hn
    obtain ⟨j, hj, rfl⟩ := List.mem_map.1 hn
    obtain ⟨r, hr, hserial⟩ := h j (List.mem_range.1 hj)
    exact List.mem_map.2 ⟨r, hr, hserial⟩
  simpa using (hinj.subperm hsub).length_le

/-- R126: over fewer than 256 records the search finds the first free serial, after no more steps than there are
records. -/
theorem freeSerial_first_free {used : List OriginRecord} (start : Serial) (hlen : used.length < 256) :
    ∃ k ≤ used.length, freeSerial used start 256 = start + BitVec.ofNat 8 k
      ∧ (∀ j < k, ∃ r ∈ used, r.serial = start + BitVec.ofNat 8 j)
      ∧ ∀ r ∈ used, r.serial ≠ freeSerial used start 256 := by
  obtain ⟨k, hk, heq, hbelow, hfree⟩ := freeSerial_eq used start 256
  have hkl := run_le_length_of_used hk hbelow
  exact ⟨k, hkl, heq, hbelow, heq ▸ hfree (by omega)⟩

/-! ### The RAISE request -/

/-- R174: the RAISE request in processing is answered by the Origin Unit. -/
theorem exec_raiseRequest {s : State} {body : List Byte} (h : s.inProcessing 0x04 body) :
    exec (.raiseRequest body) s
      = .next ((s.answerRaise body).after.replied 0x04 (s.answerRaise body).outcome (s.answerRaise body).body) :=
  congrArg Host.Outcome.next (State.request_of_inProcessing h _)

/-- R127, R178: a RAISE body has operands exactly when its class is at most 63 and its payload at most 8 bytes. -/
theorem raiseOperands_cons (cls : Byte) (payload : List Byte) :
    raiseOperands (cls :: payload)
      = if cls.toNat ≤ 63 ∧ payload.length ≤ 8 then some (cls.setWidth 6, payload) else none := rfl

/-- Table 6-3: outside ACTIVE a RAISE request is answered STATE. -/
theorem State.answerRaise_of_not_active {s : State} {body : List Byte} (h : s.station ≠ .active) :
    s.answerRaise body = s.answers .state := by simp [State.answerRaise, h]

/-- Table 6-3: a body without operands is answered BADARG. -/
theorem State.answerRaise_of_no_operands {s : State} {body : List Byte} (h : s.station = .active)
    (hbody : raiseOperands body = none) : s.answerRaise body = s.answers .badArg := by
  simp [State.answerRaise, h, hbody]

/-- Table 6-3: an undefined class is answered BADARG. -/
theorem State.answerRaise_of_undefined {s : State} {body payload : List Byte} {cls : ClassNo}
    (h : s.station = .active) (hbody : raiseOperands body = some (cls, payload))
    (hdef : (ClassTable.entry s.config.classes cls).defined = false) :
    s.answerRaise body = s.answers .badArg := by simp [State.answerRaise, h, hbody, hdef]

/-- Table 6-3: a RAISE request that passes the checks of its body is answered FULL, or raises its event. -/
theorem State.answerRaise_of_defined {s : State} {body payload : List Byte} {cls : ClassNo}
    (h : s.station = .active) (hbody : raiseOperands body = some (cls, payload))
    (hdef : (ClassTable.entry s.config.classes cls).defined = true) :
    s.answerRaise body =
      if Config.originCapacity ≤ s.origin.length ∨ Config.tableCapacity ≤ s.table.length then s.answers .full
      else s.raiseEvent cls payload := by simp [State.answerRaise, h, hbody, hdef]

/-- R126, R128: the state after a RAISE request is answered OK with the serial `n`. -/
def State.afterRaise (s : State) (n : Serial) (cls : ClassNo) (payload : List Byte) : State :=
  let c := ClassTable.entry s.config.classes cls
  { s with
    serialCounter := n + 1
    origin := s.origin ++ [{ serial := n, state := .queued, withdrawPending := false }]
    queue := s.queue ++
      [{ frame := .raise (s.ownId n) cls c.priority c.limit c.deadline payload, onLine := false }] }

/-- R128: with the place of the new serial empty, the RAISE posted enters the queue. -/
theorem State.raiseEvent_eq {s : State} (cls : ClassNo) (payload : List Byte) (ht : s.takesPosts = true)
    (hp : framePlaced s.queue (.identity (s.ownId (freeSerial s.origin s.serialCounter 256))) = none) :
    s.raiseEvent cls payload =
      { after := s.afterRaise (freeSerial s.origin s.serialCounter 256) cls payload
        outcome := .ok, body := [freeSerial s.origin s.serialCounter 256] } := by
  unfold State.raiseEvent
  dsimp only
  rw [State.post_of_empty (by exact ht) (by exact hp)]
  rfl

/-- Settles O8: each check by the equation of its row of Table 6-3; the event raised by the first free serial, whose
place is empty because no record uses it. -/
theorem raiseRequestChecked : Obligations.RaiseRequestChecked := by
  intro s body hlaw hreq
  rw [exec_raiseRequest hreq]
  refine ⟨fun h => by rw [State.answerRaise_of_not_active h]; rfl, fun h hbody => ?_, ?_⟩
  · rw [State.answerRaise_of_no_operands h (by rw [hbody]; rfl)]
    rfl
  rintro cls payload rfl
  refine ⟨fun h hbad => ?_, fun h hcls hlen hdef => ?_⟩
  · by_cases hfit : cls.toNat ≤ 63 ∧ payload.length ≤ 8
    · have hdef : (ClassTable.entry s.config.classes (cls.setWidth 6)).defined = false := by
        rcases hbad with hcls | hlen | hdef
        · omega
        · omega
        · exact hdef
      rw [State.answerRaise_of_undefined h (by rw [raiseOperands_cons, if_pos hfit]) hdef]
      rfl
    · rw [State.answerRaise_of_no_operands h (by rw [raiseOperands_cons, if_neg hfit])]
      rfl
  rw [State.answerRaise_of_defined h (by rw [raiseOperands_cons, if_pos ⟨hcls, hlen⟩]) hdef]
  refine ⟨fun hfull => ?_, fun horigin htable => ?_⟩
  · rw [if_pos (by simp only [Config.originCapacity, Config.tableCapacity]; omega)]
    rfl
  obtain ⟨-, -, -, -, -, -, -, -, hstands, -⟩ := hlaw
  obtain ⟨k, hk, hserial, hbelow, hfree⟩ :=
    freeSerial_first_free (used := s.origin) s.serialCounter (by omega)
  rw [if_neg (by simp only [Config.originCapacity, Config.tableCapacity]; omega),
    State.raiseEvent_eq _ _ (by simp [State.takesPosts, h]) (State.place_empty_of_unused hstands hfree)]
  refine ⟨_, rfl, ?_⟩
  simp only [State.afterRaise, BitVec.add_sub_cancel]
  exact ⟨⟨k, by omega, hserial, hbelow⟩, hfree, trivial⟩

/-! ### The WITHDRAW request -/

/-- R174: the WITHDRAW request in processing is answered by the Origin Unit. -/
theorem exec_withdrawRequest {s : State} {body : List Byte} (h : s.inProcessing 0x05 body) :
    exec (.withdrawRequest body) s
      = .next ((s.answerWithdraw body).after.replied 0x05 (s.answerWithdraw body).outcome
          (s.answerWithdraw body).body) :=
  congrArg Host.Outcome.next (State.request_of_inProcessing h _)

/-- R130: in CONFIG a WITHDRAW request is answered STATE. -/
theorem State.answerWithdraw_of_config {s : State} {body : List Byte} (h : s.station = .config) :
    s.answerWithdraw body = s.answers .state := by simp [State.answerWithdraw, h]

/-- R130: a body that is not one serial is answered BADARG. -/
theorem State.answerWithdraw_of_length {s : State} {body : List Byte} (h : s.station ≠ .config)
    (hlen : body.length ≠ 1) : s.answerWithdraw body = s.answers .badArg := by
  match body with
  | [] => simp [State.answerWithdraw, h]
  | [_] => simp at hlen
  | _ :: _ :: _ => simp [State.answerWithdraw, h]

/-- Table 6-5: a serial without a record is answered UNKNOWN. -/
theorem State.answerWithdraw_of_no_record {s : State} {n : Serial} (h : s.station ≠ .config)
    (hn : s.originRecord n = none) : s.answerWithdraw [n] = s.answers .unknown := by
  simp [State.answerWithdraw, h, hn]

section
variable {s : State} {n : Serial} {r : OriginRecord} (h : s.station ≠ .config) (hn : s.originRecord n = some r)
include h hn

/-- Table 6-5: a CLOSED record is answered LATE. -/
theorem State.answerWithdraw_of_closed (hr : r.isClosed = true) : s.answerWithdraw [n] = s.answers .late := by
  cases hst : r.state with
  | closed outcome => simp [State.answerWithdraw, h, hn, hst]
  | queued => simp [OriginRecord.isClosed, hst] at hr
  | live => simp [OriginRecord.isClosed, hst] at hr
  | withdrawing => simp [OriginRecord.isClosed, hst] at hr

/-- Table 6-5: a record whose withdrawal is under way, or one that is LIVE in MUTE, is answered STATE. -/
theorem State.answerWithdraw_of_state
    (hr : r.state = .withdrawing ∨ (r.state = .queued ∧ r.withdrawPending = true)
      ∨ (r.state = .live ∧ s.station = .mute)) : s.answerWithdraw [n] = s.answers .state := by
  rcases hr with hst | ⟨hst, hpending⟩ | ⟨hst, hmute⟩
  · simp [State.answerWithdraw, h, hn, hst]
  · simp [State.answerWithdraw, h, hn, hst, hpending]
  · simp [State.answerWithdraw, hn, hst, hmute, State.takesPosts]

/-- Table 6-5: the withdrawal of a QUEUED record is made, and the drain is tested. -/
theorem State.answerWithdraw_of_queued (hst : r.state = .queued) (hpending : r.withdrawPending = false) :
    s.answerWithdraw [n] = (s.withdrawQueued n).testDrain.okAfter := by
  simp [State.answerWithdraw, h, hn, hst, hpending]

/-- Table 6-5: the withdrawal of a LIVE record begins where posts are taken. -/
theorem State.answerWithdraw_of_live (hst : r.state = .live) (ht : s.takesPosts = true) :
    s.answerWithdraw [n] = (s.beginWithdraw n).okAfter := by
  simp [State.answerWithdraw, h, hn, hst, ht]

end

/-- R130: while its RAISE is on the Line a QUEUED record is only marked. -/
theorem State.withdrawQueued_of_onLine {s : State} {n : Serial} (hn : (s.queue.map fun q => q.frame.place).Nodup)
    (honLine : s.ownOnLine n = true) :
    s.withdrawQueued n = s.setOrigin n fun r => { r with withdrawPending := true } := by
  cases hp : framePlaced s.queue (.identity (s.ownId n)) with
  | none => simp [State.ownOnLine_of_empty hp] at honLine
  | some g =>
    rw [State.ownOnLine_eq_of_placed hn hp] at honLine
    simp [State.withdrawQueued, hp, honLine]

/-- R130: with its RAISE off the Line a QUEUED record closes, and its place is emptied. -/
theorem State.withdrawQueued_of_not_onLine {s : State} {n : Serial}
    (hn : (s.queue.map fun q => q.frame.place).Nodup) (honLine : s.ownOnLine n = false) :
    s.withdrawQueued n =
      { s with queue := withoutPlace s.queue (.identity (s.ownId n)) }.closeOrigin n .withdrawn
        (.withdrawn (s.ownId n)) := by
  cases hp : framePlaced s.queue (.identity (s.ownId n)) with
  | none => simp [State.withdrawQueued, hp, withoutPlace_of_empty hp]
  | some g =>
    have hg : g.onLine = false := State.ownOnLine_eq_of_placed hn hp ▸ honLine
    simp [State.withdrawQueued, hp, hg, State.removeFrame_of_not_onLine honLine]

/-- R132: the WITHDRAW of a LIVE event is not posted over its own frame on the Line; otherwise it takes the identity
place, which holds nothing or a RESTATE. -/
theorem State.post_withdraw {s : State} {n : Serial} (priority : Priority) (ht : s.takesPosts = true)
    (hn : (s.queue.map fun q => q.frame.place).Nodup)
    (hrestate : ∀ g, framePlaced s.queue (.identity (s.ownId n)) = some g → g.frame = .restate (s.ownId n)) :
    s.post (.withdraw (s.ownId n) priority) =
      { s with
        queue := if s.ownOnLine n then s.queue
          else withoutPlace s.queue (.identity (s.ownId n))
            ++ [{ frame := .withdraw (s.ownId n) priority, onLine := false }] } := by
  cases hp : framePlaced s.queue (.identity (s.ownId n)) with
  | none =>
    rw [State.post_of_empty (f := .withdraw (s.ownId n) priority) ht hp, State.ownOnLine_of_empty hp,
      withoutPlace_of_empty hp]
    rfl
  | some g =>
    rw [State.ownOnLine_eq_of_placed hn hp]
    cases hg : g.onLine with
    | true => exact State.post_of_onLine hp hg
    | false => exact State.post_of_givesWay ht hp hg (by rw [hrestate g hp]; rfl)

/-- R132: a LIVE record goes to WITHDRAWING, and its WITHDRAW carries the priority of its entry. -/
theorem State.beginWithdraw_of_live {s : State} {r : OriginRecord} {e : Entry} (hlaw : s.Lawful)
    (ht : s.takesPosts = true) (hr : r ∈ s.origin) (hst : r.state = .live) (he : e ∈ s.table)
    (hid : e.id = s.ownId r.serial) :
    s.beginWithdraw r.serial =
      { s.setOrigin r.serial fun x => { x with state := .withdrawing } with
        queue := if s.ownOnLine r.serial then s.queue
          else withoutPlace s.queue (.identity (s.ownId r.serial))
            ++ [{ frame := .withdraw (s.ownId r.serial) e.priority, onLine := false }] } := by
  obtain ⟨⟨-, htable⟩, ⟨hplaces, -, -⟩, -, ⟨-, hserials⟩, -, ⟨-, -, -, hpendingLaw⟩, -, -, hstands, -⟩ := hlaw
  have hpending : r.withdrawPending = false := by
    rw [← Bool.not_eq_true]
    intro hpending
    have hqueued := hpendingLaw r hr hpending
    simp [hst] at hqueued
  have hset : (s.setOrigin r.serial fun x => { x with state := .withdrawing, withdrawPending := false })
      = s.setOrigin r.serial fun x => { x with state := .withdrawing } :=
    State.setOrigin_congr hserials hr (by rw [hpending])
  have hfind : findEntry s.table (s.ownId r.serial) = some e := hid ▸ findEntry_of_mem htable he
  have hpost := State.post_withdraw (s := s.setOrigin r.serial fun x => { x with state := .withdrawing })
    (n := r.serial) e.priority ht hplaces fun _ hg => State.restate_of_live (s := s) hstands hserials hr hst hg
  calc s.beginWithdraw r.serial
    _ = (s.setOrigin r.serial fun x => { x with state := .withdrawing }).post
          (.withdraw (s.ownId r.serial) (((findEntry s.table (s.ownId r.serial)).map Entry.priority).getD 0)) := by
        rw [← hset]
        rfl
    _ = (s.setOrigin r.serial fun x => { x with state := .withdrawing }).post
          (.withdraw (s.ownId r.serial) e.priority) := by rw [hfind]; rfl
    _ = _ := hpost

/-- R130: the marking of a QUEUED record, whose RAISE is queued, leaves the drain incomplete. -/
theorem State.testDrain_mark_of_queued {s : State} {r : OriginRecord} (hlaw : s.OwnEventsLaw) (hr : r ∈ s.origin)
    (hst : r.state = .queued) (f : OriginRecord → OriginRecord) :
    (s.setOrigin r.serial f).testDrain = s.setOrigin r.serial f := by
  obtain ⟨-, -, hraise, -⟩ := hlaw
  obtain ⟨q, hq, -⟩ := hraise r hr hst
  exact State.testDrain_of_queued (g := q) hq

/-- R134: the closing of a QUEUED record that is not marked. -/
theorem State.closeOrigin_of_unmarked {s : State} {r : OriginRecord} {outcome : FinalOutcome} {notice : Notice}
    (hn : (s.origin.map OriginRecord.serial).Nodup) (hr : r ∈ s.origin) (hpending : r.withdrawPending = false) :
    s.closeOrigin r.serial outcome notice
      = (s.setOrigin r.serial fun x => { x with state := .closed outcome }).notify notice :=
  congrArg (State.notify · notice) (State.setOrigin_congr hn hr (by rw [hpending]))

/-- Settles O9: each row of Table 6-5 by its equation, on the record that the serial finds. -/
theorem withdrawRequestByRecord : Obligations.WithdrawRequestByRecord := by
  intro s body hlaw hreq
  have ⟨_, ⟨hplaces, _⟩, _, ⟨_, hserials⟩, _, hown, _⟩ := hlaw
  rw [exec_withdrawRequest hreq]
  refine ⟨fun h => by rw [State.answerWithdraw_of_config h]; rfl,
    fun h hlen => by rw [State.answerWithdraw_of_length h hlen]; rfl, ?_⟩
  rintro n h rfl
  refine ⟨fun hnone => by rw [State.answerWithdraw_of_no_record h (State.originRecord_none.2 hnone)]; rfl, ?_⟩
  rintro r hr rfl
  have hrec := State.originRecord_of_mem hserials hr
  refine ⟨fun hclosed => ?late, fun hstate => ?state, fun hst hpending honLine => ?marked,
    fun hst hpending honLine => ?withdrawn, fun hst ht => ?begun⟩
  case late => rw [State.answerWithdraw_of_closed h hrec hclosed]; rfl
  case state => rw [State.answerWithdraw_of_state h hrec hstate]; rfl
  case marked =>
    rw [State.answerWithdraw_of_queued h hrec hst hpending, State.withdrawQueued_of_onLine hplaces honLine,
      State.testDrain_mark_of_queued hown hr hst]
    rfl
  case withdrawn =>
    rw [State.answerWithdraw_of_queued h hrec hst hpending, State.withdrawQueued_of_not_onLine hplaces honLine,
      State.closeOrigin_of_unmarked (by exact hserials) (by exact hr) hpending]
    simp [State.okAfter, State.setOrigin, State.notify, withoutPlace]
  case begun =>
    obtain ⟨-, hentry, -⟩ := hown
    obtain ⟨e, he, hid⟩ := hentry r hr (by simp [OriginRecord.inPool, hst])
    rw [State.answerWithdraw_of_live h hrec hst ht, State.beginWithdraw_of_live hlaw ht hr hst he hid]
    refine ⟨_, rfl, rfl, fun honLine => ?_, fun honLine => ⟨e, he, hid, ?_⟩⟩
    · simp [State.okAfter, honLine]
    · simp [State.okAfter, honLine, withoutPlace]

end Sys2Proof.Machine
end

section
/-! SUPPORT. The CLASS request (R163, R164, Table 9-9): the bytes that spell an entry, a row of entries and a page, and
the Class Table after one page is replaced. -/

namespace Sys2Proof.Machine

/-! ### The entries of a CLASS body -/

/-- R164: the three bytes of an entry pass its checks: no flag besides the two and the priority, a deadline other
than 0, and a limit of 1 to 7. -/
def ClassFieldsValid (flags deadline limit : Byte) : Prop :=
  flags &&& 0x38 = 0 ∧ deadline ≠ 0 ∧ limit ≠ 0 ∧ limit.toNat ≤ 7

/-- Table 9-9: the entry that three bytes spell. -/
def ClassEntry.ofFields (flags deadline limit : Byte) : ClassEntry :=
  { defined := flags.getLsbD 7, capable := flags.getLsbD 6, priority := flags.setWidth 3
    deadline := deadline, limit := limit.setWidth 3 }

/-- Table 9-9: bits 5 to 3 of a flags byte are the ones that the mask 38h keeps. -/
theorem extract_reserved_eq_zero_iff (flags : Byte) : flags.extractLsb' 3 3 = 0 ↔ flags &&& 0x38 = 0 := by
  revert flags
  decide

/-- R164: an entry's operand exists exactly when its bytes pass the checks, and is then the entry they spell. -/
theorem classEntryOperand_eq_some {flags deadline limit : Byte} {e : ClassEntry} :
    classEntryOperand flags deadline limit = some e
      ↔ ClassFieldsValid flags deadline limit ∧ ClassEntry.ofFields flags deadline limit = e := by
  have hlimit : 1 ≤ limit.toNat ↔ limit ≠ 0 := by bv_omega
  have hpriority : flags.extractLsb' 0 3 = flags.setWidth 3 := (BitVec.setWidth_eq_extractLsb' (by decide)).symm
  simp only [classEntryOperand, ClassFieldsValid, ClassEntry.ofFields, extract_reserved_eq_zero_iff, hlimit, hpriority,
    Option.ite_none_right_eq_some, Option.some.injEq]

/-- R163: the operand of entry `i` of a CLASS body, from the bytes `3i` to `3i + 2` after the page number. -/
def entryOperandAt (bytes : List Byte) (i : Nat) : Option ClassEntry :=
  classEntryOperand (bytes.getD (3 * i) 0) (bytes.getD (3 * i + 1) 0) (bytes.getD (3 * i + 2) 0)

/-- Three more bytes in front spell entry 0, and the others move up by one. -/
theorem entryOperandAt_succ (flags deadline limit : Byte) (rest : List Byte) (i : Nat) :
    entryOperandAt (flags :: deadline :: limit :: rest) (i + 1) = entryOperandAt rest i := rfl

/-- R163: a row that begins with three bytes spells the entry of these and then the row of the others. -/
theorem classEntriesOperand_cons_eq_some {flags deadline limit : Byte} {rest : List Byte} {e : ClassEntry}
    {es : List ClassEntry} :
    classEntriesOperand (flags :: deadline :: limit :: rest) = some (e :: es)
      ↔ classEntryOperand flags deadline limit = some e ∧ classEntriesOperand rest = some es := by
  rw [classEntriesOperand]
  cases classEntryOperand flags deadline limit <;> cases classEntriesOperand rest <;> simp

/-- R163: bytes spell the row `l` exactly when there are three for each entry, and those of entry `i` spell it. -/
theorem classEntriesOperand_eq_some : ∀ {bytes : List Byte} {l : List ClassEntry},
    classEntriesOperand bytes = some l
      ↔ bytes.length = 3 * l.length ∧ ∀ i < l.length, entryOperandAt bytes i = l[i]?
  | [], l => by cases l <;> simp [classEntriesOperand]
  | [_], l => by simp [classEntriesOperand]; omega
  | [_, _], l => by simp [classEntriesOperand]; omega
  | flags :: deadline :: limit :: rest, [] => by
    rw [classEntriesOperand]
    cases classEntryOperand flags deadline limit <;> cases classEntriesOperand rest <;> simp
  | flags :: deadline :: limit :: rest, e :: es => by
    have hlength : (flags :: deadline :: limit :: rest).length = 3 * (e :: es).length
        ↔ rest.length = 3 * es.length := by simp only [List.length_cons]; omega
    rw [classEntriesOperand_cons_eq_some, classEntriesOperand_eq_some, hlength, List.length_cons,
      Nat.forall_lt_succ_left']
    simp only [entryOperandAt_succ, List.getElem?_cons_succ, List.getElem?_cons_zero]
    exact and_left_comm

/-! ### The page of a CLASS body -/

/-- R163: a body spells a page when its first byte is the page's number and the others spell the page's row. -/
theorem classOperands_cons_eq_some {page : Byte} {bytes : List Byte} {p : Fin 8} {v : Vector ClassEntry 8} :
    classOperands (page :: bytes) = some (p, v)
      ↔ page.toNat = p ∧ classEntriesOperand bytes = some v.toList := by
  rw [classOperands]
  cases classEntriesOperand bytes with
  | none => simp
  | some es =>
    obtain ⟨⟨row⟩, hrow⟩ := v
    simp only [Option.dite_none_right_eq_some, Option.some.injEq, Prod.mk.injEq, Vector.toList, Vector.mk.injEq,
      Array.mk.injEq]
    constructor
    · rintro ⟨hp, he, rfl, rfl⟩
      exact ⟨rfl, rfl⟩
    · rintro ⟨hp, rfl⟩
      exact ⟨by omega, hrow, Fin.ext hp, rfl⟩

/-- R163, R164: the body of a page has 24 bytes after the page's number, and those of each entry spell it. -/
theorem classOperands_eq_some {page : Byte} {bytes : List Byte} {p : Fin 8} {v : Vector ClassEntry 8} :
    classOperands (page :: bytes) = some (p, v)
      ↔ page.toNat = p ∧ bytes.length = 24 ∧ ∀ i (hi : i < 8), entryOperandAt bytes i = some v[i] := by
  have hget : ∀ i (hi : i < 8), v.toList[i]? = some v[i] := fun i hi => by simp [hi]
  rw [classOperands_cons_eq_some, classEntriesOperand_eq_some, Vector.length_toList]
  exact and_congr_right' (and_congr_right' (forall₂_congr fun i hi => by rw [hget i hi]))

/-- R163: the page that the bytes after the page's number spell, entry by entry. -/
def classPageOf (bytes : List Byte) : Vector ClassEntry 8 :=
  Vector.ofFn fun i =>
    ClassEntry.ofFields (bytes.getD (3 * i) 0) (bytes.getD (3 * i + 1) 0) (bytes.getD (3 * i + 2) 0)

theorem classPageOf_getElem (bytes : List Byte) {i : Nat} (hi : i < 8) :
    (classPageOf bytes)[i]
      = ClassEntry.ofFields (bytes.getD (3 * i) 0) (bytes.getD (3 * i + 1) 0) (bytes.getD (3 * i + 2) 0) :=
  Vector.getElem_ofFn hi

/-- R164: a body that passes the checks of its row: the page number, the length, and the fields of every entry. -/
def ClassBodyValid (page : Byte) (bytes : List Byte) : Prop :=
  page.toNat < 8 ∧ bytes.length = 24 ∧ ∀ i < 8,
    ClassFieldsValid (bytes.getD (3 * i) 0) (bytes.getD (3 * i + 1) 0) (bytes.getD (3 * i + 2) 0)

/-- R164: a body that passes every check has operands. -/
theorem classOperands_of_valid {page : Byte} {bytes : List Byte} (h : ClassBodyValid page bytes) :
    classOperands (page :: bytes) = some (⟨page.toNat, h.1⟩, classPageOf bytes) := by
  obtain ⟨hpage, hlen, hvalid⟩ := h
  exact classOperands_eq_some.2 ⟨rfl, hlen, fun i hi =>
    classEntryOperand_eq_some.2 ⟨hvalid i hi, (classPageOf_getElem bytes hi).symm⟩⟩

/-- R164: a body that fails one check has none. -/
theorem classOperands_of_not_valid {page : Byte} {bytes : List Byte} (h : ¬ ClassBodyValid page bytes) :
    classOperands (page :: bytes) = none := by
  refine Option.eq_none_iff_forall_ne_some.2 fun ⟨p, v⟩ hsome => h ?_
  obtain ⟨hpage, hlen, hrow⟩ := classOperands_eq_some.1 hsome
  exact ⟨by omega, hlen, fun i hi => (classEntryOperand_eq_some.1 (hrow i hi)).1⟩

/-! ### The Class Table after a page is replaced -/

/-- R164: the classes of the replaced page get its entries, and every other class keeps its own. -/
theorem ClassTable.entry_set (t : ClassTable) (p : Fin 8) (v : Vector ClassEntry 8) (c : ClassNo) :
    ClassTable.entry (t.set p v) c
      = if c.toNat / 8 = p then v[c.toNat % 8]'(Nat.mod_lt _ (by decide)) else ClassTable.entry t c := by
  simp only [ClassTable.entry, Vector.getElem_set, eq_comm (a := (p : Nat))]
  split <;> rfl

/-! ### The CLASS request -/

/-- R174: the CLASS request in processing is answered by the Station Controller. -/
theorem exec_classPage {s : State} {body : List Byte} (h : s.inProcessing 0x02 body) :
    exec (.classPage body) s
      = .next ((s.answerClass body).after.replied 0x02 (s.answerClass body).outcome (s.answerClass body).body) :=
  congrArg Host.Outcome.next (State.request_of_inProcessing h _)

/-- R164: outside CONFIG a CLASS request is answered STATE. -/
theorem State.answerClass_of_not_config {s : State} {body : List Byte} (h : s.station ≠ .config) :
    s.answerClass body = s.answers .state := by simp [State.answerClass, h]

/-- R164: a body that spells no page is answered BADARG. -/
theorem State.answerClass_of_no_page {s : State} {body : List Byte} (h : s.station = .config)
    (hbody : classOperands body = none) : s.answerClass body = s.answers .badArg := by
  simp [State.answerClass, h, hbody]

/-- R164: a body that spells a page replaces the page. -/
theorem State.answerClass_of_page {s : State} {body : List Byte} {p : Fin 8} {v : Vector ClassEntry 8}
    (h : s.station = .config) (hbody : classOperands body = some (p, v)) :
    s.answerClass body
      = { s with config := { s.config with classes := s.config.classes.set p v } }.okAfter := by
  simp [State.answerClass, h, hbody]

/-- Settles O6: the checks of R164 are those under which the body spells a page; the page that valid bytes spell is
then written. -/
theorem classWritesOnePage : Obligations.ClassWritesOnePage := by
  intro s body hreq
  rw [exec_classPage hreq]
  refine ⟨fun h => by rw [State.answerClass_of_not_config h]; rfl, fun h hbody => ?_, ?_⟩
  · rw [State.answerClass_of_no_page h (by rw [hbody]; rfl)]
    rfl
  rintro page es rfl
  refine ⟨fun h hbad => ?_, fun h hlen hpage hvalid => ?_⟩
  · have hinvalid : ¬ ClassBodyValid page es := by
      rintro ⟨hpage, hlen, hvalid⟩
      rcases hbad with hbad | hbad | ⟨i, hi, hbad⟩
      · exact hbad hlen
      · omega
      · obtain ⟨hflags, hdeadline, hlimit, hlimit7⟩ := hvalid i hi
        rcases hbad with hbad | hbad | hbad | hbad
        · exact hbad hflags
        · exact hdeadline hbad
        · exact hlimit hbad
        · omega
    rw [State.answerClass_of_no_page h (classOperands_of_not_valid hinvalid)]
    rfl
  · rw [State.answerClass_of_page h (classOperands_of_valid ⟨by omega, hlen, hvalid⟩)]
    refine ⟨_, rfl, rfl, fun c => (ClassTable.entry_set ..).trans ?_⟩
    rw [classPageOf_getElem]
    rfl

end Sys2Proof.Machine
end

section
/-! SUPPORT. The edges of SEL (R171, R172): what the Local Port makes of each edge, by the cases of the request in
processing, the pending reply, the open transaction and the restart close. -/

namespace Sys2Proof.Machine

/-! ### The falling edge -/

/-- R171: with a request in processing the edge opens an open-BUSY transaction. -/
theorem Port.fall_of_processing {p : Port} (h : p.processing.isSome = true) :
    p.fall = { p with selLow := true, transaction := .busy, shiftOut := [Config.markerBusy] } := by
  obtain ⟨request, hrequest⟩ := Option.isSome_iff_exists.1 h
  simp only [Port.fall, hrequest]

/-- R171: a pending reply is what the transaction shifts out. -/
theorem Port.fall_of_reply {p : Port} {r : Reply} (hprocessing : p.processing = none) (hreply : p.pendingReply = some r) :
    p.fall = { p with selLow := true, transaction := .opened, shiftOut := r.message } := by
  simp only [Port.fall, hprocessing, hreply]

/-- R171: with nothing in processing and no pending reply the transaction shifts out NONE. -/
theorem Port.fall_of_idle {p : Port} (hprocessing : p.processing = none) (hreply : p.pendingReply = none) :
    p.fall = { p with selLow := true, transaction := .opened, shiftOut := [Config.markerNone] } := by
  simp only [Port.fall, hprocessing, hreply]

/-- R171: outside pin reset a falling edge acts on the Local Port alone. -/
theorem exec_selFallingEdge {s : State} (hreset : s.inReset = false) (hsel : s.port.selLow = false) :
    exec .selFallingEdge s = .next { s with port := s.port.fall } := by
  change execSelFallingEdge s = _
  simp only [execSelFallingEdge, hreset, hsel, Bool.false_eq_true, if_false]

/-! ### The rising edge -/

/-- R172: with the restart close set, the edge consumes the reply and discards the request. -/
theorem Port.rise_of_restartClose {p : Port} (bytes : List Byte) (hopen : p.transaction = .opened)
    (hclose : p.restartClose = true) :
    p.rise bytes = { p with selLow := false, transaction := .closed, shiftOut := [], pendingReply := none
                            restartClose := false } := by
  simp only [Port.rise, hopen, hclose, if_true]

/-- R172: with the restart close clear, the edge consumes the reply and takes the request. -/
theorem Port.rise_of_open {p : Port} (bytes : List Byte) (hopen : p.transaction = .opened)
    (hclose : p.restartClose = false) :
    p.rise bytes = { p with selLow := false, transaction := .closed, shiftOut := [], pendingReply := none
                            processing := some (Request.ofBytes bytes) } := by
  simp only [Port.rise, hopen, hclose, Bool.false_eq_true, if_false]

/-- R172: the edge that ends an open-BUSY transaction takes nothing and consumes nothing. -/
theorem Port.rise_of_busy {p : Port} (bytes : List Byte) (hbusy : p.transaction = .busy) :
    p.rise bytes = { p with selLow := false, transaction := .closed, shiftOut := [] } := by
  simp only [Port.rise, hbusy]

/-- R172: a rising edge acts on the Local Port alone. -/
theorem exec_selRisingEdge {s : State} (bytes : List Byte) (hsel : s.port.selLow = true) :
    exec (.selRisingEdge bytes) s = .next { s with port := s.port.rise bytes } := by
  change execSelRisingEdge bytes s = _
  simp only [execSelRisingEdge, hsel, if_true]

/-- Settles O3: each edge is an edge of the Local Port, and its clauses are the cases of that edge; the bytes shifted
out are those of `Reply.message` and the markers of Table 9-2. -/
theorem selEdgesOpenAndCloseTransactions : Obligations.SelEdgesOpenAndCloseTransactions := by
  intro s bytes
  refine ⟨fun hreset hsel => ?falling, fun hsel => ?rising⟩
  case falling =>
    rw [exec_selFallingEdge hreset hsel]
    refine ⟨fun hbusy => ?_, fun r hprocessing hreply => ?_, fun hprocessing hreply => ?_⟩
    · rw [Port.fall_of_processing hbusy]
      rfl
    · rw [Port.fall_of_reply hprocessing hreply]
      rfl
    · rw [Port.fall_of_idle hprocessing hreply]
      rfl
  case rising =>
    rw [exec_selRisingEdge bytes hsel]
    refine ⟨fun hopen hclose => ?_, fun hopen hclose => ?_, fun hbusy => ?_⟩
    · rw [Port.rise_of_restartClose bytes hopen hclose]
    · rw [Port.rise_of_open bytes hopen hclose]
    · rw [Port.rise_of_busy bytes hbusy]

end Sys2Proof.Machine
end

section
/-! SUPPORT. The requests that only read (R190, R192 to R196, and NOP): what STATUS and LOOKUP reply, the bytes of FIND
that spell a pattern and the entries that fit it, and the first fit in the Event Table. -/

namespace Sys2Proof.Machine

/-! ### NOP, STATUS and LOOKUP -/

/-- R174: the NOP request in processing is answered OK. -/
theorem exec_nop {s : State} {body : List Byte} (h : s.inProcessing 0x00 body) :
    exec (.nop body) s = .next (s.replied 0x00 .ok []) :=
  congrArg Host.Outcome.next (State.request_of_inProcessing h _)

/-- R190: the STATUS request in processing is answered with the bytes of the station's standing. -/
theorem exec_status {s : State} {body : List Byte} (h : s.inProcessing 0x0A body) :
    exec (.status body) s = .next (s.replied 0x0A .ok s.statusBytes) :=
  congrArg Host.Outcome.next (State.request_of_inProcessing h _)

/-- R174: the LOOKUP request in processing is answered by the Event Table Unit. -/
theorem exec_lookup {s : State} {body : List Byte} (h : s.inProcessing 0x0B body) :
    exec (.lookup body) s
      = .next ((s.answerLookup body).after.replied 0x0B (s.answerLookup body).outcome (s.answerLookup body).body) :=
  congrArg Host.Outcome.next (State.request_of_inProcessing h _)

/-- R192: a body that is not one position is answered BADARG. -/
theorem State.answerLookup_of_length {s : State} {body : List Byte} (hlen : body.length ≠ 1) :
    s.answerLookup body = s.answers .badArg := by
  match body with
  | [] => rfl
  | [_] => simp at hlen
  | _ :: _ :: _ => rfl

/-- R192: a position past 47 is answered BADARG. -/
theorem State.answerLookup_of_past_47 {s : State} {position : Byte} (h : 47 < position.toNat) :
    s.answerLookup [position] = s.answers .badArg := by simp [State.answerLookup, h]

/-- R192: a position at or past the end of the table is answered END. -/
theorem State.answerLookup_of_no_entry {s : State} {position : Byte} (h : position.toNat ≤ 47)
    (hend : s.table.length ≤ position.toNat) : s.answerLookup [position] = s.answers .atEnd := by
  simp [State.answerLookup, Nat.not_lt.2 h, hend]

/-- R192, R193: a position with an entry is answered with the entry's record. -/
theorem State.answerLookup_of_entry {s : State} {position : Byte} {e : Entry} (h : position.toNat ≤ 47)
    (he : s.table[position.toNat]? = some e) :
    s.answerLookup [position] = { after := s, outcome := .ok, body := e.record } := by
  simp [State.answerLookup, Nat.not_lt.2 h, he]

/-- Settles O14: each clause is one of the answers above; what is left are the bytes of Table 9-7, by whether there is an
address, and those of Table 9-11, by the entry's claim and its last claimant. -/
theorem readingRequestsOnlyReply : Obligations.ReadingRequestsOnlyReply := by
  intro s body
  refine ⟨exec_nop, fun hstatus => ?_, fun hlookup => ?_⟩
  · rw [exec_status hstatus, State.statusBytes, State.address]
    cases s.config.address <;> rfl
  · rw [exec_lookup hlookup]
    refine ⟨fun hlen => by rw [State.answerLookup_of_length hlen]; rfl, ?_⟩
    rintro position rfl
    refine ⟨fun hpast => ?_, fun hin hend => ?_, fun e hin he => ?_⟩
    · rw [State.answerLookup_of_past_47 hpast]
      rfl
    · rw [State.answerLookup_of_no_entry hin hend]
      rfl
    · rw [State.answerLookup_of_entry hin he]
      obtain ⟨id, cls, priority, claim, lastClaimant, attempt, limit, deadline, payload⟩ := e
      cases claim <;> cases lastClaimant <;> rfl

/-! ### The pattern of a FIND body -/

/-- Table 9-10: a byte spells a field exactly when it is in the field's range or ANY. -/
theorem exists_anyOr_eq_some {α : Type} {b : Byte} {inRange : Prop} [Decidable inRange] {value : α} :
    (∃ field, anyOr b (decide inRange) value = some field) ↔ inRange ∨ b = 0xFF := by
  rw [anyOr]
  split
  case isTrue hany => simp [hany]
  case isFalse hany =>
    rw [or_iff_left hany]
    by_cases hin : inRange <;> simp [hin]

/-- Table 9-10: a field that is ANY passes every value; one in its range passes the value it spells. -/
theorem anyOr_passes {α : Type} {b : Byte} {inRange : Prop} [Decidable inRange] {value : α} {field actual : Option α}
    {test : Prop} (h : anyOr b (decide inRange) value = some field)
    (hvalue : inRange → (some value = actual ↔ test)) : field = none ∨ field = actual ↔ b = 0xFF ∨ test := by
  rw [anyOr] at h
  split at h
  case isTrue hany => simp [hany, ← Option.some.inj h]
  case isFalse hany =>
    obtain ⟨hin, heq⟩ := Option.ite_none_right_eq_some.1 h
    rw [← Option.some.inj heq, or_iff_right (Option.some_ne_none value), or_iff_right hany,
      hvalue (of_decide_eq_true hin)]

/-- A byte of at most 63 spells a value of six bits exactly when the byte is that value. -/
theorem setWidth_six_eq_iff {b : Byte} {x : BitVec 6} (h : b.toNat ≤ 63) : b.setWidth 6 = x ↔ b = x.setWidth 8 := by
  constructor <;> intro heq <;> bv_omega

/-- Table 9-10: a state byte in range is 0 (OPEN) or 1 (CLAIMED). -/
theorem toNat_le_one_iff {b : Byte} : b.toNat ≤ 1 ↔ b = 0 ∨ b = 1 := by bv_omega

/-- R194, Table 9-10: the six bytes of a FIND body are in range. -/
abbrev FindBytesValid (start cls origin state claimant bound : Byte) : Prop :=
  start.toNat ≤ 47 ∧ (cls.toNat ≤ 63 ∨ cls = 0xFF) ∧ ((1 ≤ origin.toNat ∧ origin.toNat ≤ 62) ∨ origin = 0xFF)
    ∧ (state = 0 ∨ state = 1 ∨ state = 0xFF) ∧ ((1 ≤ claimant.toNat ∧ claimant.toNat ≤ 62) ∨ claimant = 0xFF)
    ∧ bound.toNat ≤ 7

/-- R195: an entry passes the five tests, told by the bytes of the FIND body. -/
abbrev PassesFindBytes (cls origin state claimant bound : Byte) (e : Entry) : Prop :=
  (cls = 0xFF ∨ cls = e.cls.setWidth 8) ∧ (origin = 0xFF ∨ origin = e.id.origin.setWidth 8)
    ∧ (state = 0xFF ∨ (state = 0 ∧ e.claim = none) ∨ (state = 1 ∧ e.claim ≠ none))
    ∧ (claimant = 0xFF ∨ e.claim.map (fun c => c.claimant.setWidth 8) = some claimant)
    ∧ e.priority.toNat ≤ bound.toNat

/-- R194: a body of other than six bytes spells no pattern. -/
theorem findOperands_of_length {body : List Byte} (hlen : body.length ≠ 6) : findOperands body = none := by
  match body with
  | [] | [_] | [_, _] | [_, _, _] | [_, _, _, _] | [_, _, _, _, _] | _ :: _ :: _ :: _ :: _ :: _ :: _ :: _ => rfl
  | [_, _, _, _, _, _] => simp at hlen

/-- R194: six bytes spell a pattern when the four fields that may be ANY each have a value, and the start and the
bound are in range. -/
theorem findOperands_eq_some {start cls origin state claimant bound : Byte} {p : Pattern} :
    findOperands [start, cls, origin, state, claimant, bound] = some p
      ↔ anyOr cls (cls.toNat ≤ 63) (cls.setWidth 6) = some p.cls
        ∧ anyOr origin (1 ≤ origin.toNat ∧ origin.toNat ≤ 62) (origin.setWidth 6) = some p.origin
        ∧ anyOr state (state.toNat ≤ 1) (decide (state = 1)) = some p.claimed
        ∧ anyOr claimant (1 ≤ claimant.toNat ∧ claimant.toNat ≤ 62) (claimant.setWidth 6) = some p.claimant
        ∧ start.toNat ≤ 47 ∧ bound.toNat ≤ 7 ∧ start.toNat = p.start ∧ bound.setWidth 3 = p.bound := by
  obtain ⟨pstart, pcls, porigin, pclaimed, pclaimant, pbound⟩ := p
  rw [findOperands]
  split
  · rename_i hc ho hs hcl
    rw [hc, ho, hs, hcl]
    simp only [Option.ite_none_right_eq_some, Option.some.injEq, Pattern.mk.injEq]
    tauto
  · rename_i hnone
    simp only [reduceCtorEq, false_iff]
    rintro ⟨hc, ho, hs, hcl, -⟩
    exact hnone _ _ _ _ hc ho hs hcl

/-- R194: six bytes spell a pattern exactly when they are in range. -/
theorem exists_findOperands_eq_some {start cls origin state claimant bound : Byte} :
    (∃ p, findOperands [start, cls, origin, state, claimant, bound] = some p)
      ↔ FindBytesValid start cls origin state claimant bound := by
  have hstateRange : state.toNat ≤ 1 ∨ state = 0xFF ↔ state = 0 ∨ state = 1 ∨ state = 0xFF := by
    rw [toNat_le_one_iff, or_assoc]
  rw [FindBytesValid, ← hstateRange]
  constructor
  · rintro ⟨p, hp⟩
    obtain ⟨hcls, horigin, hstate, hclaimant, hstart, hbound, -, -⟩ := findOperands_eq_some.1 hp
    exact ⟨hstart, exists_anyOr_eq_some.1 ⟨_, hcls⟩, exists_anyOr_eq_some.1 ⟨_, horigin⟩,
      exists_anyOr_eq_some.1 ⟨_, hstate⟩, exists_anyOr_eq_some.1 ⟨_, hclaimant⟩, hbound⟩
  · rintro ⟨hstart, hclsIn, horiginIn, hstateIn, hclaimantIn, hbound⟩
    obtain ⟨c, hcls⟩ := exists_anyOr_eq_some.2 hclsIn
    obtain ⟨o, horigin⟩ := exists_anyOr_eq_some.2 horiginIn
    obtain ⟨st, hstate⟩ := exists_anyOr_eq_some.2 hstateIn
    obtain ⟨cl, hclaimant⟩ := exists_anyOr_eq_some.2 hclaimantIn
    exact ⟨⟨_, c, o, st, cl, _⟩, findOperands_eq_some.2 ⟨hcls, horigin, hstate, hclaimant, hstart, hbound, rfl, rfl⟩⟩

/-- R195: an entry fits the pattern that six bytes spell exactly when it passes the five tests of these bytes. -/
theorem fits_of_findOperands {start cls origin state claimant bound : Byte} {p : Pattern}
    (h : findOperands [start, cls, origin, state, claimant, bound] = some p) (e : Entry) :
    p.fits e = true ↔ PassesFindBytes cls origin state claimant bound e := by
  obtain ⟨hcls, horigin, hstate, hclaimant, -, hbound, -, hpbound⟩ := findOperands_eq_some.1 h
  have hclsTest := anyOr_passes (actual := some e.cls) hcls fun hin =>
    Option.some_inj.trans (setWidth_six_eq_iff hin)
  have horiginTest := anyOr_passes (actual := some e.id.origin) horigin fun hin =>
    Option.some_inj.trans (setWidth_six_eq_iff (Nat.le_succ_of_le hin.2))
  have hstateTest := anyOr_passes (actual := some e.claim.isSome)
    (test := (state = 0 ∧ e.claim = none) ∨ (state = 1 ∧ e.claim ≠ none)) hstate fun hin => by
      rcases toNat_le_one_iff.1 hin with rfl | rfl <;> cases e.claim <;> simp
  have hclaimantTest := anyOr_passes (actual := e.claim.map Claim.claimant)
    (test := e.claim.map (fun c => c.claimant.setWidth 8) = some claimant) hclaimant fun hin => by
      cases e.claim with
      | none => simp
      | some c =>
        have hwidth : claimant.setWidth 6 = c.claimant ↔ claimant = c.claimant.setWidth 8 :=
          setWidth_six_eq_iff (Nat.le_succ_of_le hin.2)
        rw [Option.map_some, Option.map_some, Option.some_inj, Option.some_inj, hwidth, eq_comm]
  have hboundTest : e.priority ≤ p.bound ↔ e.priority.toNat ≤ bound.toNat := by
    rw [← hpbound]
    bv_omega
  simp only [Pattern.fits, PassesFindBytes, decide_eq_true_iff]
  exact and_congr hclsTest (and_congr horiginTest (and_congr hstateTest (and_congr hclaimantTest hboundTest)))

/-! ### The first fit in a list of entries -/

/-- R196: no entry at or after the start fits, and none is found. -/
theorem findFrom_eq_none {p : Pattern} : ∀ {l : List Entry} {here : Nat},
    (∀ i e, p.start ≤ here + i → l[i]? = some e → p.fits e = false) → findFrom p here l = none
  | [], _, _ => rfl
  | e :: rest, here, h => by
    have hskip : ¬ (p.start ≤ here ∧ p.fits e = true) := fun ⟨hstart, hfits⟩ => by
      simp [h 0 e hstart rfl] at hfits
    rw [findFrom, if_neg hskip]
    refine findFrom_eq_none fun i x hstart hx => h (i + 1) x (by omega) hx

/-- R196: the entry that fits with no fitting entry between it and the start is the one found. -/
theorem findFrom_of_first {p : Pattern} {e : Entry} (hfits : p.fits e = true) :
    ∀ {l : List Entry} {here i : Nat}, p.start ≤ here + i → l[i]? = some e →
      (∀ j x, p.start ≤ here + j → j < i → l[j]? = some x → p.fits x = false) →
      findFrom p here l = some (here + i, e)
  | e' :: rest, here, 0, hstart, he, _ => by
    obtain rfl : e' = e := by simpa using he
    rw [findFrom, if_pos ⟨hstart, hfits⟩]
    rfl
  | x :: rest, here, i + 1, hstart, he, hbefore => by
    have hskip : ¬ (p.start ≤ here ∧ p.fits x = true) := fun ⟨hstart, hx⟩ => by
      simp [hbefore 0 x hstart i.succ_pos rfl] at hx
    rw [findFrom, if_neg hskip, findFrom_of_first hfits (i := i) (by omega) he fun j y hj hji hy =>
      hbefore (j + 1) y (by omega) (by omega) hy]
    congr 2
    omega

/-! ### The FIND request -/

/-- R174: the FIND request in processing is answered by the Event Table Unit. -/
theorem exec_find {s : State} {body : List Byte} (h : s.inProcessing 0x0C body) :
    exec (.find body) s
      = .next ((s.answerFind body).after.replied 0x0C (s.answerFind body).outcome (s.answerFind body).body) :=
  congrArg Host.Outcome.next (State.request_of_inProcessing h _)

/-- R194: a body that spells no pattern is answered BADARG. -/
theorem State.answerFind_of_no_pattern {s : State} {body : List Byte} (hbody : findOperands body = none) :
    s.answerFind body = s.answers .badArg := by simp [State.answerFind, hbody]

/-- R196: a pattern that no entry of the search fits is answered END. -/
theorem State.answerFind_of_no_fit {s : State} {body : List Byte} {p : Pattern} (hbody : findOperands body = some p)
    (hfind : findFrom p 0 s.table = none) : s.answerFind body = s.answers .atEnd := by
  simp [State.answerFind, hbody, hfind]

/-- R196: the entry found is answered with its position and its record. -/
theorem State.answerFind_of_fit {s : State} {body : List Byte} {p : Pattern} {position : Nat} {e : Entry}
    (hbody : findOperands body = some p) (hfind : findFrom p 0 s.table = some (position, e)) :
    s.answerFind body = { after := s, outcome := .ok, body := BitVec.ofNat 8 position :: e.record } := by
  simp [State.answerFind, hbody, hfind]

/-- Settles O15: bytes in range spell a pattern, an entry passes the five tests exactly when it fits that pattern, and
the search finds the first fit. -/
theorem findGivesTheFirstFit : Obligations.FindGivesTheFirstFit := by
  intro s body hreq
  rw [exec_find hreq]
  refine ⟨fun hlen => by rw [State.answerFind_of_no_pattern (findOperands_of_length hlen)]; rfl, ?_⟩
  rintro start cls origin state claimant bound rfl good fits
  refine ⟨fun hbad => ?_, fun hgood => ?_⟩
  · have hinvalid : ¬ FindBytesValid start cls origin state claimant bound := of_decide_eq_false hbad
    rw [← exists_findOperands_eq_some, not_exists] at hinvalid
    rw [State.answerFind_of_no_pattern (Option.eq_none_iff_forall_ne_some.2 hinvalid)]
    rfl
  · obtain ⟨p, hp⟩ := exists_findOperands_eq_some.2 (of_decide_eq_true hgood)
    obtain ⟨-, -, -, -, -, -, hstart, -⟩ := findOperands_eq_some.1 hp
    have hfits : ∀ e, p.fits e = fits e := fun e =>
      Bool.eq_iff_iff.2 ((fits_of_findOperands hp e).trans decide_eq_true_iff.symm)
    simp only [← hfits, hstart]
    refine ⟨fun i e hi he hfit hfirst => ?_, fun hnone => ?_⟩
    · have hfound : findFrom p 0 s.table = some (i, e) := by
        simpa using findFrom_of_first hfit (here := 0) (by omega) he fun j x hj => hfirst j x (by omega)
      rw [State.answerFind_of_fit hp hfound]
    · have hmissed : findFrom p 0 s.table = none := findFrom_eq_none fun j x hj => hnone j x (by omega)
      rw [State.answerFind_of_no_fit hp hmissed]
      rfl

end Sys2Proof.Machine
end

section
/-! SUPPORT. The step and the pins, the request that bytes spell, SETUP, the causes of a STATION notice, the state after
reset, and the lock on the configuration. -/

namespace Sys2Proof.Machine

/-! ### The step -/

/-- Every command has a next state. -/
theorem exec_next (c : Instr) (s : State) : ∃ t : State, exec c s = .next t := by
  cases c <;> exact ⟨_, rfl⟩

/-- While no command waits, a step is a bit time. -/
theorem step_of_empty {s : State} (h : s.pending = []) : step s = .next s.bitTime := by simp [step, h]

/-- While a command waits, a step executes the one at the front. -/
theorem step_of_cons {s : State} {c : Instr} {rest : List Instr} (h : s.pending = c :: rest) :
    step s = exec c { s with pending := rest } := by simp [step, h]

/-- What every command and every bit time keeps, a step keeps. -/
theorem step_keeps {P : State → Prop} (hpending : ∀ (s : State) (rest : List Instr), P s → P { s with pending := rest })
    (hbit : ∀ s : State, P s → P s.bitTime) (hexec : ∀ (c : Instr) (s t : State), P s → exec c s = .next t → P t)
    {s t : State} (hs : P s) (hstep : step s = .next t) : P t := by
  cases hp : s.pending with
  | nil =>
    rw [step_of_empty hp] at hstep
    cases hstep
    exact hbit s hs
  | cons c rest =>
    rw [step_of_cons hp] at hstep
    exact hexec c _ t (hpending s rest hs) hstep

/-- Settles O1: by the form of the command queue, and the next state that every command has. -/
theorem stepRunsFrontCommand : Obligations.StepRunsFrontCommand := by
  intro s
  refine ⟨fun c rest h => step_of_cons h, ?_⟩
  cases hp : s.pending with
  | nil => exact ⟨_, step_of_empty hp⟩
  | cons c rest =>
    rw [step_of_cons hp]
    exact exec_next c _

/-! ### Pins -/

/-- R172: a rising edge with no transaction open takes no request. -/
theorem Port.rise_of_closed {p : Port} (h : p.transaction = .closed) (bytes : List Byte) :
    p.rise bytes = { p with selLow := false, shiftOut := [] } := by
  obtain ⟨selLow, transaction, shiftOut, pendingReply, processing, restartClose⟩ := p
  cases h
  rfl

/-- Settles O2: the pin reset by the values it writes, its end by the divider, and the edge that follows by the closed
transaction. -/
theorem pinResetClearsEveryBlock : Obligations.PinResetClearsEveryBlock := by
  intro s bytes
  refine ⟨rfl, fun hreset => ⟨congrArg Host.Outcome.next (if_pos hreset), fun hclosed hlow => ?_⟩⟩
  refine congrArg Host.Outcome.next ((if_pos hlow).trans ?_)
  dsimp only
  rw [Port.rise_of_closed hclosed]

/-! ### Malformed requests (R173) -/

/-- R173: the four cases in which bytes spell no request. -/
def malformedBytes (bytes : List Byte) : Prop :=
  bytes.length < 2 ∨ 15 < (bytes.getD 0 0).toNat ∨ 32 < (bytes.getD 1 0).toNat
    ∨ bytes.length < 2 + (bytes.getD 1 0).toNat

/-- R173: bytes of one of the four cases are taken as malformed, with their code or FFh. -/
theorem Request.ofBytes_of_malformed {bytes : List Byte} (h : malformedBytes bytes) :
    Request.ofBytes bytes = .malformed (bytes.headD 0xFF) := by
  match bytes with
  | [] => rfl
  | [_] => rfl
  | code :: len :: rest =>
    have hcase : 15 < code.toNat ∨ Config.maxBody < len.toNat ∨ rest.length < len.toNat := by
      simp only [malformedBytes, List.length_cons, List.getD_cons_zero, List.getD_cons_succ] at h
      simp only [Config.maxBody]
      omega
    rcases hcase with hcode | hlen | hrest
    · simp [Request.ofBytes, hcode]
    · simp [Request.ofBytes, hlen]
    · simp [Request.ofBytes, hrest]

/-- R173: any other bytes spell their code and body. -/
theorem Request.ofBytes_of_not_malformed {bytes : List Byte} (h : ¬ malformedBytes bytes) :
    Request.ofBytes bytes = .good (bytes.getD 0 0) ((bytes.drop 2).take (bytes.getD 1 0).toNat) := by
  match bytes with
  | [] => simp [malformedBytes] at h
  | [_] => simp [malformedBytes] at h
  | code :: len :: rest =>
    simp only [malformedBytes, List.length_cons, List.getD_cons_zero, List.getD_cons_succ, not_or] at h
    obtain ⟨-, hcode, hlen, hrest⟩ := h
    exact (if_neg hcode).trans ((if_neg hlen).trans (if_neg (by omega)))

/-- Settles O4: the bytes spell a malformed request in the four cases, and a request in every other. -/
theorem malformedRequestAnswered : Obligations.MalformedRequestAnswered := by
  intro s bytes hreset hproc
  constructor
  · intro h
    rw [Request.ofBytes_of_malformed h] at hproc
    show Host.Outcome.next _ = _
    simp only [Request.ofBytes_of_malformed h, State.processes, hreset, hproc, State.complete_eq_replied]
    simp
  · intro h
    rw [Request.ofBytes_of_not_malformed h] at hproc
    refine ⟨hproc, ?_⟩
    show Host.Outcome.next _ = _
    simp only [Request.ofBytes_of_not_malformed h]

/-! ### SETUP (R162) -/

/-- R174: the SETUP request in processing is answered by the Station Controller. -/
theorem exec_setup {s : State} {body : List Byte} (h : s.inProcessing 0x01 body) :
    exec (.setup body) s
      = .next ((s.answerSetup body).after.replied 0x01 (s.answerSetup body).outcome (s.answerSetup body).body) :=
  congrArg Host.Outcome.next (State.request_of_inProcessing h _)

/-- R162: outside CONFIG a SETUP request is answered STATE. -/
theorem State.answerSetup_of_not_config {s : State} {body : List Byte} (h : s.station ≠ .config) :
    s.answerSetup body = s.answers .state := by simp [State.answerSetup, h]

/-- R162: a body without operands is answered BADARG. -/
theorem State.answerSetup_of_no_operands {s : State} {body : List Byte} (h : s.station = .config)
    (hbody : setupOperands body = none) : s.answerSetup body = s.answers .badArg := by
  simp [State.answerSetup, h, hbody]

/-- R162: a body of other than three bytes has no operands. -/
theorem setupOperands_of_length {body : List Byte} (h : body.length ≠ 3) : setupOperands body = none := by
  match body with
  | [] => rfl
  | [_] => rfl
  | [_, _] => rfl
  | [_, _, _] => simp at h
  | _ :: _ :: _ :: _ :: _ => rfl

/-- R162: three bytes have operands exactly when each is in its range. -/
theorem setupOperands_three (address rate slots : Byte) :
    setupOperands [address, rate, slots] =
      if 1 ≤ address.toNat ∧ address.toNat ≤ 62 ∧ rate.toNat ≤ 3 ∧ 1 ≤ slots.toNat ∧ slots.toNat ≤ 4 then
        some (address.setWidth 6, rate.setWidth 2, slots.toNat)
      else none := rfl

/-- Settles O5: by station state, body length and the ranges of the three bytes. -/
theorem setupWritesAllOrNothing : Obligations.SetupWritesAllOrNothing := by
  intro s body hreq
  rw [exec_setup hreq]
  refine ⟨fun h => by rw [State.answerSetup_of_not_config h]; rfl, fun h hlen => ?_, ?_⟩
  · rw [State.answerSetup_of_no_operands h (setupOperands_of_length hlen)]
    rfl
  rintro address rate slots h rfl
  refine ⟨fun hbad => ?_, fun hgood => ?_⟩
  · rw [State.answerSetup_of_no_operands h (by rw [setupOperands_three, if_neg (by omega)])]
    rfl
  · simp [State.answerSetup, h, setupOperands_three, hgood, State.okAfter]

/-! ### Causes of a STATION notice (R184) -/

/-- A notice is a STATION notice exactly when it holds a cause set. -/
theorem Notice.isStation_eq_true {n : Notice} : n.isStation = true ↔ ∃ causes : Byte, n = .station causes := by
  cases n <;> simp [Notice.isStation]

/-- R184: without a STATION notice in the queue a cause queues one. -/
theorem State.raiseCause_of_none {s : State} {c : StationCause} (h : ∀ n ∈ s.notices, n.isStation = false) :
    s.raiseCause c = { s with notices := s.notices ++ [.station c.bit] } := by
  have hnone : s.notices.any Notice.isStation = false := by simpa using h
  simp [State.raiseCause, hnone, State.notify]

/-- R184: with a STATION notice in the queue a cause joins it. -/
theorem State.raiseCause_of_some {s : State} {c : StationCause} {n : Notice} (hn : n ∈ s.notices)
    (h : n.isStation = true) : s.raiseCause c = { s with notices := s.notices.map (Notice.addCause c) } := by
  have hany : s.notices.any Notice.isStation = true := List.any_eq_true.2 ⟨n, hn, h⟩
  simp [State.raiseCause, hany]

/-- A cause changes no row of notices without a STATION notice. -/
theorem map_addCause_of_none {c : StationCause} {l : List Notice} (h : ∀ n ∈ l, n.isStation = false) :
    l.map (Notice.addCause c) = l := by
  conv_rhs => rw [← List.map_id l]
  exact List.map_congr_left fun n hn => Notice.addCause_of_not_station c (h n hn)

/-- Settles O20: by whether a STATION notice waits; the others are left by the cause that joins. -/
theorem causeJoinsTheStationNotice : Obligations.CauseJoinsTheStationNotice := by
  intro s c
  have hother : ∀ l : List Notice, (∀ n ∈ l, ∀ causes : Byte, n ≠ .station causes) →
      ∀ n ∈ l, n.isStation = false := by
    intro l hl n hn
    rw [← Bool.not_eq_true, Notice.isStation_eq_true]
    exact fun ⟨causes, hcauses⟩ => hl n hn causes hcauses
  refine ⟨fun h => ?_, fun before later causes hsplit h => ?_⟩
  · rw [State.raiseCause_of_none (hother _ h)]
    cases c <;> rfl
  · have hbefore := map_addCause_of_none (c := c) (hother before fun n hn => h n (List.mem_append_left _ hn))
    have hlater := map_addCause_of_none (c := c) (hother later fun n hn => h n (List.mem_append_right _ hn))
    rw [State.raiseCause_of_some (n := .station causes) (by simp [hsplit]) rfl, hsplit, List.map_append, List.map_cons,
      hbefore, hlater]
    cases c <;> rfl

/-! ### The state after reset -/

/-- R159: a station in CONFIG whose lists are empty and whose counts are 0 meets every law. -/
theorem State.lawful_of_cleared {s : State} (hctl : s.ctl = Controller.cleared) (hliu : s.liu = Liu.cleared)
    (hconfig : s.config = Configuration.cleared) (htable : s.table = []) (hqueue : s.queue = [])
    (himage : s.image = none) (hheld : s.held = []) (horigin : s.origin = []) (hnotices : s.notices = []) :
    s.Lawful := by
  have hstation : s.station = .config := congrArg Controller.state hctl
  have hfailures : s.liu.failures = 0 := congrArg Liu.failures hliu
  have hline : s.frameOnLine = none := by simp [State.frameOnLine, hqueue]
  refine ⟨by simp [State.TableLaw, htable], ⟨by simp [hqueue], by simp [himage, hline], by simp [hqueue]⟩,
    ⟨by simp [hfailures], by simp [hfailures, Config.failureLimit], fun _ => ⟨hqueue, himage⟩⟩, by simp [State.OriginLaw, horigin],
    ⟨by simp [hconfig, Configuration.cleared], by simp [hconfig, Configuration.cleared], by simp [hheld], by simp [hheld],
      by simp [hheld]⟩, by simp [State.OwnEventsLaw, htable, horigin],
    by simp [State.NoticeLaw, State.StationNoticeLaw, hnotices, horigin, hheld], ?controller, by simp [hqueue],
    by simp [State.imageMatches, himage, hline]⟩
  case controller =>
    simp [State.ControllerLaw, hstation, hctl, htable, hheld, horigin, hnotices, Controller.cleared]

/-- Settles O57: every list is empty and every count 0. -/
theorem resetStateIsLawful : Obligations.ResetStateIsLawful :=
  ⟨State.lawful_of_cleared rfl rfl rfl rfl rfl rfl rfl rfl rfl, by simp [State.PortLaw, State.reset, Port.cleared],
    by simp [State.CountLaw, State.reset, Liu.cleared], rfl, rfl, rfl, rfl⟩

end Sys2Proof.Machine
end

section
/-! SUPPORT. What every operation of a step keeps of the laws that speak of one block alone: of the table, the Frame
Queue, the Origin List, the notices, the port, the counts and the standing of the station. -/

namespace Sys2Proof.Machine

/-- R72, R141: the standing of a station in the middle of a step: the failure count may have come to 8 before MUTE is
entered. -/
abbrev State.QuietLaw (s : State) : Prop :=
  s.liu.failures ≤ Config.failureLimit
    ∧ (s.station = .config ∨ s.station = .detached ∨ s.station = .mute → s.queue = [] ∧ s.image = none)

/-- What an operation in the middle of a step keeps, law by law. -/
structure State.KeepsBlocks (s t : State) : Prop where
  table : s.TableLaw → t.TableLaw
  queue : s.QueueLaw → t.QueueLaw
  quiet : s.QuietLaw → t.QuietLaw
  origin : s.OriginLaw → t.OriginLaw
  notices : s.StationNoticeLaw → t.StationNoticeLaw
  port : s.PortLaw → t.PortLaw
  counts : s.CountLaw → t.CountLaw
  locked : s.station ≠ .config → t.station ≠ .config ∧ t.config = s.config

/-- What an operation that leaves no failure count of 8 outside MUTE keeps, law by law. -/
structure State.Keeps (s t : State) : Prop extends s.KeepsBlocks t where
  standing : s.StandingLaw → t.StandingLaw

theorem State.StandingLaw.quietLaw {s : State} (h : s.StandingLaw) : s.QuietLaw := ⟨h.1, h.2.2⟩

theorem State.KeepsBlocks.trans {s t u : State} (h : s.KeepsBlocks t) (k : t.KeepsBlocks u) : s.KeepsBlocks u where
  table := k.table ∘ h.table
  queue := k.queue ∘ h.queue
  quiet := k.quiet ∘ h.quiet
  origin := k.origin ∘ h.origin
  notices := k.notices ∘ h.notices
  port := k.port ∘ h.port
  counts := k.counts ∘ h.counts
  locked hs := ⟨(k.locked (h.locked hs).1).1, (k.locked (h.locked hs).1).2.trans (h.locked hs).2⟩

theorem State.Keeps.trans {s t u : State} (h : s.Keeps t) (k : t.Keeps u) : s.Keeps u where
  toKeepsBlocks := h.toKeepsBlocks.trans k.toKeepsBlocks
  standing := k.standing ∘ h.standing

theorem State.Keeps.rfl {s : State} : s.Keeps s := ⟨⟨id, id, id, id, id, id, id, fun h => ⟨h, Eq.refl _⟩⟩, id⟩

/-- What each step of a fold keeps, the fold keeps. -/
theorem State.Keeps.foldl {α : Type} {op : State → α → State} (h : ∀ (s : State) (a : α), s.Keeps (op s a)) (l : List α) (s : State) :
    s.Keeps (l.foldl op s) := by
  induction l generalizing s with
  | nil => exact .rfl
  | cons a l ih => exact (h s a).trans (ih (op s a))

/-! ### Changes of one block -/

section
variable (s : State)

/-- No law of a block speaks of these items. -/
theorem State.keeps_rest (pending : List Instr) (inReset : Bool) (divider : Nat) (held : List HeldRecord)
    (serialCounter : Serial) (c : Controller) (hc : c.state = s.ctl.state) :
    s.Keeps { s with
      pending := pending, inReset := inReset, divider := divider, held := held, serialCounter := serialCounter
      ctl := c } := by
  refine ⟨⟨id, id, ?_, id, id, id, id, ?_⟩, ?_⟩ <;> simp [State.StandingLaw, State.QuietLaw, State.station, hc]

/-- A change of station state. -/
theorem State.keeps_ctl (c : Controller)
    (hquiet : c.state = .config ∨ c.state = .detached ∨ c.state = .mute → s.queue = [] ∧ s.image = none)
    (hmute : c.state = .mute ∨ s.station ≠ .mute ∨ s.liu.failures ≠ Config.failureLimit)
    (hconfig : s.station ≠ .config → c.state ≠ .config) : s.Keeps { s with ctl := c } := by
  refine ⟨⟨id, id, fun h => ⟨h.1, hquiet⟩, id, id, id, id, fun h => ⟨hconfig h, rfl⟩⟩, fun h => ⟨h.1, fun h8 => ?_, hquiet⟩⟩
  rcases hmute with hm | hm | hm
  · exact hm
  · exact absurd (h.2.1 h8) hm
  · exact absurd h8 hm

/-- A change of the LIU whose counts stay in bounds and whose failure count stays or is cleared. -/
theorem State.keeps_liu (l : Liu) (hfailures : l.failures = s.liu.failures ∨ l.failures = 0)
    (hcounts : s.CountLaw → State.CountLaw { s with liu := l }) : s.Keeps { s with liu := l } := by
  rcases hfailures with hf | hf
  · refine ⟨⟨id, id, ?_, id, id, id, hcounts, fun h => ⟨h, rfl⟩⟩, ?_⟩ <;> simp [State.StandingLaw, State.QuietLaw, hf]
  · refine ⟨⟨id, id, fun h => ⟨?_, h.2⟩, id, id, id, hcounts, fun h => ⟨h, rfl⟩⟩, fun h => ⟨?_, ?_, h.2.2⟩⟩
    all_goals simp [hf, Config.failureLimit]

theorem State.keeps_table (t : List Entry) (h : s.TableLaw → State.TableLaw { s with table := t }) :
    s.Keeps { s with table := t } :=
  ⟨⟨h, id, id, id, id, id, id, fun hs => ⟨hs, rfl⟩⟩, id⟩

/-- A change of the queue that leaves an empty queue of a quiet station empty. -/
theorem State.keeps_queue (q : List QueuedFrame) (image : Option TransmitImage)
    (hqueue : s.QueueLaw → State.QueueLaw { s with queue := q, image := image })
    (hquiet : s.takesPosts = true ∨ (s.queue = [] → q = []) ∧ (s.image = none → image = none)) :
    s.Keeps { s with queue := q, image := image } := by
  have hstill : (s.station = .config ∨ s.station = .detached ∨ s.station = .mute → s.queue = [] ∧ s.image = none) →
      (s.station = .config ∨ s.station = .detached ∨ s.station = .mute → q = [] ∧ image = none) := by
    intro h hstation
    rcases hquiet with ht | ⟨hq, hi⟩
    · rcases hstation with h' | h' | h' <;> simp [State.takesPosts, h'] at ht
    · exact ⟨hq (h hstation).1, hi (h hstation).2⟩
  exact ⟨⟨id, hqueue, fun h => ⟨h.1, hstill h.2⟩, id, id, id, id, fun hs => ⟨hs, rfl⟩⟩,
    fun h => ⟨h.1, h.2.1, hstill h.2.2⟩⟩

theorem State.keeps_origin (o : List OriginRecord) (h : s.OriginLaw → State.OriginLaw { s with origin := o }) :
    s.Keeps { s with origin := o } :=
  ⟨⟨id, id, id, h, id, id, id, fun hs => ⟨hs, rfl⟩⟩, id⟩

theorem State.keeps_notices (n : List Notice) (h : s.StationNoticeLaw → State.StationNoticeLaw { s with notices := n }) :
    s.Keeps { s with notices := n } :=
  ⟨⟨id, id, id, id, h, id, id, fun hs => ⟨hs, rfl⟩⟩, id⟩

theorem State.keeps_port (p : Port) (h : s.PortLaw → State.PortLaw { s with port := p }) : s.Keeps { s with port := p } :=
  ⟨⟨id, id, id, id, id, h, id, fun hs => ⟨hs, rfl⟩⟩, id⟩

/-- R166: the configuration is changed in CONFIG. -/
theorem State.keeps_config (c : Configuration) (h : s.station = .config) : s.Keeps { s with config := c } :=
  ⟨⟨id, id, id, id, id, id, id, fun hs => absurd h hs⟩, id⟩

end

/-! ### The Frame Queue -/

/-- A queue that loses frames off the Line has the same frame on it. -/
theorem find?_onLine_filter {l : List QueuedFrame} {p : QueuedFrame → Bool}
    (hp : ∀ q ∈ l, q.onLine = true → p q = true) :
    (l.filter p).find? QueuedFrame.onLine = l.find? QueuedFrame.onLine := by
  rw [List.find?_filter]
  refine List.find?_congr fun q hq => ?_
  cases honLine : q.onLine
  · simp
  · simp [hp q hq honLine]

/-- A queue that loses frames of which none is on the Line keeps its law. -/
theorem State.queueLaw_filter {s : State} {p : QueuedFrame → Bool} (hp : ∀ q ∈ s.queue, q.onLine = true → p q = true)
    (h : s.QueueLaw) : State.QueueLaw { s with queue := s.queue.filter p } := by
  obtain ⟨hplaces, himage, hline⟩ := h
  have hfind := find?_onLine_filter hp
  refine ⟨hplaces.sublist (List.filter_sublist.map _), ?_, ?_⟩
  · simpa only [State.frameOnLine, hfind] using himage
  · exact (List.filter_sublist.filter _).length_le.trans hline

/-- A frame that enters an empty place, off the Line, keeps the law of the queue. -/
theorem State.queueLaw_append {s : State} {f : Queued} (hf : ∀ q ∈ s.queue, q.frame.place ≠ f.place) (h : s.QueueLaw) :
    State.QueueLaw { s with queue := s.queue ++ [{ frame := f, onLine := false }] } := by
  obtain ⟨hplaces, himage, hline⟩ := h
  refine ⟨?_, ?_, ?_⟩
  · simp only [List.map_append, List.map_cons, List.map_nil]
    refine hplaces.append (List.nodup_singleton _) ?_
    simp only [List.disjoint_singleton, List.mem_map, not_exists, not_and]
    exact fun q hq => hf q hq
  · simpa [State.frameOnLine] using himage
  · simpa using hline

/-- With nothing on the Line and no transmit image, distinct places are the law of the queue. -/
theorem State.queueLaw_of_off {s : State} (hplaces : (s.queue.map fun q => q.frame.place).Nodup)
    (hoff : ∀ q ∈ s.queue, q.onLine = false) (himage : s.image = none) : s.QueueLaw := by
  have hline : s.frameOnLine = none := List.find?_eq_none.2 fun q hq => by simp [hoff q hq]
  refine ⟨hplaces, by simp [himage, hline], ?_⟩
  rw [List.filter_eq_nil_iff.2 fun q hq => by simp [hoff q hq]]
  exact Nat.zero_le _

/-- R81: what an answer to a post says of the place. -/
theorem State.postAnswer_placed {s : State} {f : Queued} (h : s.postAnswer f = .placed) :
    s.takesPosts = true ∧ framePlaced s.queue f.place = none := by
  unfold State.postAnswer at h
  split at h
  · rename_i ht
    split at h
    · rename_i hp; exact ⟨ht, hp⟩
    · (repeat' split at h) <;> cases h
  · cases h

/-- R81: a frame is replaced by a post off the Line only. -/
theorem State.postAnswer_replaced {s : State} {f : Queued} (h : s.postAnswer f = .replaced) :
    s.takesPosts = true ∧ ∃ g, framePlaced s.queue f.place = some g ∧ g.onLine = false ∧ givesWay g.frame f = true := by
  unfold State.postAnswer at h
  split at h
  · rename_i ht
    split at h
    · cases h
    · rename_i g hp
      split at h
      · cases h
      · rename_i hoff
        split at h
        · rename_i hw; exact ⟨ht, g, hp, by simpa using hoff, hw⟩
        · cases h
  · cases h

/-- R78: in a queue of distinct places, the frames of a place are the one found there. -/
theorem eq_of_framePlaced {q : List QueuedFrame} {p : Place} {g x : QueuedFrame}
    (hn : (q.map fun f => f.frame.place).Nodup) (h : framePlaced q p = some g) (hx : x ∈ q) (hp : x.frame.place = p) :
    x = g := by
  obtain ⟨hg, hgp⟩ := framePlaced_some h
  exact List.inj_on_of_nodup_map hn hx hg (hp.trans hgp.symm)

theorem State.keeps_post (s : State) (f : Queued) : s.Keeps (s.post f) := by
  unfold State.post
  split
  · rename_i h
    obtain ⟨ht, hp⟩ := State.postAnswer_placed h
    exact s.keeps_queue _ s.image (State.queueLaw_append (framePlaced_none.1 hp)) (.inl ht)
  · rename_i h
    obtain ⟨ht, g, hp, hoff, -⟩ := State.postAnswer_replaced h
    refine s.keeps_queue _ s.image (fun hq => ?_) (.inl ht)
    have hkept : ∀ q ∈ s.queue, q.onLine = true → (decide ¬ q.frame.place = f.place) = true := by
      intro q hq' honLine
      rw [decide_eq_true_eq]
      intro hplace
      rw [eq_of_framePlaced hq.1 hp hq' hplace, hoff] at honLine
      cases honLine
    exact State.queueLaw_append (s := { s with queue := withoutPlace s.queue f.place })
      (fun q hq' => by simpa [withoutPlace] using (List.mem_filter.1 hq').2) (State.queueLaw_filter hkept hq)
  · exact .rfl
  · exact .rfl
  · exact .rfl

/-- A removal of frames off the Line. -/
theorem State.keeps_filter (s : State) (p : QueuedFrame → Bool) (hp : ∀ q ∈ s.queue, q.onLine = true → p q = true) :
    s.Keeps { s with queue := s.queue.filter p } :=
  s.keeps_queue _ s.image (State.queueLaw_filter hp) (.inr ⟨fun h => by simp [h], id⟩)

theorem State.keeps_removeFrame (s : State) (p : Place) : s.Keeps (s.removeFrame p) :=
  s.keeps_filter _ fun q _ h => by simp [h]

theorem State.keeps_purge (s : State) : s.Keeps s.purge := s.keeps_filter _ fun q _ h => by simp [h]

theorem State.keeps_keepFrame (s : State) : s.Keeps s.keepFrame :=
  s.keeps_queue _ none
    (fun h => State.queueLaw_of_off (by simpa [Function.comp_def] using h.1) (by simp) rfl) (.inr ⟨fun h => by simp [h], fun _ => rfl⟩)

theorem State.keeps_dropFrame (s : State) : s.Keeps s.dropFrame :=
  s.keeps_queue _ none
    (fun h => State.queueLaw_of_off (h.1.sublist (List.filter_sublist.map _)) (by simp) rfl)
    (.inr ⟨fun h => by simp [h], fun _ => rfl⟩)

/-- R93: every frame is purged. -/
def State.clearQueue (s : State) : State := { s with queue := [], image := none }

theorem State.keeps_clearQueue (s : State) : s.Keeps s.clearQueue :=
  s.keeps_queue _ none (fun _ => State.queueLaw_of_off (by simp) (by simp) rfl) (.inr ⟨fun _ => rfl, fun _ => rfl⟩)

theorem State.keeps_clearImage {s : State} (h : s.frameOnLine = none) : s.Keeps { s with image := none } :=
  s.keeps_queue _ none
    (fun hq => State.queueLaw_of_off hq.1 (fun q hq' => by simpa using List.find?_eq_none.1 h q hq') rfl)
    (.inr ⟨id, fun _ => rfl⟩)

/-- R84: the frame selected is one of the queue, as composed. -/
theorem State.selected_some {s : State} {q : QueuedFrame} {f : Frame} (h : s.selected = some (q, f)) :
    q ∈ s.queue ∧ s.compose q.frame = some f := by
  have hmem := pickLeast_mem _ _ _ h
  simp only [State.candidates, List.mem_filterMap, Option.map_eq_some_iff, Prod.mk.injEq] at hmem
  obtain ⟨q', hq', f', hf', rfl, rfl⟩ := hmem
  exact ⟨hq', hf'⟩

/-- R61, R84: what a station that is ready to start has. -/
theorem State.readyToStart_iff {s : State} :
    s.readyToStart = true ↔ s.takesPosts = true ∧ s.liu.startUpIdle = Config.startUpSamples ∧ s.frameOnLine = none
      ∧ s.image = none ∧ ∃ q f, s.selected = some (q, f) := by
  simp [State.readyToStart, Option.isSome_iff_exists]

/-- R85: the queue once the frame of a place is on the Line. -/
def markOnLine (q : List QueuedFrame) (p : Place) : List QueuedFrame :=
  q.map fun g => if g.frame.place = p then { g with onLine := true } else g

theorem map_place_markOnLine (q : List QueuedFrame) (p : Place) :
    (markOnLine q p).map (fun g => g.frame.place) = q.map fun g => g.frame.place := by
  simp only [markOnLine, List.map_map]
  refine List.map_congr_left fun g _ => ?_
  dsimp only [Function.comp]
  split <;> rfl

/-- R85: of a queue with nothing on the Line, the frame marked is the only one on it. -/
theorem filter_onLine_markOnLine {l : List QueuedFrame} {q : QueuedFrame} (hn : (l.map fun g => g.frame.place).Nodup)
    (hoff : ∀ g ∈ l, g.onLine = false) (hq : q ∈ l) :
    (markOnLine l q.frame.place).filter QueuedFrame.onLine = [{ q with onLine := true }] := by
  induction l with
  | nil => cases hq
  | cons a l ih =>
    have hrest : ∀ p : Place, (∀ g ∈ l, g.frame.place ≠ p) → (markOnLine l p).filter QueuedFrame.onLine = [] := by
      intro p hp
      simp only [markOnLine, List.filter_eq_nil_iff, List.mem_map]
      rintro _ ⟨g, hg, rfl⟩
      rw [if_neg (hp g hg), hoff g (List.mem_cons_of_mem _ hg)]
      simp
    simp only [List.map_cons, List.nodup_cons, List.mem_map, not_exists, not_and] at hn
    rcases List.mem_cons.1 hq with rfl | hq
    · simpa [markOnLine] using hrest q.frame.place fun g hg => hn.1 g hg
    · have ha : a.frame.place ≠ q.frame.place := fun h => hn.1 q hq h.symm
      have hoffa := hoff a List.mem_cons_self
      simpa [markOnLine, ha, hoffa] using ih hn.2 (fun g hg => hoff g (List.mem_cons_of_mem _ hg)) hq

theorem State.keeps_startFrame {s : State} (h : s.readyToStart = true) : s.Keeps s.startFrame := by
  obtain ⟨ht, hstart, hline, himage, q, f, hsel⟩ := State.readyToStart_iff.1 h
  obtain ⟨hq, -⟩ := State.selected_some hsel
  simp only [State.startFrame, hsel]
  have hqueue : s.Keeps { s with
      queue := markOnLine s.queue q.frame.place, image := some { frame := f, bits := f.wireBits } } := by
    refine s.keeps_queue _ _ (fun hlaw => ?_) (.inl ht)
    have hoff : ∀ g ∈ s.queue, g.onLine = false := fun g hg => by simpa using List.find?_eq_none.1 hline g hg
    have hmarked := filter_onLine_markOnLine hlaw.1 hoff hq
    refine ⟨by rw [map_place_markOnLine]; exact hlaw.1, ?_, by rw [hmarked]; exact le_rfl⟩
    have hsome : (State.frameOnLine { s with
        queue := markOnLine s.queue q.frame.place, image := some { frame := f, bits := f.wireBits } }).isSome = true := by
      simp only [State.frameOnLine, List.find?_isSome]
      exact ⟨{ q with onLine := true }, List.mem_of_mem_filter (hmarked ▸ List.mem_singleton_self _), rfl⟩
    simp [hsome]
  exact hqueue.trans (State.keeps_liu _ _ (.inl rfl) fun hc => ⟨hc.1, hc.2.1, Nat.zero_le _, hc.2.2.2⟩)

theorem State.keeps_remakeBid (s : State) : s.Keeps s.remakeBid := by
  rcases s.remakeBid_cases with e | ⟨-, e⟩ | ⟨x, -, e⟩
  · rw [e]; exact .rfl
  · rw [e]; exact s.keeps_removeFrame _
  · rw [e]; exact s.keeps_post _

theorem State.keeps_remakeLapse (s : State) : s.Keeps s.remakeLapse := by
  rcases s.remakeLapse_cases with e | ⟨-, ⟨-, e⟩ | ⟨x, -, e⟩⟩
  · rw [e]; exact .rfl
  · rw [e]; exact s.keeps_removeFrame _
  · rw [e]; exact s.keeps_post _

theorem State.keeps_remakeChoices (s : State) : s.Keeps s.remakeChoices :=
  s.keeps_remakeLapse.trans (State.keeps_remakeBid _)

/-! ### Notices and the port -/

theorem State.keeps_notify (s : State) (n : Notice) (hn : n.isStation = false) : s.Keeps (s.notify n) :=
  s.keeps_notices _ fun h => by simpa [State.StationNoticeLaw, List.filter_append, hn] using h

theorem State.keeps_raiseCause (s : State) (c : StationCause) : s.Keeps (s.raiseCause c) := by
  unfold State.raiseCause
  split
  · refine s.keeps_notices _ fun h => ?_
    have hcomp : Notice.isStation ∘ Notice.addCause c = Notice.isStation := funext (Notice.addCause_isStation c)
    simpa [State.StationNoticeLaw, List.filter_map, hcomp] using h
  · rename_i hnone
    refine s.keeps_notices _ fun _ => ?_
    have hfilter : s.notices.filter Notice.isStation = [] := by simpa using hnone
    simp [State.StationNoticeLaw, hfilter, List.filter_cons, Notice.isStation]

theorem State.keeps_complete (s : State) (code : Byte) (o : ReplyCode) (b : List Byte) : s.Keeps (s.complete code o b) :=
  s.keeps_port _ fun h => ⟨by simp, h.2⟩

/-! ### Records -/

/-- A change of the Held List, which no law of a block speaks of. -/
theorem State.keeps_held (s : State) (held : List HeldRecord) : s.Keeps { s with held := held } :=
  s.keeps_rest _ _ _ held _ _ rfl

/-- A change of the station's counters and marks that leaves its state. -/
theorem State.keeps_items (s : State) (c : Controller) (hc : c.state = s.ctl.state) : s.Keeps { s with ctl := c } :=
  s.keeps_rest _ _ _ _ _ c hc

theorem State.keeps_noticeDeadline (s : State) (id : Identity) (a : Attempt) : s.Keeps (s.noticeDeadline id a) := by
  unfold State.noticeDeadline
  split
  · exact .rfl
  · split
    · exact (s.keeps_held _).trans (State.keeps_notify _ _ rfl)
    · exact .rfl

theorem State.keeps_revoke (s : State) (id : Identity) (c : RevokeCause) : s.Keeps (s.revoke id c) := by
  unfold State.revoke
  split
  · exact .rfl
  · split
    · exact (s.keeps_held _).trans (State.keeps_notify _ _ rfl)
    · exact .rfl

theorem State.keeps_createHeld (s : State) (id : Identity) (a : Attempt) : s.Keeps (s.createHeld id a) := by
  unfold State.createHeld
  dsimp only
  split
  · exact (s.keeps_held _).trans (State.keeps_post _ _)
  · exact s.keeps_held _

theorem State.keeps_settleHeld (s : State) (id : Identity) : s.Keeps (s.settleHeld id) := by
  unfold State.settleHeld
  split
  · exact .rfl
  · split <;> exact s.keeps_held _

theorem State.keeps_popHeld (s : State) (id : Identity) : s.Keeps (s.popHeld id) := by
  have hset : s.Keeps (s.setHeld id fun r => { r with unread := r.unread - 1 }) := s.keeps_held _
  refine hset.trans ?_
  unfold State.popHeld
  dsimp only
  split
  · exact .rfl
  · split
    · exact (State.keeps_held _ _).trans (State.keeps_remakeBid _)
    · exact .rfl

/-- A change of a record that keeps its serial. -/
theorem State.keeps_setOrigin (s : State) (n : Serial) (f : OriginRecord → OriginRecord)
    (hf : ∀ r, (f r).serial = r.serial) : s.Keeps (s.setOrigin n f) := by
  refine s.keeps_origin _ fun h => ?_
  have hserials : (s.origin.map fun r => if r.serial = n then f r else r).map OriginRecord.serial
      = s.origin.map OriginRecord.serial := by
    simp only [List.map_map]
    refine List.map_congr_left fun r _ => ?_
    dsimp only [Function.comp]
    split
    · exact hf r
    · rfl
  exact ⟨by simpa using h.1, by rw [hserials]; exact h.2⟩

/-- A removal of records. -/
theorem State.keeps_popOrigin (s : State) (n : Serial) : s.Keeps (s.popOrigin n) :=
  s.keeps_origin _ fun h =>
    ⟨(List.length_filter_le _ _).trans h.1, h.2.sublist (List.filter_sublist.map _)⟩

theorem State.keeps_closeOrigin (s : State) (n : Serial) (o : FinalOutcome) (m : Notice) (hm : m.isStation = false) :
    s.Keeps (s.closeOrigin n o m) := by
  unfold State.closeOrigin
  exact State.Keeps.trans (s.keeps_setOrigin n _ (by exact fun _ => rfl)) (State.keeps_notify _ m hm)

theorem State.keeps_postWithdraw (s : State) (n : Serial) : s.Keeps (s.postWithdraw n) := s.keeps_post _

theorem State.keeps_beginWithdraw (s : State) (n : Serial) : s.Keeps (s.beginWithdraw n) :=
  State.Keeps.trans (s.keeps_setOrigin n _ (by exact fun _ => rfl)) (State.keeps_postWithdraw _ n)

theorem State.keeps_originRemoved (s : State) (id : Identity) (o : FinalOutcome) (m : Notice) (hm : m.isStation = false) :
    s.Keeps (s.originRemoved id o m) := by
  unfold State.originRemoved
  split
  · exact .rfl
  · split
    · exact (s.keeps_filter _ fun q _ h => by simp [h]).trans (State.keeps_closeOrigin _ _ _ _ hm)
    · exact .rfl

theorem State.keeps_restateAll (s : State) : s.Keeps s.restateAll := by
  refine State.Keeps.foldl (fun s r => ?_) _ _
  split
  · exact s.keeps_post _
  · exact .rfl

theorem State.keeps_reportOrigin (s : State) (id : Identity) (c : RemovalCause) : s.Keeps (s.reportOrigin id c) := by
  unfold State.reportOrigin
  split
  · split
    · exact s.keeps_originRemoved _ _ _ rfl
    · exact s.keeps_originRemoved _ _ _ rfl
    · exact s.keeps_originRemoved _ _ _ rfl
    · exact .rfl
  · exact .rfl

theorem State.keeps_deliver (b : Bool) (f : Frame) (s : State) (r : Report) : s.Keeps (State.deliver b f s r) := by
  cases r with
  | removed id a c =>
    simp only [State.deliver]
    split
    · exact s.keeps_reportOrigin _ _
    · exact (s.keeps_reportOrigin _ _).trans (State.keeps_revoke _ _ _)
  | claimed id a n =>
    simp only [State.deliver]
    split
    · exact s.keeps_createHeld _ _
    · exact .rfl
  | reopened id c a n =>
    simp only [State.deliver]
    split
    · exact .rfl
    · exact s.keeps_revoke _ _
  | updated id a n => exact s.keeps_revoke _ _
  | inserted id a => exact .rfl
  | expired id a => exact s.keeps_noticeDeadline _ _

theorem State.keeps_deliverExpiry (s : State) (r : Report) : s.Keeps (s.deliverExpiry r) := by
  cases r with
  | expired id a => exact s.keeps_noticeDeadline _ _
  | removed id a c => exact .rfl
  | claimed id a n => exact .rfl
  | reopened id c a n => exact .rfl
  | updated id a n => exact .rfl
  | inserted id a => exact .rfl

end Sys2Proof.Machine
end

section
/-! SUPPORT. What the changes of station state, the outcomes of own frames and the samples of the Line keep of the laws of
one block. -/

namespace Sys2Proof.Machine

/-! ### Counts of samples -/

/-- R60, R61, R74, R75: the counts of a LIU stand within their last thresholds. -/
def Liu.countsIn (l : Liu) : Prop :=
  l.startUpIdle ≤ Config.startUpSamples ∧ l.recessive ≤ Config.recoverySamples
    ∧ l.dominant ≤ Config.stuckSamples ∧ l.idle ≤ Config.idleSamples

theorem Liu.countsIn_sample {l : Liu} (h : l.countsIn) (b : Bool) : (l.sample b).countsIn := by
  obtain ⟨hstart, hrecessive, hdominant, hidle⟩ := h
  cases b
  · refine ⟨?_, Nat.zero_le _, ?_, Nat.zero_le _⟩
    · simp only [Liu.sample, Bool.false_eq_true, if_false]
      split <;> omega
    · simp only [Liu.sample, Bool.false_eq_true, if_false]
      split
      · exact hdominant
      · exact Nat.min_le_right _ _
  · exact ⟨Nat.min_le_right _ _, Nat.min_le_right _ _, Nat.zero_le _, Nat.min_le_right _ _⟩

theorem Liu.countsIn_sampleAll {l : Liu} (h : l.countsIn) (bits : List Bool) : (l.sampleAll bits).countsIn := by
  induction bits generalizing l with
  | nil => exact h
  | cons b rest ih => exact ih (l := l.sample b) (Liu.countsIn_sample h b)

theorem Liu.countsIn_atEdge {l : Liu} (h : l.countsIn) : l.atEdge.countsIn := ⟨h.1, h.2.1, Nat.zero_le _, h.2.2.2⟩

theorem Liu.countsIn_endFrame {l : Liu} (h : l.countsIn) (bits : List Bool) (a o r : Bool) :
    (l.endFrame bits a o r).countsIn :=
  have hsampled := Liu.countsIn_sampleAll h bits
  ⟨hsampled.1, Nat.zero_le _, hsampled.2.2.1, Nat.zero_le _⟩

theorem Liu.countsIn_spaced {l : Liu} (h : l.countsIn) : l.spaced.countsIn :=
  ⟨h.1, max_le h.2.1 (by decide), Nat.zero_le _, max_le h.2.2.2 (by decide)⟩

theorem Liu.countsIn_recover {l : Liu} (h : l.countsIn) : l.recover.countsIn :=
  ⟨le_rfl, le_rfl, Nat.zero_le _, max_le h.2.2.2 (by decide)⟩

theorem Liu.countsIn_stick {l : Liu} (h : l.countsIn) : l.stick.countsIn := by
  refine ⟨?_, Nat.zero_le _, Nat.le_refl _, Nat.zero_le _⟩
  simp only [Liu.stick]
  split
  · exact h.1
  · exact Nat.zero_le _

theorem Liu.countsIn_outcome {l : Liu} (h : l.countsIn) (o : FrameOutcome) : (l.outcome o).countsIn := by
  cases o <;> exact h

theorem Liu.countsIn_frameTaken {l : Liu} (h : l.countsIn) (me : Address) (b : Bool) (f : Frame) (a : Level) :
    (l.frameTaken me b f a).countsIn := by
  unfold Liu.frameTaken
  (repeat' split) <;> exact h

/-- A change of the LIU that keeps its failure count and the bounds of its counts. -/
theorem State.keeps_liu_of_failures {s : State} {l : Liu} (hf : l.failures = s.liu.failures)
    (h : s.liu.countsIn → l.countsIn) : s.Keeps { s with liu := l } :=
  s.keeps_liu l (.inl hf) h

/-! ### Changes of station state -/

theorem State.keeps_enterActive {s : State} (h : s.station ≠ .mute ∨ s.liu.failures ≠ Config.failureLimit) :
    s.Keeps s.enterActive := by
  have hctl : s.Keeps { s with ctl := { s.ctl with state := .active, joinStage := none } } :=
    s.keeps_ctl _ (by simp) (.inr h) (by simp)
  exact ((hctl.trans (State.keeps_raiseCause _ _)).trans (State.keeps_remakeBid _)).trans (State.keeps_remakeLapse _)

theorem State.keeps_refuseQueued (s : State) : s.Keeps s.refuseQueued := by
  refine State.Keeps.foldl (fun s r => ?_) _ _
  split
  · exact s.keeps_closeOrigin _ _ _ rfl
  · exact .rfl

/-- A cause raised before the queue is purged is one raised after. -/
theorem State.clearQueue_raiseCause (s : State) (c : StationCause) :
    (s.raiseCause c).clearQueue = s.clearQueue.raiseCause c := by
  unfold State.raiseCause State.clearQueue
  dsimp only
  split <;> rfl

/-- R93, R138, R154: the purge and the change to MUTE, in either order. -/
theorem State.keeps_mute (s : State) (m : MuteCause) (raise : State → State)
    (hraise : ∀ s : State, (raise s).clearQueue = raise s.clearQueue) (hkeeps : ∀ s : State, s.Keeps (raise s)) :
    s.Keeps (raise (s.toMute m)).mutePurge := by
  have heq : (raise (s.toMute m)).mutePurge = (raise (s.clearQueue.toMute m)).refuseQueued :=
    congrArg State.refuseQueued (hraise (s.toMute m))
  have hmute : s.clearQueue.Keeps (s.clearQueue.toMute m) :=
    State.keeps_ctl _ _ (fun _ => ⟨rfl, rfl⟩) (.inl rfl) (by simp)
  rw [heq]
  exact ((s.keeps_clearQueue.trans hmute).trans (hkeeps _)).trans (State.keeps_refuseQueued _)

theorem State.keeps_muteFailures (s : State) : s.Keeps s.muteFailures := by
  rcases s.muteFailures_cases with e | ⟨-, -, e⟩
  · rw [e]; exact .rfl
  · rw [e]
    exact s.keeps_mute .failures (fun s => s.raiseCause .muted) (fun s => s.clearQueue_raiseCause _)
      (fun s => s.keeps_raiseCause _)

theorem State.keeps_addressClash (s : State) : s.Keeps s.addressClash := by
  unfold State.addressClash
  split
  · exact (s.keeps_items _ (by rfl)).trans (State.keeps_raiseCause _ _)
  · exact s.keeps_mute .addressClash (fun s => (s.raiseCause .muted).raiseCause .addressClash)
      (fun s => by rw [State.clearQueue_raiseCause, State.clearQueue_raiseCause])
      (fun s => (s.keeps_raiseCause _).trans (State.keeps_raiseCause _ _))

/-- R154: with MUTE entered, a failure count of 8 stands in MUTE only. -/
theorem State.standingLaw_muteFailures {s : State} (hquiet : s.QuietLaw) (ht : s.takesPosts = true) :
    s.muteFailures.StandingLaw := by
  have hkept := s.keeps_muteFailures.quiet hquiet
  refine ⟨hkept.1, fun h8 => ?_, hkept.2⟩
  rw [State.muteFailures_liu] at h8
  have hmuted : s.muteFailures = ((s.toMute .failures).raiseCause .muted).mutePurge := if_pos ⟨ht, h8⟩
  rw [hmuted]
  simp [State.station, State.toMute]

theorem State.keeps_enterDetached {s : State} (hqueue : s.queue = []) (himage : s.image = none)
    (hstation : s.station ≠ .mute) : s.Keeps s.enterDetached := by
  have hctl : s.Keeps { s with ctl := { s.ctl with state := .detached, draining := false } } :=
    s.keeps_ctl _ (fun _ => ⟨hqueue, himage⟩) (.inr (.inl hstation)) (by simp)
  have htable := State.keeps_table { s with ctl := { s.ctl with state := .detached, draining := false } } []
    (by simp [State.TableLaw])
  have hliu := State.keeps_liu_of_failures
    (s := { s with ctl := { s.ctl with state := .detached, draining := false }, table := [] }) (l := s.liu.hold) rfl
    fun _ => ⟨Nat.zero_le _, Nat.zero_le _, Nat.zero_le _, Nat.zero_le _⟩
  exact ((hctl.trans htable).trans hliu).trans (State.keeps_raiseCause _ _)

/-- R151: what a complete drain has. -/
theorem State.drainComplete_iff {s : State} : s.drainComplete = true ↔
    (∀ r ∈ s.origin, r.unsettled = false) ∧ (∀ r ∈ s.held, r.state = .closed) ∧ s.queue = [] ∧ s.image = none := by
  simp [State.drainComplete]

theorem State.keeps_testDrain (s : State) : s.Keeps s.testDrain := by
  rcases s.testDrain_cases with e | ⟨hleaving, -, hdrain, e⟩
  · rw [e]; exact .rfl
  · rw [e]
    obtain ⟨-, -, hqueue, himage⟩ := State.drainComplete_iff.1 hdrain
    exact State.keeps_enterDetached hqueue himage (by simp [hleaving])

theorem State.keeps_releaseAwaiting (s : State) : s.Keeps s.releaseAwaiting := by
  refine State.Keeps.foldl (fun s r => ?_) _ _
  split
  · exact (s.keeps_post _).trans (State.keeps_held _ _)
  · exact .rfl

theorem State.keeps_leaveRecord (s : State) (r : OriginRecord) : s.Keeps (s.leaveRecord r) := by
  unfold State.leaveRecord
  split
  · split
    · split
      · exact s.keeps_setOrigin _ _ fun _ => rfl
      · exact (s.keeps_removeFrame _).trans (State.keeps_closeOrigin _ _ _ _ rfl)
    · exact s.keeps_closeOrigin _ _ _ rfl
  · exact s.keeps_beginWithdraw _
  · exact .rfl
  · exact .rfl

theorem State.keeps_enterLeaving {s : State} (h : s.station = .active) : s.Keeps s.enterLeaving := by
  have hctl : s.Keeps { s with ctl := { s.ctl with state := .leaving, draining := true } } :=
    s.keeps_ctl _ (by simp) (.inr (.inl (by simp [h]))) (by simp)
  have hplaces := (State.keeps_removeFrame { s with ctl := { s.ctl with state := .leaving, draining := true } } .bid).trans
    (State.keeps_removeFrame _ .lapse)
  exact (((hctl.trans hplaces).trans (State.keeps_releaseAwaiting _)).trans
    (State.Keeps.foldl State.keeps_leaveRecord _ _)).trans (State.keeps_testDrain _)

theorem State.keeps_repostWithdraws (s : State) : s.Keeps s.repostWithdraws := by
  refine State.Keeps.foldl (fun s r => ?_) _ _
  split
  · exact s.keeps_postWithdraw _
  · exact .rfl

/-- R158: the LIU when a restart proceeds. -/
def State.restartLiu (s : State) : Liu :=
  if s.station = .detached then { s.liu with failures := 0, alone := false }.release
  else { s.liu with failures := 0, alone := false, startUpIdle := 0 }

theorem State.restartNow_liu (s : State) : s.restartNow.liu = s.restartLiu := rfl

@[simp] theorem State.restartLiu_failures (s : State) : s.restartLiu.failures = 0 := by
  unfold State.restartLiu
  split <;> rfl

theorem State.keeps_restartNow (s : State) : s.Keeps s.restartNow := by
  have hliu : s.Keeps { s with liu := s.restartLiu } := by
    refine s.keeps_liu _ (.inr (by simp)) fun hc => ?_
    unfold State.restartLiu
    split
    · exact ⟨Nat.zero_le _, Nat.zero_le _, Nat.zero_le _, Nat.zero_le _⟩
    · exact ⟨Nat.zero_le _, hc.2.1, hc.2.2.1, hc.2.2.2⟩
  have hctl := State.keeps_ctl { s with liu := s.restartLiu } s.restartNow.ctl (by simp [State.restartNow])
    (.inr (.inr (by simp [Config.failureLimit]))) (by simp [State.restartNow])
  have hrest := State.keeps_rest { s with liu := s.restartLiu, ctl := s.restartNow.ctl } s.pending s.inReset s.divider [] 0
    s.restartNow.ctl rfl
  have hqueue := State.keeps_clearQueue
    { s with liu := s.restartLiu, ctl := s.restartNow.ctl, held := [], serialCounter := 0 }
  have htable := State.keeps_table
    (State.clearQueue { s with liu := s.restartLiu, ctl := s.restartNow.ctl, held := [], serialCounter := 0 }) []
    (by simp [State.TableLaw])
  have horigin := State.keeps_origin { State.clearQueue
    { s with liu := s.restartLiu, ctl := s.restartNow.ctl, held := [], serialCounter := 0 } with table := [] } []
    (by simp [State.OriginLaw])
  have hnotices := State.keeps_notices { State.clearQueue
    { s with liu := s.restartLiu, ctl := s.restartNow.ctl, held := [], serialCounter := 0 } with
      table := [], origin := [] } s.restartNow.notices
    (by simp [State.StationNoticeLaw, State.restartNow, List.filter_cons, Notice.isStation])
  have hport := State.keeps_port { State.clearQueue
    { s with liu := s.restartLiu, ctl := s.restartNow.ctl, held := [], serialCounter := 0 } with
      table := [], origin := [], notices := s.restartNow.notices } s.restartNow.port
    fun h => ⟨by simp [State.restartNow], h.2⟩
  exact ((((((hliu.trans hctl).trans hrest).trans hqueue).trans htable).trans horigin).trans hnotices).trans hport

/-- R158: a station that has restarted stands in LISTEN with no failure. -/
theorem State.standingLaw_restartNow (s : State) : s.restartNow.StandingLaw := by
  have hf : s.restartNow.liu.failures = 0 := s.restartLiu_failures
  exact ⟨by simp [hf], by simp [hf, Config.failureLimit], by simp [State.station, State.restartNow]⟩

theorem State.keeps_startUpReached (s : State) : s.Keeps s.startUpReached := by
  unfold State.startUpReached
  split
  · exact (s.keeps_items _ (by rfl)).trans (State.keeps_post _ _)
  · exact .rfl

theorem State.keeps_idleReached (s : State) : s.Keeps s.idleReached := by
  unfold State.idleReached
  split
  · rename_i h
    exact State.keeps_enterActive (.inl (by simp [h.1]))
  · exact .rfl

theorem State.keeps_joinTaken {s : State} (h : s.liu.failures ≠ Config.failureLimit) (fresh : Bool) (accept : Level) :
    s.Keeps (s.joinTaken fresh accept) := by
  have hfresh : ∀ u : State, u.liu.failures ≠ Config.failureLimit → u.Keeps
      (match accept with
        | .recessive => u.enterActive
        | .dominant => { u with ctl := { u.ctl with joinStage := some .window } }) := by
    intro u hu
    cases accept
    · exact u.keeps_items _ rfl
    · exact State.keeps_enterActive (.inr hu)
  cases fresh
  · exact hfresh s h
  · exact State.Keeps.trans (s.keeps_items { s.ctl with freshOwed := false } rfl)
      (hfresh { s with ctl := { s.ctl with freshOwed := false } } h)

/-! ### Outcomes of own frames -/

theorem State.keeps_toldTaken {s : State} (h : s.liu.failures ≠ Config.failureLimit) (accept : Level) (q : Queued) :
    s.Keeps (s.toldTaken accept q) := by
  cases q <;> simp only [State.toldTaken]
  case raise =>
    split
    · exact .rfl
    · split
      · exact s.keeps_beginWithdraw _
      · exact s.keeps_setOrigin _ _ fun _ => rfl
  case restate =>
    split
    · exact .rfl
    · split
      · exact s.keeps_postWithdraw _
      · exact .rfl
  case withdraw => exact .rfl
  case bid => exact s.keeps_remakeBid
  case lapse => exact s.keeps_remakeLapse
  case finish => exact (s.keeps_settleHeld _).trans (State.keeps_remakeBid _)
  case release => exact (s.keeps_settleHeld _).trans (State.keeps_remakeBid _)
  case join => exact State.keeps_joinTaken h _ _

theorem State.keeps_closeWithdrawn (s : State) (id : Identity) : s.Keeps (s.closeWithdrawn id) :=
  (s.keeps_removeFrame _).trans (State.keeps_closeOrigin _ _ _ _ rfl)

theorem State.keeps_toldRefused (s : State) (q : Queued) : s.Keeps (s.toldRefused q) := by
  cases q <;> simp only [State.toldRefused]
  case raise =>
    split
    · exact .rfl
    · split
      · exact s.keeps_closeWithdrawn _
      · exact s.keeps_closeOrigin _ _ _ rfl
  case restate =>
    split
    · exact .rfl
    · split
      · exact s.keeps_postWithdraw _
      · exact .rfl
  all_goals exact .rfl

theorem State.keeps_toldKept (s : State) (q : Queued) : s.Keeps (s.toldKept q) := by
  cases q <;> simp only [State.toldKept]
  case raise =>
    split
    · exact .rfl
    · split
      · exact s.keeps_closeWithdrawn _
      · exact .rfl
  case restate =>
    split
    · exact .rfl
    · split
      · exact s.keeps_postWithdraw _
      · exact .rfl
  case bid =>
    split
    · exact s.keeps_removeFrame _
    · exact s.keeps_remakeBid
  case lapse =>
    split
    · exact s.keeps_removeFrame _
    · exact s.keeps_remakeLapse
  all_goals exact .rfl

theorem State.keeps_reportOutcome {s : State} {o : FrameOutcome} (h : o = .taken → s.liu.failures ≠ Config.failureLimit)
    (accept : Level) : s.Keeps (s.reportOutcome o accept) := by
  unfold State.reportOutcome
  split
  · rename_i hline
    exact State.keeps_clearImage hline
  · cases o
    · exact s.keeps_dropFrame.trans (State.keeps_toldTaken (by exact h rfl) _ _)
    · exact s.keeps_dropFrame.trans (State.keeps_toldRefused _ _)
    · exact s.keeps_keepFrame.trans (State.keeps_toldKept _ _)
    · exact s.keeps_keepFrame.trans (State.keeps_toldKept _ _)

theorem State.keeps_tellAlone (s : State) (before : Bool) : s.Keeps (s.tellAlone before) := by
  unfold State.tellAlone
  split
  · exact .rfl
  · split <;> exact s.keeps_raiseCause _

/-- A failure more stays within the limit; MUTE is still to be entered. -/
theorem State.keepsBlocks_outcome (s : State) (o : FrameOutcome) : s.KeepsBlocks { s with liu := s.liu.outcome o } := by
  refine ⟨id, id, fun h => ⟨?_, h.2⟩, id, id, id, fun h => Liu.countsIn_outcome h o, fun h => ⟨h, rfl⟩⟩
  cases o
  · exact Nat.zero_le _
  · exact Nat.zero_le _
  · exact Nat.min_le_right _ _
  · exact h.1

/-- An outcome that counts no failure. -/
theorem State.keeps_outcome {s : State} {o : FrameOutcome} (h : o ≠ .corrupted) :
    s.Keeps { s with liu := s.liu.outcome o } := by
  refine s.keeps_liu _ ?_ fun hc => Liu.countsIn_outcome hc o
  cases o
  · exact .inr rfl
  · exact .inr rfl
  · exact absurd rfl h
  · exact .inl rfl

/-- A restart that waited clears whatever the outcome has counted. -/
theorem State.restartNow_outcome (s : State) (o : FrameOutcome) :
    { s with liu := s.liu.outcome o }.restartNow = s.restartNow := by
  cases o <;> rfl

/-- An own frame that is kept changes nothing of the Station Controller. -/
theorem State.reportOutcome_corrupted_ctl (s : State) (accept : Level) :
    (s.reportOutcome .corrupted accept).ctl = s.ctl := by
  unfold State.reportOutcome
  split <;> simp

/-- R85, R141: a station with an own frame on the Line takes posts. -/
theorem State.takesPosts_of_image {s : State} (h : s.StandingLaw) (himage : s.image.isSome = true) :
    s.takesPosts = true := by
  have hquiet : ¬ (s.station = .config ∨ s.station = .detached ∨ s.station = .mute) := by
    intro hstation
    rw [(h.2.2 hstation).2] at himage
    cases himage
  unfold State.takesPosts
  cases hst : s.station <;> simp_all

theorem State.takesPosts_congr {s t : State} (h : t.ctl.state = s.ctl.state) : t.takesPosts = s.takesPosts := by
  simp only [State.takesPosts, State.station, h]

theorem State.keeps_ownEnds {s : State} {o : FrameOutcome} (h : o = .corrupted → s.image.isSome = true) (accept : Level)
    (ho : o ≠ .taken) : s.Keeps (s.ownEnds o accept) := by
  unfold State.ownEnds
  dsimp only
  split
  · rw [State.restartNow_outcome]
    exact s.keeps_restartNow
  refine State.Keeps.trans ?_ (State.keeps_testDrain _)
  have htold : State.Keeps { s with liu := s.liu.outcome o }
      (({ s with liu := s.liu.outcome o }.reportOutcome o accept).tellAlone s.liu.alone) :=
    (State.keeps_reportOutcome (fun h => absurd h ho) accept).trans (State.keeps_tellAlone _ _)
  by_cases hc : o = .corrupted
  · subst hc
    have hblocks := (s.keepsBlocks_outcome .corrupted).trans htold.toKeepsBlocks
    refine ⟨hblocks.trans (State.keeps_muteFailures _).toKeepsBlocks, fun hlaw => ?_⟩
    refine State.standingLaw_muteFailures (hblocks.quiet hlaw.quietLaw) ?_
    rw [State.takesPosts_congr (s := s) (by simp [State.reportOutcome_corrupted_ctl])]
    exact State.takesPosts_of_image hlaw (h rfl)
  · exact ((State.keeps_outcome hc).trans htold).trans (State.keeps_muteFailures _)

theorem State.keeps_loseArbitration (s : State) : s.Keeps s.loseArbitration := by
  unfold State.loseArbitration
  refine State.Keeps.trans (State.keeps_liu_of_failures ?_ fun h => ?_) (State.keeps_ownEnds (by simp) _ (by simp))
  · simp
  · exact Liu.countsIn_sample h false

/-! ### Samples -/

theorem State.keepsBlocks_stuckFrame (s : State) : s.KeepsBlocks s.stuckFrame := by
  unfold State.stuckFrame
  dsimp only
  split
  · split
    · exact s.keepsBlocks_outcome _
    · exact (s.keepsBlocks_outcome _).trans (State.keeps_reportOutcome (by simp) _).toKeepsBlocks
  · exact State.Keeps.rfl.toKeepsBlocks

@[simp] theorem State.stuckFrame_ctl (s : State) : s.stuckFrame.ctl = s.ctl := by
  unfold State.stuckFrame
  dsimp only
  (repeat' split) <;> simp [State.reportOutcome_corrupted_ctl]

theorem State.stuckFrame_of_none {s : State} (h : s.image = none) : s.stuckFrame = s := by simp [State.stuckFrame, h]

theorem State.keeps_stuckLine (s : State) : s.Keeps s.stuckLine := by
  unfold State.stuckLine
  split
  · exact .rfl
  dsimp only
  have hliu : s.Keeps { s with liu := s.liu.stick } := State.keeps_liu_of_failures rfl Liu.countsIn_stick
  have hblocks : s.KeepsBlocks (({ s with liu := s.liu.stick }.stuckFrame).raiseCause .lineFault) :=
    (hliu.toKeepsBlocks.trans (State.keepsBlocks_stuckFrame _)).trans (State.keeps_raiseCause _ _).toKeepsBlocks
  split
  · exact ⟨hblocks.trans (State.keeps_restartNow _).toKeepsBlocks, fun _ => State.standingLaw_restartNow _⟩
  refine State.Keeps.trans ?_ (State.keeps_testDrain _)
  by_cases himage : s.image = none
  · rw [State.stuckFrame_of_none (by exact himage)]
    exact (hliu.trans (State.keeps_raiseCause _ _)).trans (State.keeps_muteFailures _)
  · refine ⟨hblocks.trans (State.keeps_muteFailures _).toKeepsBlocks, fun hlaw => ?_⟩
    refine State.standingLaw_muteFailures (hblocks.quiet hlaw.quietLaw) ?_
    rw [State.takesPosts_congr (s := s) (by simp)]
    exact State.takesPosts_of_image hlaw (Option.isSome_iff_ne_none.2 himage)

theorem State.keeps_sample (s : State) (b : Bool) : s.Keeps { s with liu := s.liu.sample b } :=
  State.keeps_liu_of_failures (by simp) fun h => Liu.countsIn_sample h b

theorem State.keeps_sampleLine (s : State) (b : Bool) : s.Keeps (s.sampleLine b) := by
  rcases s.sampleLine_cases b with e | ⟨-, -, e⟩
  · rw [e]; exact s.keeps_sample b
  · rw [e]; exact (s.keeps_sample b).trans (State.keeps_stuckLine _)

theorem State.keeps_dominantSample (s : State) : s.Keeps s.dominantSample := by
  rcases s.dominantSample_cases with ⟨-, hr, e⟩ | ⟨-, -, e⟩ | ⟨-, e⟩
  · rw [e]; exact State.keeps_startFrame hr
  · rw [e]
    exact State.keeps_liu_of_failures (by simp) fun h => Liu.countsIn_sample (Liu.countsIn_atEdge h) false
  · rw [e]; exact s.keeps_sampleLine false

theorem State.keeps_spacingComplete (s : State) : s.Keeps s.spacingComplete := by
  unfold State.spacingComplete
  split
  · exact State.keeps_liu_of_failures rfl Liu.countsIn_spaced
  · exact .rfl

theorem State.keeps_recoveryComplete (s : State) : s.Keeps s.recoveryComplete := by
  unfold State.recoveryComplete
  split
  · exact (State.keeps_liu_of_failures (by rfl) Liu.countsIn_recover).trans (State.keeps_startUpReached _)
  · exact .rfl

theorem State.keeps_quietSample (s : State) : s.Keeps s.quietSample := by
  have hspaced : ∀ u : State, u.Keeps
      (if u.liu.phase = .spacing ∧ Config.spacingSamples ≤ u.liu.recessive then u.spacingComplete else u) := by
    intro u
    split
    · exact u.keeps_spacingComplete
    · exact .rfl
  have hstarted : ∀ u : State, u.Keeps
      (if u.liu.phase = .recovering ∧ Config.recoverySamples ≤ u.liu.recessive then u.recoveryComplete
        else if s.liu.startUpIdle < Config.startUpSamples ∧ u.liu.startUpIdle = Config.startUpSamples then
          u.startUpReached
        else u) := by
    intro u
    split
    · exact u.keeps_recoveryComplete
    · split
      · exact u.keeps_startUpReached
      · exact .rfl
  have hidle : ∀ u : State, u.Keeps
      (if s.liu.idle < Config.idleSamples ∧ u.liu.idle = Config.idleSamples then u.idleReached else u) := by
    intro u
    split
    · exact u.keeps_idleReached
    · exact .rfl
  exact (((s.keeps_sample true).trans (hspaced _)).trans (hstarted _)).trans (hidle _)

theorem State.keeps_hear (s : State) (b : Bool) : s.Keeps (s.hear b) := by
  rcases s.hear_cases b with ⟨-, e⟩ | ⟨-, -, ⟨-, e⟩ | ⟨-, e⟩⟩
  · rw [e]; exact .rfl
  · rw [e]; exact s.keeps_quietSample
  · rw [e]; exact s.keeps_dominantSample

theorem State.keeps_watch (s : State) (bits : List Bool) : s.Keeps (s.watch bits) :=
  State.Keeps.foldl State.keeps_hear bits s

theorem State.keeps_edge (s : State) : s.Keeps s.edge := by
  unfold State.edge
  split
  · exact .rfl
  · exact (State.keeps_liu_of_failures (by rfl) Liu.countsIn_atEdge).trans (State.keeps_dominantSample _)

end Sys2Proof.Machine
end

section
/-! SUPPORT. What the handling of frames, the requests and the other commands keep of the laws of one block, and so what
every step keeps of each (O54, O55, O60). -/

namespace Sys2Proof.Machine

/-! ### Taken frames -/

/-- R2, R8: an entry of a new identity joins a table with room for it. -/
theorem tableLaw_insert {t : List Entry} {e : Entry} (hlen : t.length < Config.tableCapacity) (hnew : ∀ x ∈ t, x.id ≠ e.id)
    (h : (t.map Entry.id).Nodup) :
    (t ++ [e]).length ≤ Config.tableCapacity ∧ ((t ++ [e]).map Entry.id).Nodup := by
  refine ⟨by simpa using hlen, ?_⟩
  simp only [List.map_append, List.map_cons, List.map_nil]
  refine h.append (List.nodup_singleton _) ?_
  simp only [List.disjoint_singleton, List.mem_map, not_exists, not_and]
  exact hnew

/-- R2, R9: a table keeps its law when entries leave it. -/
theorem tableLaw_sublist {t u : List Entry} (hu : u.Sublist t)
    (h : t.length ≤ Config.tableCapacity ∧ (t.map Entry.id).Nodup) :
    u.length ≤ Config.tableCapacity ∧ (u.map Entry.id).Nodup :=
  ⟨hu.length_le.trans h.1, h.2.sublist (hu.map _)⟩

/-- R2, R10: a table keeps its law when an entry is changed at its position. -/
theorem tableLaw_updateEntry {t : List Entry} (id : Identity) (f : Entry → Entry) (hf : ∀ e, (f e).id = e.id)
    (h : t.length ≤ Config.tableCapacity ∧ (t.map Entry.id).Nodup) :
    (updateEntry t id f).length ≤ Config.tableCapacity ∧ ((updateEntry t id f).map Entry.id).Nodup := by
  rw [updateEntry_ids t id f hf, updateEntry_length]
  exact h

theorem tableLaw_reopen {t : List Entry} (e : Entry) (c : ReopenCause) (a : Address)
    (h : t.length ≤ Config.tableCapacity ∧ (t.map Entry.id).Nodup) :
    (reopen t e c a).table.length ≤ Config.tableCapacity ∧ ((reopen t e c a).table.map Entry.id).Nodup := by
  rw [reopen_table]
  split
  · exact tableLaw_sublist List.filter_sublist h
  · exact tableLaw_updateEntry _ _ (fun _ => rfl) h

/-- R3: a table that has no room for a RAISE or a RESTATE objects to it. -/
theorem room_of_storageObjects {me : Address} {b : Bool} {t : List Entry} {f : Frame} {cls : ClassNo} {limit : Limit}
    {deadline : Units} (hbody : f.body = .raise cls limit deadline) (h : storageObjects me b t f = false)
    (happ : applies me b t f = true) : t.length < Config.tableCapacity ∧ findEntry t f.head.id = none := by
  simpa [storageObjects, hbody, happ] using h

/-- R2, R3: a taken frame that this station can store keeps the law of the table. -/
theorem tableLaw_applyFrame {me : Address} {b : Bool} {t : List Entry} {f : Frame}
    (hstore : storageObjects me b t f = false) (h : t.length ≤ Config.tableCapacity ∧ (t.map Entry.id).Nodup) :
    (applyFrame me b t f).table.length ≤ Config.tableCapacity ∧ ((applyFrame me b t f).table.map Entry.id).Nodup := by
  unfold applyFrame
  split
  swap
  · exact h
  rename_i happ
  obtain ⟨head, body⟩ := f
  cases body <;> simp only [applyKind]
  case raise =>
    obtain ⟨hlen, hnew⟩ := room_of_storageObjects rfl hstore happ
    exact tableLaw_insert hlen (findEntry_none.1 hnew) h.2
  case bid => exact tableLaw_updateEntry _ _ (fun _ => rfl) h
  case finish => exact tableLaw_sublist List.filter_sublist h
  case release =>
    split
    · exact tableLaw_reopen _ _ _ h
    · exact h
  case lapse =>
    split
    · exact tableLaw_reopen _ _ _ h
    · exact h
  case withdraw =>
    split
    · exact tableLaw_sublist List.filter_sublist h
    · exact h
  case join =>
    split
    · exact tableLaw_sublist List.filter_sublist h
    · exact h
  case restate =>
    unfold applyRestate
    dsimp only
    split
    · rename_i hnew
      have hlen : t.length < Config.tableCapacity := by simpa [storageObjects, happ, hnew] using hstore
      exact tableLaw_insert hlen (findEntry_none.1 hnew) h.2
    · split
      · exact h
      · exact tableLaw_updateEntry _ _ (fun _ => rfl) h

theorem State.keeps_restatementDuty (s : State) (f : Frame) (b : Bool) : s.Keeps (s.restatementDuty f b) := by
  unfold State.restatementDuty
  split
  · split
    · exact s.keeps_restateAll
    · exact .rfl
  all_goals exact .rfl

theorem State.keeps_handleTaken {s : State} {b : Bool} {f : Frame}
    (hstore : storageObjects s.address b s.table f = false) : s.Keeps (s.handleTaken b f) := by
  have htable : s.Keeps { s with table := (applyFrame s.address b s.table f).table } :=
    s.keeps_table _ (tableLaw_applyFrame hstore)
  exact (((htable.trans (State.Keeps.foldl (State.keeps_deliver b f) _ _)).trans
    (State.keeps_restatementDuty _ _ _)).trans (State.keeps_purge _)).trans (State.keeps_remakeChoices _)

/-- R71: a transmitter whose frame is taken has no failure on its count. -/
theorem Liu.frameTaken_failures_own (l : Liu) (me : Address) (f : Frame) (a : Level) :
    (l.frameTaken me true f a).failures = 0 := rfl

theorem Liu.frameTaken_failures_peer (l : Liu) (me : Address) (f : Frame) (a : Level) :
    (l.frameTaken me false f a).failures = l.failures := by
  unfold Liu.frameTaken
  rw [if_neg Bool.false_ne_true]
  split <;> rfl

/-- R71: the LIU of the transmitter at the end of its taken frame. -/
def State.endOwn (s : State) (f : Frame) (accept : Level) : State :=
  { s with
    liu := (s.liu.endFrame (f.wireBits ++ [accept.bit, true]) false false false).frameTaken s.address true f accept }

/-- R71: the LIU of a receiver at the end of a taken frame. -/
def State.endPeer (s : State) (f : Frame) : State :=
  { s with
    liu := (s.liu.atEdge.endFrame (f.wireBits ++ [false, true]) true false false).frameTaken s.address false f
      .dominant }

theorem State.ownTaken_eq (s : State) (f : Frame) (accept : Level) :
    s.ownTaken f accept =
      if ((s.endOwn f accept).handleTaken true f).ctl.restartWaiting then
        ((s.endOwn f accept).handleTaken true f).restartNow
      else
        ((((s.endOwn f accept).handleTaken true f).reportOutcome .taken accept).tellAlone s.liu.alone).testDrain := rfl

theorem State.peerTaken_eq (s : State) (f : Frame) :
    s.peerTaken f =
      if f.head.sender = s.address then (((s.endPeer f).handleTaken false f).tellAlone s.liu.alone).addressClash
      else (((s.endPeer f).handleTaken false f).tellAlone s.liu.alone).testDrain := by
  unfold State.peerTaken
  simp only [State.address, State.tellAlone_config, State.handleTaken_config]
  rfl

theorem State.endOwn_failures (s : State) (f : Frame) (accept : Level) : (s.endOwn f accept).liu.failures = 0 := rfl

theorem State.keeps_endOwn (s : State) (f : Frame) (accept : Level) : s.Keeps (s.endOwn f accept) :=
  s.keeps_liu _ (.inr rfl) fun h => Liu.countsIn_frameTaken (Liu.countsIn_endFrame h _ _ _ _) _ _ _ _

theorem State.keeps_endPeer (s : State) (f : Frame) : s.Keeps (s.endPeer f) := by
  refine State.keeps_liu_of_failures ?_ fun h =>
    Liu.countsIn_frameTaken (Liu.countsIn_endFrame (Liu.countsIn_atEdge h) _ _ _ _) _ _ _ _
  rw [Liu.frameTaken_failures_peer, (Liu.endFrame_spec _ _ _ _ _).2.1, Liu.atEdge_failures]

theorem State.keeps_ownTaken {s : State} {f : Frame} (hstore : storageObjects s.address true s.table f = false)
    (accept : Level) : s.Keeps (s.ownTaken f accept) := by
  have hhandled : s.Keeps ((s.endOwn f accept).handleTaken true f) :=
    (s.keeps_endOwn f accept).trans (State.keeps_handleTaken hstore)
  rw [State.ownTaken_eq]
  split
  · exact hhandled.trans (State.keeps_restartNow _)
  · have hreported : ((s.endOwn f accept).handleTaken true f).Keeps
        (((s.endOwn f accept).handleTaken true f).reportOutcome .taken accept) :=
      State.keeps_reportOutcome
        (fun _ => by rw [State.handleTaken_liu, State.endOwn_failures]; exact (by decide : 0 ≠ Config.failureLimit)) _
    exact ((hhandled.trans hreported).trans (State.keeps_tellAlone _ _)).trans (State.keeps_testDrain _)

theorem State.keeps_peerTaken {s : State} {f : Frame} (hstore : storageObjects s.address false s.table f = false) :
    s.Keeps (s.peerTaken f) := by
  have htold : s.Keeps (((s.endPeer f).handleTaken false f).tellAlone s.liu.alone) :=
    ((s.keeps_endPeer f).trans (State.keeps_handleTaken hstore)).trans (State.keeps_tellAlone _ _)
  rw [State.peerTaken_eq]
  split
  · exact htold.trans (State.keeps_addressClash _)
  · exact htold.trans (State.keeps_testDrain _)

/-! ### Frames that are not taken -/

/-- A frame that is objected to is not taken. -/
theorem objectedOutcome_ne_taken (b : Body) (accept : Level) : objectedOutcome b accept ≠ .taken := by
  cases accept <;> cases b <;> simp [objectedOutcome]

theorem State.keeps_endFrame (s : State) (l : Liu) (hf : l.failures = s.liu.failures) (hc : s.liu.countsIn → l.countsIn)
    (bits : List Bool) (a o r : Bool) : s.Keeps { s with liu := l.endFrame bits a o r } :=
  State.keeps_liu_of_failures (by rw [(Liu.endFrame_spec _ _ _ _ _).2.1, hf])
    fun h => Liu.countsIn_endFrame (hc h) _ _ _ _

theorem State.keeps_ownObjected {s : State} (himage : s.image.isSome = true) (f : Frame) (accept : Level) (own : Bool) :
    s.Keeps (s.ownObjected f accept own) := by
  unfold State.ownObjected
  exact (s.keeps_endFrame s.liu rfl id _ _ _ _).trans
    (State.keeps_ownEnds (by exact fun _ => himage) _ (objectedOutcome_ne_taken _ _))

theorem State.keeps_objectionRun (s : State) : s.Keeps s.objectionRun := s.keeps_endFrame s.liu rfl id _ _ _ _

theorem State.keeps_ownRun {s : State} (himage : s.image.isSome = true) : s.Keeps s.ownRun :=
  s.keeps_objectionRun.trans (State.keeps_ownEnds (by exact fun _ => himage) _ (by simp))

theorem State.keeps_objectSlot (s : State) (a o : Bool) : s.Keeps (s.objectSlot a o) := by
  have hslot : s.Keeps { s with liu := s.liu.atObject o } := State.keeps_liu_of_failures rfl id
  unfold State.objectSlot
  refine (hslot.trans (State.keeps_sampleLine _ false)).trans ?_
  dsimp only
  split
  · exact .rfl
  · exact State.keeps_endFrame _ _ rfl id _ _ _ _

theorem State.keeps_objectedSlots (s : State) (accept : Level) (a o : Bool) : s.Keeps (s.objectedSlots accept a o) := by
  have hslot : s.Keeps { s with liu := s.liu.atAccept a } :=
    State.keeps_liu_of_failures rfl fun h => ⟨h.1, h.2.1, h.2.2.1, Nat.zero_le _⟩
  unfold State.objectedSlots
  refine (hslot.trans (State.keeps_sampleLine _ accept.bit)).trans ?_
  dsimp only
  split
  · exact .rfl
  · exact State.keeps_objectSlot _ _ _

theorem State.keeps_peerNowhere (s : State) (accept : Level) (v : Verdict) : s.Keeps (s.peerNowhere accept v) := by
  cases v
  · exact s.keeps_objectionRun
  · exact s.keeps_objectedSlots _ _ _
  · exact s.keeps_objectedSlots _ _ _

theorem State.keeps_span (s : State) (f : Frame) : s.Keeps (s.span f) :=
  State.keeps_liu_of_failures (by simp) fun h => Liu.countsIn_sampleAll (Liu.countsIn_atEdge h) _

theorem State.keeps_ownFrame {s : State} (himage : s.image.isSome = true) (f : Frame) (accept : Level) :
    s.Keeps (s.ownFrame f accept) := by
  unfold State.ownFrame
  split
  · exact State.keeps_ownObjected himage _ _ _
  · rename_i hstore
    exact State.keeps_ownTaken (by simpa using hstore) _

theorem State.keeps_peerFrame (s : State) (f : Frame) (accept : Level) : s.Keeps (s.peerFrame f accept) := by
  unfold State.peerFrame
  split
  · exact (s.keeps_span f).trans (State.keeps_peerNowhere _ _ _)
  · exact (s.keeps_span f).trans (State.keeps_peerNowhere _ _ _)
  · split
    · exact (s.keeps_span _).trans (State.keeps_peerNowhere _ _ _)
    · rename_i hstore
      exact State.keeps_peerTaken (by simpa using hstore)

theorem State.keeps_joins (s : State) : s.Keeps s.joins := by
  unfold State.joins
  split
  · rename_i h; exact State.keeps_startFrame h.2
  · exact .rfl

theorem State.keeps_meets (s : State) : s.Keeps s.meets := by
  rcases s.meets_cases with e | ⟨-, hr, e⟩
  · rw [e]; exact .rfl
  · rw [e]; exact (State.keeps_startFrame hr).trans (State.keeps_loseArbitration _)

theorem State.keeps_frame (s : State) (f : Frame) (accept : Level) : s.Keeps (s.frame f accept) := by
  unfold State.frame
  split
  · exact .rfl
  refine s.keeps_joins.trans ?_
  dsimp only
  split
  · rename_i img himage
    split
    · exact State.keeps_ownFrame (by simp [himage]) _ _
    · split
      · refine (State.keeps_loseArbitration _).trans ?_
        split
        · exact .rfl
        · exact State.keeps_peerFrame _ _ _
      · exact .rfl
  · split
    · exact State.keeps_peerFrame _ _ _
    · exact State.keeps_watch _ _

/-! ### Requests -/

/-- A request keeps what its owner's answer keeps. -/
theorem State.keeps_request (s : State) (code : Byte) (body : List Byte) {owner : State → Answer}
    (h : s.Keeps (owner s).after) : s.Keeps (s.request code body owner) := by
  unfold State.request
  split
  · split
    · exact h.trans (State.keeps_complete _ _ _ _)
    · exact s.keeps_complete _ _ _
  · exact .rfl

theorem State.keeps_answerSetup (s : State) (body : List Byte) : s.Keeps (s.answerSetup body).after := by
  unfold State.answerSetup
  split
  · rename_i h
    split
    · exact s.keeps_config _ h
    · exact .rfl
  · exact .rfl

theorem State.keeps_answerClass (s : State) (body : List Byte) : s.Keeps (s.answerClass body).after := by
  unfold State.answerClass
  split
  · rename_i h
    split
    · exact s.keeps_config _ h
    · exact .rfl
  · exact .rfl

theorem Liu.countsIn_release (l : Liu) : l.release.countsIn :=
  ⟨Nat.zero_le _, Nat.zero_le _, Nat.zero_le _, Nat.zero_le _⟩

theorem State.keeps_answerStart (s : State) : s.Keeps s.answerStart.after := by
  unfold State.answerStart
  split
  · rename_i h
    have hctl : s.Keeps { s with ctl := { s.ctl with
        state := .listen, freshOwed := true, joinStage := some .idleWait, draining := false } } :=
      s.keeps_ctl _ (by simp) (.inr (.inl (by simp [h.1]))) (by simp)
    exact hctl.trans (State.keeps_liu_of_failures rfl fun _ => s.liu.countsIn_release)
  · exact .rfl

theorem State.keeps_raiseEvent {s : State} (h : s.origin.length < Config.originCapacity) (cls : ClassNo)
    (payload : List Byte) : s.Keeps (s.raiseEvent cls payload).after := by
  simp only [Config.originCapacity] at h
  obtain ⟨-, -, -, -, hfree⟩ := freeSerial_first_free (used := s.origin) s.serialCounter (by omega)
  have horigin : s.Keeps { s with origin := s.origin ++
      [OriginRecord.mk (freeSerial s.origin s.serialCounter 256) .queued false] } := by
    refine s.keeps_origin _ fun hlaw => ⟨by simpa [Config.originCapacity] using h, ?_⟩
    simp only [List.map_append, List.map_cons, List.map_nil]
    refine hlaw.2.append (List.nodup_singleton _) ?_
    simp only [List.disjoint_singleton, List.mem_map, not_exists, not_and]
    exact hfree
  exact (horigin.trans (State.keeps_rest _ _ _ _ _ (freeSerial s.origin s.serialCounter 256 + 1) _ rfl)).trans
    (State.keeps_post _ _)

theorem State.keeps_answerRaise (s : State) (body : List Byte) : s.Keeps (s.answerRaise body).after := by
  unfold State.answerRaise
  split
  swap
  · exact .rfl
  split
  · exact .rfl
  split
  swap
  · exact .rfl
  split
  · exact .rfl
  · rename_i hroom
    exact State.keeps_raiseEvent (by omega) _ _

theorem State.keeps_withdrawQueued (s : State) (n : Serial) : s.Keeps (s.withdrawQueued n) := by
  unfold State.withdrawQueued
  split
  · split
    · exact s.keeps_setOrigin _ _ fun _ => rfl
    · exact (s.keeps_removeFrame _).trans (State.keeps_closeOrigin _ _ _ _ rfl)
  · exact s.keeps_closeOrigin _ _ _ rfl

theorem State.keeps_answerWithdraw (s : State) (body : List Byte) : s.Keeps (s.answerWithdraw body).after := by
  unfold State.answerWithdraw
  split
  · exact .rfl
  split
  swap
  · exact .rfl
  split
  · exact .rfl
  split
  · exact .rfl
  · exact .rfl
  · split
    · exact .rfl
    · exact (s.keeps_withdrawQueued _).trans (State.keeps_testDrain _)
  · split
    · exact s.keeps_beginWithdraw _
    · exact .rfl

theorem State.keeps_answerTake (s : State) : s.Keeps s.answerTake.after := by
  unfold State.answerTake
  split
  · exact .rfl
  split
  · exact .rfl
  split
  · exact .rfl
  · exact (s.keeps_held _).trans (State.keeps_remakeBid _)

theorem State.keeps_endClaim (s : State) (r : HeldRecord) (q : Queued) : s.Keeps (s.endClaim r q).after :=
  ((s.keeps_post q).trans (State.keeps_held _ _)).trans (State.keeps_remakeBid _)

theorem State.keeps_answerFinish (s : State) (body : List Byte) : s.Keeps (s.answerFinish body).after := by
  unfold State.answerFinish
  split
  · exact .rfl
  split
  · exact .rfl
  · exact .rfl
  · unfold State.finishRecord
    split
    · exact .rfl
    split
    · exact .rfl
    · exact .rfl
    · exact .rfl
    · split
      · exact s.keeps_endClaim _ _
      · exact .rfl

theorem State.keeps_answerRelease (s : State) (body : List Byte) : s.Keeps (s.answerRelease body).after := by
  unfold State.answerRelease
  split
  · exact .rfl
  split
  · exact .rfl
  · exact .rfl
  · unfold State.releaseRecord
    split
    · exact .rfl
    split
    · exact .rfl
    · exact .rfl
    · split
      · exact s.keeps_endClaim _ _
      · exact .rfl
    · split
      · exact s.keeps_endClaim _ _
      · exact .rfl

theorem State.keeps_reportPop (s : State) (n : Notice) : s.Keeps (s.reportPop n) := by
  cases n with
  | finished id a r p => exact s.keeps_popOrigin _
  | abandoned id l a => exact s.keeps_popOrigin _
  | withdrawn id => exact s.keeps_popOrigin _
  | refused id c => exact s.keeps_popOrigin _
  | deadline id => exact s.keeps_popHeld _
  | revoked id c => exact s.keeps_popHeld _
  | station c => exact .rfl

theorem State.keeps_answerNotice (s : State) : s.Keeps s.answerNotice.after := by
  unfold State.answerNotice
  split
  · exact .rfl
  · rename_i n rest hnotices
    refine (s.keeps_notices rest fun h => ?_).trans (State.keeps_reportPop _ _)
    rw [State.StationNoticeLaw, hnotices] at h
    exact (((List.sublist_cons_self n rest).filter _).length_le).trans h

theorem State.keeps_answerLookup (s : State) (body : List Byte) : s.Keeps (s.answerLookup body).after := by
  unfold State.answerLookup
  (repeat' split) <;> exact .rfl

theorem State.keeps_answerFind (s : State) (body : List Byte) : s.Keeps (s.answerFind body).after := by
  unfold State.answerFind
  (repeat' split) <;> exact .rfl

theorem State.keeps_answerLeave (s : State) : s.Keeps s.answerLeave.after := by
  unfold State.answerLeave
  split
  · rename_i h; exact State.keeps_enterLeaving h
  · exact .rfl

theorem State.keeps_answerRejoin (s : State) : s.Keeps s.answerRejoin.after := by
  unfold State.answerRejoin
  split
  case h_1 =>
    have hliu : s.Keeps { s with liu := { s.liu with failures := 0, startUpIdle := 0 } } :=
      s.keeps_liu _ (.inr rfl) fun h => ⟨Nat.zero_le _, h.2.1, h.2.2.1, h.2.2.2⟩
    have hctl := State.keeps_ctl { s with liu := { s.liu with failures := 0, startUpIdle := 0 } }
      { s.ctl with state := .listen, joinStage := some .idleWait, draining := false } (by simp)
      (.inr (.inr (by simp [Config.failureLimit]))) (by simp)
    exact (hliu.trans hctl).trans (State.keeps_repostWithdraws _)
  case h_2 =>
    have hliu : s.Keeps { s with liu := { s.liu with failures := 0 }.release } :=
      s.keeps_liu _ (.inr rfl) fun _ => Liu.countsIn_release _
    exact hliu.trans (State.keeps_ctl _ _ (by simp) (.inr (.inr (by simp [Config.failureLimit]))) (by simp))
  all_goals exact .rfl

theorem State.keeps_processRestart (s : State) (body : List Byte) : s.Keeps (s.processRestart body) := by
  unfold State.processRestart
  split
  · exact s.keeps_complete _ _ _
  split
  · exact s.keeps_restartNow
  · exact State.Keeps.trans (s.keeps_items { s.ctl with restartWaiting := true } rfl)
      (State.keeps_port _ _ fun h => ⟨by simp, h.2⟩)

/-! ### Timers and bit times -/

theorem State.keeps_deadlineTick (s : State) : s.Keeps s.deadlineTick := by
  have htable : s.Keeps { s with table := (tickTable s.address s.table).table } := by
    refine s.keeps_table _ fun h => ?_
    have hids : (s.table.map (Entry.tick s.address)).map Entry.id = s.table.map Entry.id := by
      simp [Function.comp_def]
    exact ⟨by simpa [tickTable] using h.1, by rw [tickTable, hids]; exact h.2⟩
  exact ((htable.trans (State.keeps_rest _ _ _ 0 _ _ _ rfl)).trans
    (State.Keeps.foldl State.keeps_deliverExpiry _ _)).trans (State.keeps_remakeLapse _)

theorem Entry.runOut_id (me : Address) (e : Entry) : (e.runOut me).id = e.id := by
  unfold Entry.runOut
  split <;> rfl

theorem State.keeps_runOutAt (s : State) (id : Identity) : s.Keeps (s.runOutAt id) :=
  s.keeps_table _ (tableLaw_updateEntry id _ (Entry.runOut_id _))

theorem State.keeps_advanceClock (s : State) : s.Keeps s.advanceClock := by
  unfold State.advanceClock
  dsimp only
  split
  · exact s.keeps_deadlineTick.trans (State.keeps_rest _ _ _ _ _ _ _ rfl)
  · exact s.keeps_rest _ _ _ _ _ _ rfl

theorem Liu.countsIn_sent {l : Liu} (h : l.countsIn) (img : TransmitImage) (n : Nat) : (l.sent img n).countsIn := by
  refine ⟨h.1, h.2.1, h.2.2.1, ?_⟩
  unfold Liu.sent
  dsimp only
  split
  · exact Nat.zero_le _
  · exact h.2.2.2

theorem State.keeps_sendBit (s : State) : s.Keeps s.sendBit := by
  unfold State.sendBit
  split
  · exact .rfl
  split
  · exact .rfl
  · rename_i b _
    refine (s.keeps_sampleLine b).trans ?_
    dsimp only
    split
    · exact State.keeps_liu_of_failures rfl fun h => Liu.countsIn_sent h _ _
    · exact .rfl

theorem State.keeps_lineBit (s : State) : s.Keeps s.lineBit := by
  unfold State.lineBit
  split
  · exact .rfl
  split
  · exact s.keeps_quietSample
  · exact s.keeps_quietSample
  · exact s.keeps_quietSample
  · exact s.keeps_sendBit
  · exact s.keeps_sendBit
  · exact .rfl
  · exact .rfl

theorem State.keeps_bitTime (s : State) : s.Keeps s.bitTime := by
  unfold State.bitTime
  split
  · exact .rfl
  split
  · rename_i h; exact State.keeps_startFrame h.2.2
  · exact s.keeps_advanceClock.trans (State.keeps_lineBit _)

/-! ### Commands -/

theorem Port.fall_keeps {p : Port} (h : p.processing.isSome → p.pendingReply = none) :
    (p.fall.processing.isSome → p.fall.pendingReply = none) ∧ (p.fall.transaction ≠ .closed → p.fall.selLow = true) := by
  unfold Port.fall
  split <;> exact ⟨h, fun _ => rfl⟩

theorem Port.rise_keeps {p : Port} (h : p.processing.isSome → p.pendingReply = none) (bytes : List Byte) :
    ((p.rise bytes).processing.isSome → (p.rise bytes).pendingReply = none)
      ∧ ((p.rise bytes).transaction ≠ .closed → (p.rise bytes).selLow = true) := by
  unfold Port.rise
  dsimp only
  split
  · exact ⟨h, fun hc => absurd rfl hc⟩
  · exact ⟨h, fun hc => absurd rfl hc⟩
  · split
    · exact ⟨fun _ => rfl, fun hc => absurd rfl hc⟩
    · exact ⟨fun _ => rfl, fun hc => absurd rfl hc⟩

theorem State.keeps_startUpIdle (s : State) :
    s.Keeps { s with liu := { s.liu with startUpIdle := Config.startUpSamples, dominant := 0 } } :=
  State.keeps_liu_of_failures rfl fun h => ⟨le_rfl, h.2.1, Nat.zero_le _, h.2.2.2⟩

theorem State.keeps_idleFull (s : State) :
    s.Keeps { s with liu := { s.liu with idle := Config.idleSamples, dominant := 0 } } :=
  State.keeps_liu_of_failures rfl fun h => ⟨h.1, h.2.1, Nat.zero_le _, le_rfl⟩

theorem State.keeps_spanNowhere (s : State) (bits : List Bool) (accept : Level) :
    s.Keeps (s.spanNowhere bits accept) := by
  have hedge : s.Keeps { s with liu := { s.liu.atEdge with phase := .receiving } } :=
    State.keeps_liu_of_failures rfl fun h => ⟨h.1, h.2.1, Nat.zero_le _, h.2.2.2⟩
  refine (hedge.trans (State.keeps_watch _ bits)).trans ?_
  unfold State.spanNowhere
  dsimp only
  split
  · exact .rfl
  · exact State.keeps_peerNowhere _ _ _

theorem State.keeps_peerRefused (s : State) : s.Keeps s.peerRefused := by
  unfold State.peerRefused
  split
  · refine s.keeps_meets.trans ?_
    dsimp only
    split
    · exact .rfl
    · exact State.keeps_objectedSlots _ _ _ _
  · exact s.keeps_watch _

theorem State.keeps_startAlone (s : State) : s.Keeps s.startAlone := by
  unfold State.startAlone
  split
  · rename_i h; exact State.keeps_startFrame h.2.2
  · exact .rfl

/-- Every command but a pin reset keeps the law of each block, and outside CONFIG the configuration. -/
theorem keeps_exec {c : Instr} (hc : c ≠ .pinReset) {s t : State} (h : exec c s = .next t) : s.Keeps t := by
  cases c <;> cases h
  case pinReset => exact absurd rfl hc
  case selFallingEdge =>
    split
    · exact .rfl
    split
    · exact s.keeps_port _ fun hp => ⟨hp.1, fun _ => rfl⟩
    · exact s.keeps_port _ fun hp => Port.fall_keeps hp.1
  case selRisingEdge bytes =>
    split
    · exact s.keeps_port _ fun hp => Port.rise_keeps hp.1 bytes
    · exact .rfl
  case malformed bytes =>
    split
    · split
      · exact s.keeps_complete _ _ _
      · exact .rfl
    · exact .rfl
  case nop body => exact s.keeps_request _ _ .rfl
  case setup body => exact s.keeps_request _ _ (s.keeps_answerSetup _)
  case classPage body => exact s.keeps_request _ _ (s.keeps_answerClass _)
  case start body => exact s.keeps_request _ _ s.keeps_answerStart
  case raiseRequest body => exact s.keeps_request _ _ (s.keeps_answerRaise _)
  case withdrawRequest body => exact s.keeps_request _ _ (s.keeps_answerWithdraw _)
  case take body => exact s.keeps_request _ _ s.keeps_answerTake
  case finishRequest body => exact s.keeps_request _ _ (s.keeps_answerFinish _)
  case releaseRequest body => exact s.keeps_request _ _ (s.keeps_answerRelease _)
  case notice body => exact s.keeps_request _ _ s.keeps_answerNotice
  case status body => exact s.keeps_request _ _ .rfl
  case lookup body => exact s.keeps_request _ _ (s.keeps_answerLookup _)
  case find body => exact s.keeps_request _ _ (s.keeps_answerFind _)
  case leave body => exact s.keeps_request _ _ s.keeps_answerLeave
  case rejoin body => exact s.keeps_request _ _ s.keeps_answerRejoin
  case restart body =>
    split
    · split
      · exact s.keeps_processRestart _
      · exact s.keeps_complete _ _ _
    · exact .rfl
  case restartProceeds =>
    split
    · exact s.keeps_restartNow
    · exact .rfl
  case deadlineTick =>
    split
    · exact .rfl
    · exact s.keeps_deadlineTick
  case claimantExpiry id =>
    split
    · exact .rfl
    · split
      · exact (s.keeps_runOutAt _).trans (State.keeps_noticeDeadline _ _ _)
      · exact .rfl
  case expiredMark id =>
    split
    · exact .rfl
    · split
      · exact (s.keeps_runOutAt _).trans (State.keeps_remakeLapse _)
      · exact .rfl
  case frameStart edge =>
    split
    · exact s.keeps_startAlone
    · exact s.keeps_edge
  case raiseFrame => exact s.keeps_frame _ _
  case bidFrame => exact s.keeps_frame _ _
  case finishFrame => exact s.keeps_frame _ _
  case releaseFrame => exact s.keeps_frame _ _
  case lapseFrame => exact s.keeps_frame _ _
  case withdrawFrame => exact s.keeps_frame _ _
  case freshJoin => exact s.keeps_frame _ _
  case join => exact s.keeps_frame _ _
  case restateFrame => exact s.keeps_frame _ _
  case frameRefused =>
    split
    · exact .rfl
    split
    · rename_i img himage
      exact State.keeps_ownObjected (by simp [himage]) _ _ _
    · exact s.keeps_peerRefused
  case frameCorrupted ending =>
    split
    · exact .rfl
    · rename_i img himage
      split
      · exact State.keeps_ownObjected (by simp [himage]) _ _ _
      · exact State.keeps_ownRun (by simp [himage])
  case arbitrationLost =>
    split
    · exact s.keeps_loseArbitration
    · exact .rfl
  case stuckLine => exact s.keeps_stuckLine
  case recoveryComplete => exact s.keeps_recoveryComplete
  case spacingComplete => exact s.keeps_spacingComplete
  case startUpIdle =>
    split
    · exact (s.keeps_spacingComplete.trans (State.keeps_startUpIdle _)).trans (State.keeps_startUpReached _)
    · exact .rfl
  case joinWindowEnd =>
    split
    · exact (s.keeps_spacingComplete.trans (State.keeps_idleFull _)).trans (State.keeps_idleReached _)
    · exact .rfl
  case leaveDrainComplete => exact s.keeps_testDrain
  case frameTakenNowhere bits accept =>
    split
    · exact .rfl
    split
    · refine s.keeps_meets.trans ?_
      dsimp only
      split
      · exact .rfl
      · exact State.keeps_spanNowhere _ _ _
    · exact s.keeps_watch _
  case endOfPinReset =>
    split
    · exact s.keeps_rest _ _ _ _ _ _ rfl
    · exact .rfl

/-! ### Each law of a block -/

/-- R159: after a pin reset every law holds. -/
theorem State.lawful_pinReset (s : State) : s.pinReset.Lawful :=
  State.lawful_of_cleared rfl rfl rfl rfl rfl rfl rfl rfl rfl

/-- A law of one block that every change keeps, and that a pin reset establishes, every step keeps. -/
theorem step_keeps_of_keeps {P : State → Prop} (hkeeps : ∀ s t : State, s.Keeps t → P s → P t)
    (hreset : ∀ s : State, P s.pinReset) {s t : State} (hstep : step s = .next t) (hs : P s) : P t := by
  refine step_keeps (P := P) (fun s rest => hkeeps _ _ (s.keeps_rest rest _ _ _ _ _ rfl))
    (fun s => hkeeps _ _ s.keeps_bitTime) (fun c s t hs hexec => ?_) hs hstep
  by_cases hc : c = .pinReset
  · subst hc
    cases hexec
    exact hreset s
  · exact hkeeps s t (keeps_exec hc hexec) hs

/-- Settles O54: what every change keeps of the queue. -/
theorem stepKeepsQueueLaw : Obligations.StepKeepsQueueLaw := fun _ _ hs hstep =>
  step_keeps_of_keeps (P := State.QueueLaw) (fun _ _ k => k.queue) (fun s => s.lawful_pinReset.2.1) hstep hs

/-- Settles O55: what every change keeps of each block. -/
theorem stepKeepsEachBlocksLaw : Obligations.StepKeepsEachBlocksLaw := by
  intro s t hstep
  refine ⟨step_keeps_of_keeps (P := State.TableLaw) (fun _ _ k => k.table) (fun s => s.lawful_pinReset.1) hstep,
    step_keeps_of_keeps (P := State.StandingLaw) (fun _ _ k => k.standing) (fun s => s.lawful_pinReset.2.2.1) hstep,
    step_keeps_of_keeps (P := State.OriginLaw) (fun _ _ k => k.origin) (fun s => s.lawful_pinReset.2.2.2.1) hstep,
    step_keeps_of_keeps (P := State.StationNoticeLaw) (fun _ _ k => k.notices) (fun _ => Nat.zero_le _) hstep,
    step_keeps_of_keeps (P := State.PortLaw) (fun _ _ k => k.port) (fun _ => ⟨?_, ?_⟩) hstep,
    step_keeps_of_keeps (P := State.CountLaw) (fun _ _ k => k.counts) (fun _ => ?_) hstep⟩
  · simp [State.pinReset, Port.cleared]
  · simp [State.pinReset, Port.cleared]
  · simp [State.CountLaw, State.pinReset, State.reset, Liu.cleared]

/-- Settles O60: outside CONFIG no change is one of the configuration. -/
theorem configurationIsLocked : Obligations.ConfigurationIsLocked := fun _ _ _ hs hc hexec =>
  ((keeps_exec hc hexec).locked hs).2

end Sys2Proof.Machine
end

section
/-! SUPPORT. The agreement of the blocks in the middle of a step: the whole law, up to a slack that an operation leaves
open and a later one of the same step takes back. -/

namespace Sys2Proof.Machine

/-! ### The law up to a slack -/

/-- What the middle of a step may leave open: own events whose entry and record do not agree yet, QUEUED records whose
RAISE may be gone, held records whose claim may be gone, queued frames that need stand for nothing any more, and AWAITING
records in LEAVING. -/
structure Slack where
  own : Identity → Prop
  raise : Identity → Prop
  held : Identity → Prop
  frame : QueuedFrame → Prop
  awaiting : Prop

/-- Nothing is left open. -/
def Slack.none : Slack := ⟨fun _ => False, fun _ => False, fun _ => False, fun _ => False, False⟩

/-- The own event of an identity is taken back. -/
def Slack.settleOwn (k : Slack) (id : Identity) : Slack :=
  { k with own := fun i => k.own i ∧ i ≠ id, raise := fun i => k.raise i ∧ i ≠ id }

/-- The held record of an identity is taken back. -/
def Slack.settleHeld (k : Slack) (id : Identity) : Slack := { k with held := fun i => k.held i ∧ i ≠ id }

/-- A slack that leaves open no more than another. -/
structure Slack.Within (k k' : Slack) : Prop where
  own : ∀ i, k.own i → k'.own i
  raise : ∀ i, k.raise i → k'.raise i
  held : ∀ i, k.held i → k'.held i
  frame : ∀ q, k.frame q → k'.frame q
  awaiting : k.awaiting → k'.awaiting

theorem Slack.none_within (k : Slack) : Slack.none.Within k :=
  ⟨fun _ => False.elim, fun _ => False.elim, fun _ => False.elim, fun _ => False.elim, False.elim⟩

theorem Slack.Within.rfl {k : Slack} : k.Within k := ⟨fun _ => id, fun _ => id, fun _ => id, fun _ => id, id⟩

/-- The queued frame is the RAISE of an identity. -/
def Queued.raisesEvent (id : Identity) : Queued → Bool
  | .raise i _ _ _ _ _ => i = id
  | .restate _ => false
  | .withdraw _ _ => false
  | .bid _ _ _ => false
  | .lapse _ _ _ => false
  | .finish _ _ _ _ _ => false
  | .release _ _ _ => false
  | .join _ => false

/-- R2, R78, R141, R125, R184: the laws of the blocks, each on its own. -/
structure State.BlockLaws (s : State) : Prop where
  table : s.TableLaw
  queue : s.QueueLaw
  quiet : s.QuietLaw
  origin : s.OriginLaw
  notices : s.StationNoticeLaw

theorem State.BlockLaws.of_keeps {s t : State} (h : s.BlockLaws) (k : s.KeepsBlocks t) : t.BlockLaws :=
  ⟨k.table h.table, k.queue h.queue, k.quiet h.quiet, k.origin h.origin, k.notices h.notices⟩

/-- R98: the Held List agrees with the table. -/
structure State.HeldAgrees (k : Identity → Prop) (s : State) : Prop where
  one_le : 1 ≤ s.config.slots
  le_four : s.config.slots ≤ 4
  length_le : s.held.length ≤ s.config.slots
  ids : (s.held.map HeldRecord.id).Nodup
  claims : ∀ r ∈ s.held, r.state ≠ .closed → k r.id ∨ claimedBy s.table r.id s.address r.attempt = true

/-- R125: the Origin List agrees with the table and the queue. -/
structure State.OwnAgrees (k raise : Identity → Prop) (s : State) : Prop where
  entries : ∀ e ∈ s.table, e.id.origin = s.address → k e.id ∨ ∃ r ∈ s.origin, r.serial = e.id.serial ∧ r.inPool = true
  records : ∀ r ∈ s.origin, r.inPool = true → k (s.ownId r.serial) ∨ ∃ e ∈ s.table, e.id = s.ownId r.serial
  raises : ∀ r ∈ s.origin, r.state = .queued →
    raise (s.ownId r.serial) ∨ ∃ q ∈ s.queue, q.frame.raisesEvent (s.ownId r.serial) = true
  pending : ∀ r ∈ s.origin, r.withdrawPending = true → r.state = .queued

/-- R116: the unread notices of a held record are counted in it. -/
def HeldRecord.countedIn (r : HeldRecord) (ns : List Notice) : Prop :=
  (ns.filter (Notice.deadlineFor r.id)).length ≤ (if r.deadlineNoticed then 1 else 0)
    ∧ (ns.filter (Notice.revokedFor r.id)).length ≤ (if r.state = .closed then 1 else 0)
    ∧ r.unread = (ns.filter (Notice.deadlineFor r.id)).length + (ns.filter (Notice.revokedFor r.id)).length
    ∧ (r.state = .closed → 1 ≤ r.unread)

/-- R134: an Origin record has one final notice when it is CLOSED, and none otherwise. -/
def OriginRecord.notedIn (r : OriginRecord) (id : Identity) (ns : List Notice) : Prop :=
  (ns.filter (Notice.finalFor id)).length = if r.isClosed then 1 else 0

/-- R116, R134: the notices agree with the records. -/
structure State.NoticesAgree (s : State) : Prop where
  named : ∀ n ∈ s.notices, n.isStation = true
    ∨ (∃ r ∈ s.origin, n.finalFor (s.ownId r.serial) = true)
    ∨ (∃ r ∈ s.held, n.deadlineFor r.id = true ∨ n.revokedFor r.id = true)
  finals : ∀ r ∈ s.origin, r.notedIn (s.ownId r.serial) s.notices
  unread : ∀ r ∈ s.held, r.countedIn s.notices

/-- R140: the Station Controller agrees with the lists. -/
structure State.Controlled (k : Prop) (s : State) : Prop where
  stage : s.ctl.joinStage.isSome ↔ s.station = .listen
  draining : s.ctl.draining = true ↔ s.station = .leaving
  window : s.ctl.joinStage = some .window → s.ctl.freshOwed = false
  fresh : s.ctl.freshOwed = true → s.station ≠ .active ∧ s.station ≠ .leaving ∧ ∀ r ∈ s.origin, r.isClosed = true
  config : s.station = .config → s.table = [] ∧ s.held = [] ∧ s.origin = [] ∧ s.notices = []
  detached : s.station = .detached → s.table = [] ∧ (∀ r ∈ s.held, r.state = .closed) ∧ ∀ r ∈ s.origin, r.isClosed = true
  leaving : s.station = .leaving → k ∨ ∀ r ∈ s.held, r.state ≠ .awaiting
  addressed : s.station ≠ .config → s.config.address.isSome = true
  reset : s.inReset = true → s.station = .config

/-- The whole law, up to a slack. -/
structure State.LawUpTo (k : Slack) (s : State) : Prop where
  blocks : s.BlockLaws
  held : s.HeldAgrees k.held
  own : s.OwnAgrees k.own k.raise
  notices : s.NoticesAgree
  control : s.Controlled k.awaiting
  frames : ∀ q ∈ s.queue, k.frame q ∨ s.standsFor q = true
  image : s.imageMatches = true

theorem State.LawUpTo.mono {k k' : Slack} {s : State} (h : s.LawUpTo k) (hk : k.Within k') : s.LawUpTo k' where
  blocks := h.blocks
  held := { h.held with claims := fun r hr hs => (h.held.claims r hr hs).imp_left (hk.held _) }
  own := { h.own with
    entries := fun e he ho => (h.own.entries e he ho).imp_left (hk.own _)
    records := fun r hr hp => (h.own.records r hr hp).imp_left (hk.own _)
    raises := fun r hr hq => (h.own.raises r hr hq).imp_left (hk.raise _) }
  notices := h.notices
  control := { h.control with leaving := fun hs => (h.control.leaving hs).imp_left hk.awaiting }
  frames q hq := (h.frames q hq).imp_left (hk.frame q)
  image := h.image

/-! ### What a queued frame stands for -/

/-- The Origin record in a state that has the queued frame of an identity place. -/
def OriginRecord.backs (r : OriginRecord) (q : QueuedFrame) : Prop :=
  match q.frame with
  | .raise _ _ _ _ _ _ => r.state = .queued ∧ (r.withdrawPending = true → q.onLine = true)
  | .restate _ => r.state = .live ∨ (r.state = .withdrawing ∧ q.onLine = true)
  | .withdraw _ _ => r.state = .withdrawing
  | _ => False

/-- A frame of an identity place stands for the Origin record of its serial. -/
theorem State.standsFor_identity {s : State} {q : QueuedFrame} {id : Identity} (hp : q.frame.place = .identity id) :
    s.standsFor q = true ↔ id.origin = s.address ∧ ∃ r ∈ s.origin, r.serial = id.serial ∧ r.backs q := by
  obtain ⟨frame, onLine⟩ := q
  cases frame <;> cases hp <;> simp [State.standsFor, OriginRecord.backs, imp_iff_not_or]

/-- The Held record in a state that has the queued frame of a held place. -/
def HeldRecord.backs (r : HeldRecord) (q : QueuedFrame) : Prop :=
  r.state = .ending ∧
    match q.frame with
    | .finish _ _ attempt _ _ => r.attempt = attempt
    | .release _ _ attempt => r.attempt = attempt
    | _ => False

/-- A frame of a held place stands for the Held record of its identity. -/
theorem State.standsFor_held {s : State} {q : QueuedFrame} {id : Identity} (hp : q.frame.place = .held id) :
    s.standsFor q = true ↔ ∃ r ∈ s.held, r.id = id ∧ r.backs q := by
  obtain ⟨frame, onLine⟩ := q
  cases frame <;> cases hp <;> simp [State.standsFor, HeldRecord.backs, and_comm]

/-- A BID stands for a claim that the Held List has room for. -/
theorem State.standsFor_bid {s : State} {q : QueuedFrame} (hp : q.frame.place = .bid) :
    s.standsFor q = true ↔
      (s.station = .active ∨ (s.station = .leaving ∧ q.onLine = true)) ∧ s.held.length < s.config.slots
        ∧ ∃ id p a, q.frame = .bid id p a ∧ ∀ r ∈ s.held, r.id ≠ id := by
  obtain ⟨frame, onLine⟩ := q
  cases frame <;> cases hp
  simp [State.standsFor]

theorem State.standsFor_lapse {s : State} {q : QueuedFrame} (hp : q.frame.place = .lapse) :
    s.standsFor q = true ↔ s.station = .active ∨ (s.station = .leaving ∧ q.onLine = true) := by
  obtain ⟨frame, onLine⟩ := q
  cases frame <;> cases hp
  simp [State.standsFor]

theorem State.standsFor_join {s : State} {q : QueuedFrame} (hp : q.frame.place = .join) :
    s.standsFor q = true ↔ s.ctl.joinStage = some .joinSending ∧ q.frame = .join s.ctl.freshOwed := by
  obtain ⟨frame, onLine⟩ := q
  cases frame <;> cases hp
  simp [State.standsFor]

/-- What a queued frame stands for is read off the lists and the Station Controller. -/
theorem State.standsFor_congr {s t : State} (q : QueuedFrame) (hc : t.config = s.config) (ho : t.origin = s.origin)
    (hh : t.held = s.held) (hs : t.ctl.state = s.ctl.state) (hj : t.ctl.joinStage = s.ctl.joinStage)
    (hf : t.ctl.freshOwed = s.ctl.freshOwed) : t.standsFor q = s.standsFor q := by
  obtain ⟨frame, onLine⟩ := q
  cases frame <;> simp [State.standsFor, State.address, State.station, hc, ho, hh, hs, hj, hf]

theorem Queued.place_of_raisesEvent {q : Queued} {id : Identity} (h : q.raisesEvent id = true) : q.place = .identity id := by
  cases q <;> simp_all [Queued.raisesEvent, Queued.place]

/-- R125: a QUEUED record is backed by its RAISE alone. -/
theorem OriginRecord.raisesEvent_of_backs {r : OriginRecord} {q : QueuedFrame} {id : Identity} (hst : r.state = .queued)
    (hb : r.backs q) (hp : q.frame.place = .identity id) : q.frame.raisesEvent id = true := by
  obtain ⟨frame, onLine⟩ := q
  cases frame <;> cases hp <;> simp_all [OriginRecord.backs, Queued.raisesEvent]

/-- An identity of this station is that of its serial. -/
theorem State.ownId_of_origin {s : State} {id : Identity} (h : id.origin = s.address) : s.ownId id.serial = id := by
  cases id
  simp_all [State.ownId]

theorem State.ownId_inj {s : State} {m n : Serial} (h : s.ownId m = s.ownId n) : m = n := by
  simpa [State.ownId] using h

@[simp] theorem State.ownId_origin (s : State) (n : Serial) : (s.ownId n).origin = s.address := rfl
@[simp] theorem State.ownId_serial (s : State) (n : Serial) : (s.ownId n).serial = n := rfl

/-! ### The whole law and the law up to no slack -/

/-- R125: with no frame but those that stand for something, the frame of a QUEUED record is its RAISE. -/
theorem State.Lawful.raise_of_queued {s : State} (h : s.Lawful) {r : OriginRecord} (hr : r ∈ s.origin)
    (hst : r.state = .queued) : ∃ q ∈ s.queue, q.frame.raisesEvent (s.ownId r.serial) = true := by
  obtain ⟨-, -, -, ⟨-, hserials⟩, -, ⟨-, -, hraise, -⟩, -, -, hstands, -⟩ := h
  obtain ⟨q, hq, hp⟩ := hraise r hr hst
  obtain ⟨-, x, hx, hserial, hbacks⟩ := (State.standsFor_identity hp).1 (hstands q hq)
  have hxr : x = r := List.inj_on_of_nodup_map hserials hx hr hserial
  exact ⟨q, hq, OriginRecord.raisesEvent_of_backs hst (hxr ▸ hbacks) hp⟩

theorem State.Lawful.lawUpTo {s : State} (h : s.Lawful) : s.LawUpTo .none := by
  have hraises := fun r hr hst => State.Lawful.raise_of_queued h (r := r) hr hst
  obtain ⟨htable, hqueue, hstanding, horigin, ⟨hone, hfour, hlen, hids, hclaims⟩, ⟨hentries, hrecords, -, hpending⟩,
    ⟨hstation, hnamed, hfinals, hunread⟩, ⟨hstage, hdraining, hwindow, hfresh, hconfig, hdetached, hleaving, haddressed,
    hreset⟩, hstands, himage⟩ := h
  exact ⟨⟨htable, hqueue, hstanding.quietLaw, horigin, hstation⟩,
    ⟨hone, hfour, hlen, hids, fun r hr hs => .inr (hclaims r hr hs)⟩,
    ⟨fun e he ho => .inr (hentries e he ho), fun r hr hp => .inr (hrecords r hr hp), fun r hr hq => .inr (hraises r hr hq),
      hpending⟩, ⟨hnamed, hfinals, hunread⟩,
    ⟨hstage, hdraining, hwindow, hfresh, hconfig, hdetached, fun hs => .inr (hleaving hs), haddressed, hreset⟩,
    fun q hq => .inr (hstands q hq), himage⟩

theorem State.LawUpTo.lawful {s : State} (h : s.LawUpTo .none) (hstanding : s.StandingLaw) : s.Lawful := by
  refine ⟨h.blocks.table, h.blocks.queue, hstanding, h.blocks.origin,
    ⟨h.held.one_le, h.held.le_four, h.held.length_le, h.held.ids,
      fun r hr hs => (h.held.claims r hr hs).resolve_left id⟩,
    ⟨fun e he ho => (h.own.entries e he ho).resolve_left id, fun r hr hp => (h.own.records r hr hp).resolve_left id,
      fun r hr hq => ?_, h.own.pending⟩,
    ⟨h.blocks.notices, h.notices.named, h.notices.finals, h.notices.unread⟩,
    ⟨h.control.stage, h.control.draining, h.control.window, h.control.fresh, h.control.config, h.control.detached,
      fun hs => (h.control.leaving hs).resolve_left id, h.control.addressed, h.control.reset⟩,
    fun q hq => (h.frames q hq).resolve_left id, h.image⟩
  obtain ⟨q, hq, hraise⟩ := (h.own.raises r hr hq).resolve_left id
  exact ⟨q, hq, Queued.place_of_raisesEvent hraise⟩

/-! ### Changes that the agreement does not speak of -/

/-- The agreement of the blocks speaks of no other item of the state. -/
theorem State.LawUpTo.congr {k : Slack} {s t : State} (h : s.LawUpTo k) (hb : s.KeepsBlocks t)
    (hconfig : t.config = s.config) (hreset : t.inReset = s.inReset)
    (hctl : t.ctl.state = s.ctl.state ∧ t.ctl.freshOwed = s.ctl.freshOwed ∧ t.ctl.joinStage = s.ctl.joinStage
      ∧ t.ctl.draining = s.ctl.draining)
    (htable : t.table = s.table) (hqueue : t.queue = s.queue) (himage : t.image = s.image) (hheld : t.held = s.held)
    (horigin : t.origin = s.origin) (hnotices : t.notices = s.notices) : t.LawUpTo k := by
  obtain ⟨hstate, hfresh, hstage, hdraining⟩ := hctl
  have haddress : t.address = s.address := by simp only [State.address, hconfig]
  have hownId : t.ownId = s.ownId := by
    funext n
    simp only [State.ownId, haddress]
  refine ⟨h.blocks.of_keeps hb, ?held, ?own, ?notices, ?control, ?frames, ?image⟩
  case held =>
    obtain ⟨h₁, h₂, h₃, h₄, h₅⟩ := h.held
    constructor <;> simpa only [hconfig, hheld, htable, haddress]
  case own =>
    obtain ⟨h₁, h₂, h₃, h₄⟩ := h.own
    constructor <;> simpa only [htable, horigin, haddress, hownId, hqueue]
  case notices =>
    obtain ⟨h₁, h₂, h₃⟩ := h.notices
    constructor <;> simpa only [hnotices, horigin, hheld, hownId]
  case control =>
    obtain ⟨h₁, h₂, h₃, h₄, h₅, h₆, h₇, h₈, h₉⟩ := h.control
    constructor <;>
      simpa only [State.station, hstate, hfresh, hstage, hdraining, htable, hheld, horigin, hnotices, hconfig, hreset]
  case frames =>
    intro q hq
    rw [State.standsFor_congr q hconfig horigin hheld hstate hstage hfresh]
    exact h.frames q (hqueue ▸ hq)
  case image =>
    simpa only [State.imageMatches, State.frameOnLine, himage, hqueue, haddress] using h.image

/-- A change of the LIU, whose failure count the blocks bound. -/
theorem State.LawUpTo.setLiu {k : Slack} {s : State} (h : s.LawUpTo k) {l : Liu} (hb : s.KeepsBlocks { s with liu := l }) :
    State.LawUpTo k { s with liu := l } :=
  h.congr hb rfl rfl ⟨rfl, rfl, rfl, rfl⟩ rfl rfl rfl rfl rfl rfl

theorem State.LawUpTo.complete {k : Slack} {s : State} (h : s.LawUpTo k) (code : Byte) (o : ReplyCode) (b : List Byte) :
    (s.complete code o b).LawUpTo k :=
  h.congr (s.keeps_complete code o b).toKeepsBlocks rfl rfl ⟨rfl, rfl, rfl, rfl⟩ rfl rfl rfl rfl rfl rfl

/-! ### Causes -/

theorem filter_map_addCause (c : StationCause) (p : Notice → Bool) (hp : ∀ n, p (n.addCause c) = p n)
    (hstation : ∀ n, n.isStation = true → p n = false) (l : List Notice) :
    (l.map (Notice.addCause c)).filter p = l.filter p := by
  induction l with
  | nil => rfl
  | cons n l ih =>
    rw [List.map_cons, List.filter_cons, List.filter_cons, hp, ih]
    cases hn : p n
    · rfl
    · have hns : n.isStation = false := by
        rw [← Bool.not_eq_true]
        intro hs
        rw [hstation n hs] at hn
        cases hn
      rw [Notice.addCause_of_not_station c hns]

@[simp] theorem Notice.finalFor_addCause (id : Identity) (c : StationCause) (n : Notice) :
    (n.addCause c).finalFor id = n.finalFor id := by cases n <;> rfl
@[simp] theorem Notice.deadlineFor_addCause (id : Identity) (c : StationCause) (n : Notice) :
    (n.addCause c).deadlineFor id = n.deadlineFor id := by cases n <;> rfl
@[simp] theorem Notice.revokedFor_addCause (id : Identity) (c : StationCause) (n : Notice) :
    (n.addCause c).revokedFor id = n.revokedFor id := by cases n <;> rfl

theorem Notice.eq_station_of_isStation {n : Notice} (h : n.isStation = true) : ∃ c, n = .station c := by
  cases n with
  | station c => exact ⟨c, rfl⟩
  | _ => cases h

theorem Notice.finalFor_of_station {n : Notice} (id : Identity) (h : n.isStation = true) : n.finalFor id = false := by
  obtain ⟨c, rfl⟩ := Notice.eq_station_of_isStation h
  rfl
theorem Notice.deadlineFor_of_station {n : Notice} (id : Identity) (h : n.isStation = true) : n.deadlineFor id = false := by
  obtain ⟨c, rfl⟩ := Notice.eq_station_of_isStation h
  rfl
theorem Notice.revokedFor_of_station {n : Notice} (id : Identity) (h : n.isStation = true) : n.revokedFor id = false := by
  obtain ⟨c, rfl⟩ := Notice.eq_station_of_isStation h
  rfl

/-- R184: a cause changes no notice that belongs to a record. -/
theorem State.filter_raiseCause (s : State) (c : StationCause) {p : Notice → Bool}
    (hp : ∀ n, p (n.addCause c) = p n) (hstation : ∀ n, n.isStation = true → p n = false) :
    (s.raiseCause c).notices.filter p = s.notices.filter p := by
  rw [State.raiseCause_notices]
  split
  · exact filter_map_addCause c p hp hstation _
  · rw [List.filter_append, List.filter_cons, hstation _ rfl]
    simp

/-- R184: a notice of the queue once a cause has been raised. -/
theorem State.mem_raiseCause {s : State} {c : StationCause} {n : Notice} (h : n ∈ (s.raiseCause c).notices) :
    n.isStation = true ∨ n ∈ s.notices := by
  rw [State.raiseCause_notices] at h
  split at h
  · obtain ⟨m, hm, rfl⟩ := List.mem_map.1 h
    cases hs : m.isStation
    · exact .inr (by rwa [Notice.addCause_of_not_station c hs])
    · exact .inl (by simpa using hs)
  · rcases List.mem_append.1 h with h | h
    · exact .inr h
    · rw [List.mem_singleton.1 h]
      exact .inl rfl

theorem State.LawUpTo.raiseCause {k : Slack} {s : State} (h : s.LawUpTo k) (c : StationCause)
    (hs : s.station ≠ .config) : (s.raiseCause c).LawUpTo k where
  blocks := h.blocks.of_keeps (s.keeps_raiseCause c).toKeepsBlocks
  held := by
    obtain ⟨h₁, h₂, h₃, h₄, h₅⟩ := h.held
    constructor <;> simpa
  own := by
    obtain ⟨h₁, h₂, h₃, h₄⟩ := h.own
    constructor <;> simpa [State.ownId]
  notices := by
    refine ⟨fun n hn => ?_, fun r hr => ?_, fun r hr => ?_⟩
    · simp only [State.ownId, State.raiseCause_address, State.raiseCause_origin, State.raiseCause_held]
      rcases State.mem_raiseCause hn with hn | hn
      · exact .inl hn
      · exact h.notices.named n hn
    · rw [State.raiseCause_origin] at hr
      simp only [OriginRecord.notedIn, State.ownId, State.raiseCause_address,
        s.filter_raiseCause c (fun n => Notice.finalFor_addCause _ c n) (fun n => Notice.finalFor_of_station _)]
      exact h.notices.finals r hr
    · rw [State.raiseCause_held] at hr
      simp only [HeldRecord.countedIn,
        s.filter_raiseCause c (fun n => Notice.deadlineFor_addCause _ c n) (fun n => Notice.deadlineFor_of_station _),
        s.filter_raiseCause c (fun n => Notice.revokedFor_addCause _ c n) (fun n => Notice.revokedFor_of_station _)]
      exact h.notices.unread r hr
  control := by
    obtain ⟨h₁, h₂, h₃, h₄, h₅, h₆, h₇, h₈, h₉⟩ := h.control
    refine ⟨?_, ?_, ?_, ?_, fun hc => absurd (by simpa [State.station] using hc) hs, ?_, ?_, ?_, ?_⟩ <;>
      simpa [State.station]
  frames q hq := by
    rw [State.standsFor_congr (s := s) q (by simp) (by simp) (by simp) (by simp) (by simp) (by simp)]
    exact h.frames q (by simpa using hq)
  image := by simpa [State.imageMatches, State.frameOnLine] using h.image

end Sys2Proof.Machine
end

section
/-! SUPPORT. How the law up to a slack is carried through each kind of change: of the queue, of one Held record, of one
Origin record, of the table. -/

namespace Sys2Proof.Machine

/-! ### Changes of the queue -/

/-- A change of the queue that keeps the frame on the Line. -/
theorem State.LawUpTo.setQueue {k k' : Slack} {s : State} (h : s.LawUpTo k) (q' : List QueuedFrame)
    (hb : s.Keeps { s with queue := q' }) (hline : q'.find? QueuedFrame.onLine = s.queue.find? QueuedFrame.onLine)
    (hframe : ∀ g ∈ q', k'.frame g ∨ s.standsFor g = true)
    (hraise : ∀ id, (∃ g ∈ s.queue, g.frame.raisesEvent id = true) →
      k'.raise id ∨ ∃ g ∈ q', g.frame.raisesEvent id = true)
    (hown : ∀ i, k.own i → k'.own i) (hraised : ∀ i, k.raise i → k'.raise i) (hheld : ∀ i, k.held i → k'.held i)
    (hawaiting : k.awaiting → k'.awaiting) :
    State.LawUpTo k' { s with queue := q' } where
  blocks := h.blocks.of_keeps hb.toKeepsBlocks
  held := { h.held with claims := fun r hr hs => (h.held.claims r hr hs).imp_left (hheld _) }
  own := {
    entries := fun e he ho => (h.own.entries e he ho).imp_left (hown _)
    records := fun r hr hp => (h.own.records r hr hp).imp_left (hown _)
    raises := fun r hr hst => by
      rcases h.own.raises r hr hst with hk | hq
      · exact .inl (hraised _ hk)
      · exact hraise _ hq
    pending := h.own.pending }
  notices := ⟨h.notices.named, h.notices.finals, h.notices.unread⟩
  control := { h.control with leaving := fun hs => (h.control.leaving hs).imp_left hawaiting }
  frames := fun g hg => (hframe g hg).imp_right fun hst => hst
  image := by
    have himage := h.image
    simp only [State.imageMatches, State.frameOnLine] at himage ⊢
    rw [hline]
    exact himage

/-- A removal of frames off the Line, none of them a RAISE. -/
theorem State.LawUpTo.filterQueue {k : Slack} {s : State} (h : s.LawUpTo k) (p : QueuedFrame → Bool)
    (hp : ∀ q ∈ s.queue, q.onLine = true → p q = true)
    (hraise : ∀ q ∈ s.queue, ∀ id, q.frame.raisesEvent id = true → p q = true) :
    State.LawUpTo k { s with queue := s.queue.filter p } :=
  h.setQueue _ (s.keeps_filter p hp) (find?_onLine_filter hp) (fun g hg => h.frames g (List.mem_filter.1 hg).1)
    (fun id ⟨g, hg, hr⟩ => .inr ⟨g, List.mem_filter.2 ⟨hg, hraise g hg id hr⟩, hr⟩) (fun _ => id) (fun _ => id) (fun _ => id) id

/-- A frame that stands for something enters an empty place. -/
theorem State.LawUpTo.appendQueue {k : Slack} {s : State} (h : s.LawUpTo k) {f : Queued}
    (ht : s.takesPosts = true) (hp : framePlaced s.queue f.place = none)
    (hf : s.standsFor { frame := f, onLine := false } = true) :
    State.LawUpTo k { s with queue := s.queue ++ [{ frame := f, onLine := false }] } := by
  refine h.setQueue _ (s.keeps_queue _ s.image (State.queueLaw_append (framePlaced_none.1 hp)) (.inl ht))
    (by simp) (fun g hg => ?_) (fun id ⟨g, hg, hr⟩ => .inr ⟨g, List.mem_append_left _ hg, hr⟩) (fun _ => id)
    (fun _ => id) (fun _ => id) id
  rcases List.mem_append.1 hg with hg | hg
  · exact h.frames g hg
  · rw [List.mem_singleton.1 hg]
    exact .inr hf

/-- A frame that gives way to a post is no RAISE. -/
theorem Queued.raisesEvent_of_givesWay {g f : Queued} (h : givesWay g f = true) (id : Identity) :
    g.raisesEvent id = false := by
  cases g <;> simp_all [givesWay, Queued.raisesEvent]

theorem State.LawUpTo.post {k : Slack} {s : State} (h : s.LawUpTo k) {f : Queued}
    (hf : s.standsFor { frame := f, onLine := false } = true) : (s.post f).LawUpTo k := by
  unfold State.post
  split
  · rename_i ha
    obtain ⟨ht, hp⟩ := State.postAnswer_placed ha
    exact h.appendQueue ht hp hf
  · rename_i ha
    obtain ⟨ht, g, hp, hoff, hw⟩ := State.postAnswer_replaced ha
    have honly : ∀ q ∈ s.queue, q.frame.place = f.place → q = g := fun q hq hqp =>
      eq_of_framePlaced h.blocks.queue.1 hp hq hqp
    have hcleared : State.LawUpTo k { s with queue := withoutPlace s.queue f.place } := by
      refine h.filterQueue _ (fun q hq honLine => ?_) (fun q hq id hr => ?_)
      · rw [decide_eq_true_eq]
        intro hqp
        rw [honly q hq hqp, hoff] at honLine
        cases honLine
      · rw [decide_eq_true_eq]
        intro hqp
        rw [honly q hq hqp, Queued.raisesEvent_of_givesWay hw] at hr
        cases hr
    exact State.LawUpTo.appendQueue (s := { s with queue := withoutPlace s.queue f.place }) hcleared ht
      (framePlaced_none.2 fun q hq => by simpa [withoutPlace] using (List.mem_filter.1 hq).2) hf
  · exact h
  · exact h
  · exact h

/-- A removal from a place that no RAISE stands in. -/
theorem State.LawUpTo.removeFrame {k : Slack} {s : State} (h : s.LawUpTo k) {p : Place} (hp : ∀ id, p ≠ .identity id) :
    (s.removeFrame p).LawUpTo k := by
  refine h.filterQueue _ (fun q _ honLine => by simp [honLine]) (fun q _ id hr => ?_)
  have hplace := Queued.place_of_raisesEvent hr
  simp [hplace, Ne.symm (hp id)]

/-- R100: an eligible entry gives a BID that stands for its claim. -/
theorem State.standsFor_of_bidChoice {s : State} {e : Entry} (h : s.bidChoice = some e) :
    s.standsFor { frame := .bid e.id e.priority e.attempt, onLine := false } = true := by
  have hmem := pickLeast_mem _ _ _ h
  have heligible : s.eligible e = true := (List.mem_filter.1 hmem).2
  simp only [State.eligible, decide_eq_true_eq] at heligible
  obtain ⟨hactive, -, -, -, hnone, hroom⟩ := heligible
  simp only [State.standsFor, decide_eq_true_eq]
  exact ⟨.inl hactive, hroom, hnone⟩

theorem State.LawUpTo.remakeBid {k : Slack} {s : State} (h : s.LawUpTo k) : s.remakeBid.LawUpTo k := by
  rcases s.remakeBid_cases with e | ⟨-, e⟩ | ⟨x, hx, e⟩
  · rw [e]; exact h
  · rw [e]; exact h.removeFrame (by simp)
  · rw [e]; exact h.post (State.standsFor_of_bidChoice hx)

theorem State.LawUpTo.remakeLapse {k : Slack} {s : State} (h : s.LawUpTo k) : s.remakeLapse.LawUpTo k := by
  rcases s.remakeLapse_cases with e | ⟨hs, ⟨-, e⟩ | ⟨x, -, e⟩⟩
  · rw [e]; exact h
  · rw [e]; exact h.removeFrame (by simp)
  · rw [e]; exact h.post (by simp [State.standsFor, hs])

theorem State.LawUpTo.remakeChoices {k : Slack} {s : State} (h : s.LawUpTo k) : s.remakeChoices.LawUpTo k :=
  h.remakeLapse.remakeBid

/-! ### Changes of one Held record -/

/-- Two changes of the record of an identity are one change when they agree on the record that has it. -/
theorem State.setHeld_congr {s : State} {r : HeldRecord} {f g : HeldRecord → HeldRecord}
    (hn : (s.held.map HeldRecord.id).Nodup) (hr : r ∈ s.held) (hfg : f r = g r) : s.setHeld r.id f = s.setHeld r.id g := by
  have hmap : (s.held.map fun x => if x.id = r.id then f x else x) = s.held.map fun x => if x.id = r.id then g x else x := by
    refine List.map_congr_left fun x hx => ?_
    split
    next hid => rw [List.inj_on_of_nodup_map hn hx hr hid, hfg]
    next => rfl
  simp only [State.setHeld, hmap]

/-- The Held List with one record replaced. -/
def replaceRecord (held : List HeldRecord) (r r' : HeldRecord) : List HeldRecord :=
  held.map fun x => if x.id = r.id then r' else x

theorem mem_replaceRecord {held : List HeldRecord} {r r' x : HeldRecord} (hr : r ∈ held) :
    x ∈ replaceRecord held r r' ↔ x = r' ∨ (x ∈ held ∧ x.id ≠ r.id) := by
  simp only [replaceRecord, List.mem_map]
  constructor
  · rintro ⟨y, hy, rfl⟩
    by_cases hid : y.id = r.id
    · simp [hid]
    · simp [hid, hy]
  · rintro (rfl | ⟨hx, hid⟩)
    · exact ⟨r, hr, by simp⟩
    · exact ⟨x, hx, by simp [hid]⟩

theorem replaceRecord_ids {held : List HeldRecord} {r r' : HeldRecord} (hid : r'.id = r.id) :
    (replaceRecord held r r').map HeldRecord.id = held.map HeldRecord.id := by
  simp only [replaceRecord, List.map_map]
  refine List.map_congr_left fun x _ => ?_
  dsimp only [Function.comp]
  split
  · rename_i hx; rw [hid, hx]
  · rfl

theorem Notice.finalFor_of_held {n : Notice} {id : Identity} (h : n.deadlineFor id = true ∨ n.revokedFor id = true)
    (i : Identity) : n.finalFor i = false := by
  cases n <;> simp_all [Notice.deadlineFor, Notice.revokedFor, Notice.finalFor]

theorem Notice.heldFor_of_ne {n : Notice} {id i : Identity} (h : n.deadlineFor id = true ∨ n.revokedFor id = true)
    (hi : id ≠ i) : n.deadlineFor i = false ∧ n.revokedFor i = false := by
  cases n <;> simp_all [Notice.deadlineFor, Notice.revokedFor]

theorem Notice.isStation_of_held {n : Notice} {id : Identity} (h : n.deadlineFor id = true ∨ n.revokedFor id = true) :
    n.isStation = false := by
  cases n <;> simp_all [Notice.deadlineFor, Notice.revokedFor, Notice.isStation]

theorem Notice.heldFor_of_final {n : Notice} {id : Identity} (h : n.finalFor id = true) (i : Identity) :
    n.deadlineFor i = false ∧ n.revokedFor i = false := by
  cases n <;> simp_all [Notice.deadlineFor, Notice.revokedFor, Notice.finalFor]

theorem Notice.finalFor_of_ne {n : Notice} {id i : Identity} (h : n.finalFor id = true) (hi : id ≠ i) :
    n.finalFor i = false := by
  cases n <;> simp_all [Notice.finalFor]

theorem Notice.isStation_of_final {n : Notice} {id : Identity} (h : n.finalFor id = true) : n.isStation = false := by
  cases n <;> simp_all [Notice.finalFor, Notice.isStation]

/-- Notices that a count passes by. -/
theorem filter_append_of_none {p : Notice → Bool} {ns : List Notice} (l : List Notice) (h : ∀ n ∈ ns, p n = false) :
    (l ++ ns).filter p = l.filter p := by
  rw [List.filter_append, List.filter_eq_nil_iff (l := ns).2 fun n hn => by simp [h n hn], List.append_nil]

/-- Notices that are no STATION notices join the queue. -/
theorem State.keeps_appendNotices (s : State) {ns : List Notice} (h : ∀ n ∈ ns, n.isStation = false) :
    s.Keeps { s with notices := s.notices ++ ns } :=
  s.keeps_notices _ fun hs => by rwa [State.StationNoticeLaw, filter_append_of_none _ h]

/-- A row of notices that differs from another in notices of one held record only. -/
structure SameBut (id : Identity) (l l' : List Notice) : Prop where
  mem : ∀ n ∈ l', n ∈ l ∨ n.deadlineFor id = true ∨ n.revokedFor id = true
  filter : ∀ p : Notice → Bool, (∀ n, n.deadlineFor id = true ∨ n.revokedFor id = true → p n = false) →
    l'.filter p = l.filter p

theorem SameBut.rfl {id : Identity} {l : List Notice} : SameBut id l l := ⟨fun _ => .inl, fun _ _ => Eq.refl _⟩

theorem SameBut.append {id : Identity} (l : List Notice) {n : Notice}
    (hn : n.deadlineFor id = true ∨ n.revokedFor id = true) : SameBut id l (l ++ [n]) := by
  refine ⟨fun m hm => ?_, fun p hp => filter_append_of_none l fun m hm => ?_⟩
  · rcases List.mem_append.1 hm with hm | hm
    · exact .inl hm
    · exact .inr (List.mem_singleton.1 hm ▸ hn)
  · exact hp m (List.mem_singleton.1 hm ▸ hn)

theorem SameBut.tail {id : Identity} (l : List Notice) {n : Notice}
    (hn : n.deadlineFor id = true ∨ n.revokedFor id = true) : SameBut id (n :: l) l :=
  ⟨fun _ hm => .inl (List.mem_cons_of_mem _ hm), fun p hp => by rw [List.filter_cons, hp n hn]; simp⟩

theorem SameBut.keeps {id : Identity} {s : State} {l : List Notice} (h : SameBut id s.notices l) :
    s.Keeps { s with notices := l } :=
  s.keeps_notices l fun hs => by
    rw [State.StationNoticeLaw, h.filter _ fun n hn => Notice.isStation_of_held hn]
    exact hs

/-- R98, R116: a held record is changed, with the notices queued for it or popped. -/
theorem State.LawUpTo.replaceHeld {k : Slack} {s : State} (h : s.LawUpTo k) {r r' : HeldRecord} (hr : r ∈ s.held)
    (hid : r'.id = r.id) (hattempt : r'.attempt = r.attempt) {ns : List Notice} (hns : SameBut r.id s.notices ns)
    (hcount : r'.countedIn ns) (hopen : r.state = .closed → r'.state = .closed)
    (hawaiting : r'.state = .awaiting → r.state = .awaiting)
    (hending : r.state = .ending → r'.state = .ending
      ∨ ∀ q ∈ s.queue, q.frame.place = .held r.id → k.frame q) :
    State.LawUpTo k { s with held := replaceRecord s.held r r', notices := ns } := by
  have hmem : ∀ x, x ∈ replaceRecord s.held r r' ↔ x = r' ∨ (x ∈ s.held ∧ x.id ≠ r.id) := fun x =>
    mem_replaceRecord hr
  have hconfig : s.station ≠ .config := fun hc => by simp [(h.control.config hc).2.1] at hr
  refine ⟨h.blocks.of_keeps ((s.keeps_held (replaceRecord s.held r r')).trans
      (SameBut.keeps (s := { s with held := replaceRecord s.held r r' }) hns)).toKeepsBlocks,
    ⟨h.held.one_le, h.held.le_four, by simpa [replaceRecord] using h.held.length_le,
      by rw [replaceRecord_ids hid]; exact h.held.ids, ?claims⟩,
    ⟨h.own.entries, h.own.records, h.own.raises, h.own.pending⟩, ⟨?named, ?finals, ?unread⟩,
    ⟨h.control.stage, h.control.draining, h.control.window, h.control.fresh, fun hc => absurd hc hconfig, ?detached,
      ?leaving, h.control.addressed, h.control.reset⟩, ?frames, h.image⟩
  case claims =>
    intro x hx hs
    rcases (hmem x).1 hx with rfl | ⟨hx, -⟩
    · rw [hid, hattempt]
      exact h.held.claims r hr fun hc => hs (hopen hc)
    · exact h.held.claims x hx hs
  case named =>
    intro n hn
    rcases hns.mem n hn with hn | hn
    · refine (h.notices.named n hn).imp_right (Or.imp_right ?_)
      rintro ⟨x, hx, hfor⟩
      by_cases hxr : x.id = r.id
      · exact ⟨r', (hmem r').2 (.inl rfl), by rwa [hid, ← hxr]⟩
      · exact ⟨x, (hmem x).2 (.inr ⟨hx, hxr⟩), hfor⟩
    · exact .inr (.inr ⟨r', (hmem r').2 (.inl rfl), by rw [hid]; exact hn⟩)
  case finals =>
    intro x hx
    exact (congrArg List.length (hns.filter _ fun n hn => Notice.finalFor_of_held hn _)).trans (h.notices.finals x hx)
  case unread =>
    intro x hx
    rcases (hmem x).1 hx with rfl | ⟨hx, hxr⟩
    · exact hcount
    · have hdeadline := hns.filter (Notice.deadlineFor x.id) fun n hn => (Notice.heldFor_of_ne hn (Ne.symm hxr)).1
      have hrevoked := hns.filter (Notice.revokedFor x.id) fun n hn => (Notice.heldFor_of_ne hn (Ne.symm hxr)).2
      simpa only [HeldRecord.countedIn, hdeadline, hrevoked] using h.notices.unread x hx
  case detached =>
    intro hd
    obtain ⟨ht, hclosed, ho⟩ := h.control.detached hd
    refine ⟨ht, fun x hx => ?_, ho⟩
    rcases (hmem x).1 hx with rfl | ⟨hx, -⟩
    · exact hopen (hclosed r hr)
    · exact hclosed x hx
  case leaving =>
    intro hl
    refine (h.control.leaving hl).imp_right fun hnone x hx => ?_
    rcases (hmem x).1 hx with rfl | ⟨hx, -⟩
    · exact fun ha => hnone r hr (hawaiting ha)
    · exact hnone x hx
  case frames =>
    intro q hq
    rcases h.frames q hq with hk | hst
    · exact .inl hk
    cases hp : q.frame.place with
    | identity id => exact .inr ((State.standsFor_identity hp).2 ((State.standsFor_identity (s := s) hp).1 hst))
    | lapse => exact .inr ((State.standsFor_lapse hp).2 ((State.standsFor_lapse (s := s) hp).1 hst))
    | join => exact .inr ((State.standsFor_join hp).2 ((State.standsFor_join (s := s) hp).1 hst))
    | bid =>
      obtain ⟨hstation, hroom, id, p, a, hframe, hnone⟩ := (State.standsFor_bid hp).1 hst
      refine .inr ((State.standsFor_bid hp).2 ⟨hstation, by simpa [replaceRecord] using hroom, id, p, a, hframe,
        fun x hx => ?_⟩)
      rcases (hmem x).1 hx with rfl | ⟨hx, -⟩
      · rw [hid]; exact hnone r hr
      · exact hnone x hx
    | held id =>
      obtain ⟨x, hx, hxid, hbacks⟩ := (State.standsFor_held hp).1 hst
      by_cases hxr : x.id = r.id
      · have hxe : x = r := List.inj_on_of_nodup_map h.held.ids hx hr hxr
        subst hxe
        rcases hending hbacks.1 with he | hk
        · refine .inr ((State.standsFor_held hp).2 ⟨r', (hmem r').2 (.inl rfl), hid.trans hxid, he, ?_⟩)
          rw [hattempt]
          exact hbacks.2
        · exact .inl (hk q hq (by rw [hp, hxid]))
      · exact .inr ((State.standsFor_held hp).2 ⟨x, (hmem x).2 (.inr ⟨hx, hxr⟩), hxid, hbacks⟩)

/-- The claim of a held record is in order again. -/
theorem State.LawUpTo.settleHeldSlack {k : Slack} {s : State} (h : s.LawUpTo k) {id : Identity}
    (hid : ∀ r ∈ s.held, r.id = id → r.state = .closed ∨ claimedBy s.table r.id s.address r.attempt = true) :
    s.LawUpTo (k.settleHeld id) :=
  { h with
    held := { h.held with
      claims := fun r hr hs => by
        by_cases hrid : r.id = id
        · exact .inr ((hid r hr hrid).resolve_left hs)
        · exact (h.held.claims r hr hs).imp_left fun hk => ⟨hk, hrid⟩ }
    own := h.own, control := h.control, frames := h.frames }

/-! ### Changes of one Origin record -/

/-- The Origin List with one record replaced. -/
def replaceOwn (origin : List OriginRecord) (r r' : OriginRecord) : List OriginRecord :=
  origin.map fun x => if x.serial = r.serial then r' else x

theorem mem_replaceOwn {origin : List OriginRecord} {r r' x : OriginRecord} (hr : r ∈ origin) :
    x ∈ replaceOwn origin r r' ↔ x = r' ∨ (x ∈ origin ∧ x.serial ≠ r.serial) := by
  simp only [replaceOwn, List.mem_map]
  constructor
  · rintro ⟨y, hy, rfl⟩
    by_cases hid : y.serial = r.serial
    · simp [hid]
    · simp [hid, hy]
  · rintro (rfl | ⟨hx, hid⟩)
    · exact ⟨r, hr, by simp⟩
    · exact ⟨x, hx, by simp [hid]⟩

/-- One record of the Origin List is changed by replacing it. -/
theorem State.setOrigin_eq {s : State} {r : OriginRecord} {f : OriginRecord → OriginRecord}
    (hn : (s.origin.map OriginRecord.serial).Nodup) (hr : r ∈ s.origin) :
    s.setOrigin r.serial f = { s with origin := replaceOwn s.origin r (f r) } :=
  State.setOrigin_congr (g := fun _ => f r) hn hr rfl

/-- One record of the Held List is changed by replacing it. -/
theorem State.setHeld_eq {s : State} {r : HeldRecord} {f : HeldRecord → HeldRecord}
    (hn : (s.held.map HeldRecord.id).Nodup) (hr : r ∈ s.held) :
    s.setHeld r.id f = { s with held := replaceRecord s.held r (f r) } :=
  State.setHeld_congr (g := fun _ => f r) hn hr rfl

theorem State.keeps_replaceOwn (s : State) {r r' : OriginRecord} (hserial : r'.serial = r.serial) :
    s.Keeps { s with origin := replaceOwn s.origin r r' } := by
  refine s.keeps_origin _ fun h => ?_
  have hserials : (replaceOwn s.origin r r').map OriginRecord.serial = s.origin.map OriginRecord.serial := by
    simp only [replaceOwn, List.map_map]
    refine List.map_congr_left fun x _ => ?_
    dsimp only [Function.comp]
    split
    · rename_i hx; rw [hserial, hx]
    · rfl
  exact ⟨by simpa [replaceOwn] using h.1, by rw [hserials]; exact h.2⟩

/-- R125, R134: an Origin record is changed, with the notices queued for it, and agrees with its entry and its frames. -/
theorem State.LawUpTo.replaceOrigin {k : Slack} {s : State} (h : s.LawUpTo k) {r r' : OriginRecord} (hr : r ∈ s.origin)
    (hserial : r'.serial = r.serial) (ns : List Notice) (hns : ∀ n ∈ ns, n.finalFor (s.ownId r.serial) = true)
    (hcount : r'.notedIn (s.ownId r.serial) (s.notices ++ ns)) (hopen : r.isClosed = true → r'.isClosed = true)
    (hentry : r'.inPool = true ∨ ∀ e ∈ s.table, e.id ≠ s.ownId r.serial)
    (hrecord : r'.inPool = true → ∃ e ∈ s.table, e.id = s.ownId r.serial)
    (hraise : r'.state = .queued → ∃ q ∈ s.queue, q.frame.raisesEvent (s.ownId r.serial) = true)
    (hpending : r'.withdrawPending = true → r'.state = .queued)
    (hframe : ∀ q ∈ s.queue, q.frame.place = .identity (s.ownId r.serial) → k.frame q ∨ r'.backs q) :
    State.LawUpTo (k.settleOwn (s.ownId r.serial))
      { s with origin := replaceOwn s.origin r r', notices := s.notices ++ ns } := by
  have hmem : ∀ x, x ∈ replaceOwn s.origin r r' ↔ x = r' ∨ (x ∈ s.origin ∧ x.serial ≠ r.serial) := fun x =>
    mem_replaceOwn hr
  have hconfig : s.station ≠ .config := fun hc => by simp [(h.control.config hc).2.2.1] at hr
  have hne : ∀ n : Serial, n ≠ r.serial → s.ownId n ≠ s.ownId r.serial := fun n hn he => hn (State.ownId_inj he)
  have hclosed : (∀ x ∈ s.origin, x.isClosed = true) → ∀ x ∈ replaceOwn s.origin r r', x.isClosed = true := by
    intro hall x hx
    rcases (hmem x).1 hx with rfl | ⟨hx, -⟩
    · exact hopen (hall r hr)
    · exact hall x hx
  refine ⟨h.blocks.of_keeps ((s.keeps_replaceOwn hserial).trans
      (State.keeps_appendNotices _ fun n hn => Notice.isStation_of_final (hns n hn))).toKeepsBlocks,
    ⟨h.held.one_le, h.held.le_four, h.held.length_le, h.held.ids, h.held.claims⟩,
    ⟨?entries, ?records, ?raises, ?pending⟩, ⟨?named, ?finals, ?unread⟩,
    ⟨h.control.stage, h.control.draining, h.control.window,
      fun hf => ⟨(h.control.fresh hf).1, (h.control.fresh hf).2.1, hclosed (h.control.fresh hf).2.2⟩,
      fun hc => absurd hc hconfig,
      fun hd => ⟨(h.control.detached hd).1, (h.control.detached hd).2.1, hclosed (h.control.detached hd).2.2⟩,
      h.control.leaving, h.control.addressed, h.control.reset⟩, ?frames, h.image⟩
  case entries =>
    intro e he ho
    by_cases hid : e.id = s.ownId r.serial
    · rcases hentry with hp | hnone
      · exact .inr ⟨r', (hmem r').2 (.inl rfl), by rw [hserial, hid]; rfl, hp⟩
      · exact absurd hid (hnone e he)
    · refine (h.own.entries e he ho).imp (fun hk => ⟨hk, hid⟩) ?_
      rintro ⟨x, hx, hxs, hxp⟩
      refine ⟨x, (hmem x).2 (.inr ⟨hx, fun hxr => hid ?_⟩), hxs, hxp⟩
      rw [← State.ownId_of_origin ho, ← hxs, hxr]
      rfl
  case records =>
    intro x hx hp
    rcases (hmem x).1 hx with rfl | ⟨hx, hxr⟩
    · rw [hserial]
      exact .inr (hrecord hp)
    · exact (h.own.records x hx hp).imp_left fun hk => ⟨hk, hne _ hxr⟩
  case raises =>
    intro x hx hq
    rcases (hmem x).1 hx with rfl | ⟨hx, hxr⟩
    · rw [hserial]
      exact .inr (hraise hq)
    · exact (h.own.raises x hx hq).imp_left fun hk => ⟨hk, hne _ hxr⟩
  case pending =>
    intro x hx hp
    rcases (hmem x).1 hx with rfl | ⟨hx, -⟩
    · exact hpending hp
    · exact h.own.pending x hx hp
  case named =>
    intro n hn
    rcases List.mem_append.1 hn with hn | hn
    · refine (h.notices.named n hn).imp_right (Or.imp_left ?_)
      rintro ⟨x, hx, hfor⟩
      by_cases hxr : x.serial = r.serial
      · exact ⟨r', (hmem r').2 (.inl rfl), by rw [hserial, ← hxr]; exact hfor⟩
      · exact ⟨x, (hmem x).2 (.inr ⟨hx, hxr⟩), hfor⟩
    · exact .inr (.inl ⟨r', (hmem r').2 (.inl rfl), by rw [hserial]; exact hns n hn⟩)
  case finals =>
    intro x hx
    rcases (hmem x).1 hx with rfl | ⟨hx, hxr⟩
    · rw [hserial]
      exact hcount
    · have hnone := filter_append_of_none s.notices fun n hn => Notice.finalFor_of_ne (hns n hn) (Ne.symm (hne _ hxr))
      exact (congrArg List.length hnone).trans (h.notices.finals x hx)
  case unread =>
    intro x hx
    have hdeadline := filter_append_of_none s.notices fun n hn => (Notice.heldFor_of_final (hns n hn) x.id).1
    have hrevoked := filter_append_of_none s.notices fun n hn => (Notice.heldFor_of_final (hns n hn) x.id).2
    simpa only [HeldRecord.countedIn, hdeadline, hrevoked] using h.notices.unread x hx
  case frames =>
    intro q hq
    rcases h.frames q hq with hk | hst
    · exact .inl hk
    cases hp : q.frame.place with
    | held id => exact .inr ((State.standsFor_held hp).2 ((State.standsFor_held (s := s) hp).1 hst))
    | bid => exact .inr ((State.standsFor_bid hp).2 ((State.standsFor_bid (s := s) hp).1 hst))
    | lapse => exact .inr ((State.standsFor_lapse hp).2 ((State.standsFor_lapse (s := s) hp).1 hst))
    | join => exact .inr ((State.standsFor_join hp).2 ((State.standsFor_join (s := s) hp).1 hst))
    | identity id =>
      obtain ⟨ho, x, hx, hxs, hbacks⟩ := (State.standsFor_identity hp).1 hst
      by_cases hxr : x.serial = r.serial
      · have hid : id = s.ownId r.serial := by rw [← hxr, hxs, State.ownId_of_origin ho]
        refine (hframe q hq (hid ▸ hp)).imp_right fun hb => (State.standsFor_identity hp).2 ⟨ho, r', (hmem r').2 (.inl rfl), ?_, hb⟩
        rw [hserial, ← hxr, hxs]
      · exact .inr ((State.standsFor_identity hp).2 ⟨ho, x, (hmem x).2 (.inr ⟨hx, hxr⟩), hxs, hbacks⟩)

/-- A slack for an own event that there is none of. -/
theorem State.LawUpTo.settleOwnSlack {k : Slack} {s : State} (h : s.LawUpTo k) {id : Identity}
    (hentry : ∀ e ∈ s.table, e.id = id → id.origin = s.address → ∃ r ∈ s.origin, r.serial = id.serial ∧ r.inPool = true)
    (hrecord : ∀ r ∈ s.origin, s.ownId r.serial = id → r.inPool = true → ∃ e ∈ s.table, e.id = id)
    (hraise : ∀ r ∈ s.origin, s.ownId r.serial = id → r.state = .queued →
      ∃ q ∈ s.queue, q.frame.raisesEvent id = true) : s.LawUpTo (k.settleOwn id) where
  blocks := h.blocks
  held := h.held
  own := {
    entries := fun e he ho => by
      by_cases hid : e.id = id
      · subst hid
        exact .inr (hentry e he rfl ho)
      · exact (h.own.entries e he ho).imp_left fun hk => ⟨hk, hid⟩
    records := fun r hr hp => by
      by_cases hid : s.ownId r.serial = id
      · rw [hid]
        exact .inr (hrecord r hr hid hp)
      · exact (h.own.records r hr hp).imp_left fun hk => ⟨hk, hid⟩
    raises := fun r hr hq => by
      by_cases hid : s.ownId r.serial = id
      · rw [hid]
        exact .inr (hraise r hr hid hq)
      · exact (h.own.raises r hr hq).imp_left fun hk => ⟨hk, hid⟩
    pending := h.own.pending }
  notices := h.notices
  control := h.control
  frames := h.frames
  image := h.image

/-! ### Changes of the table -/

/-- R19: the table is changed, and what no longer agrees with it is left open. -/
theorem State.LawUpTo.setTable {k k' : Slack} {s : State} (h : s.LawUpTo k) (t : List Entry) (hs : s.liuHeld = false)
    (ht : s.TableLaw → State.TableLaw { s with table := t })
    (hentries : ∀ e ∈ t, e.id.origin = s.address → k'.own e.id ∨ ∃ x ∈ s.table, x.id = e.id)
    (hrecords : ∀ n : Serial, ∀ e ∈ s.table, e.id = s.ownId n → k'.own e.id ∨ ∃ x ∈ t, x.id = e.id)
    (hclaims : ∀ id a, claimedBy s.table id s.address a = true → k'.held id ∨ claimedBy t id s.address a = true)
    (hk : k.Within k') : State.LawUpTo k' { s with table := t } := by
  have hoff : s.station ≠ .config ∧ s.station ≠ .detached := by simpa [State.liuHeld] using hs
  have h' := h.mono hk
  refine ⟨h.blocks.of_keeps (s.keeps_table t ht).toKeepsBlocks, { h'.held with claims := ?claims },
    ⟨?entries, ?records, h'.own.raises, h'.own.pending⟩,
    ⟨h'.notices.named, h'.notices.finals, h'.notices.unread⟩,
    { h'.control with
      config := fun hc => absurd hc hoff.1
      detached := fun hd => absurd hd hoff.2 }, h'.frames, h'.image⟩
  case claims =>
    intro r hr hst
    rcases h'.held.claims r hr hst with hk | hc
    · exact .inl hk
    · exact hclaims _ _ hc
  case entries =>
    intro e he ho
    rcases hentries e he ho with hk | ⟨x, hx, hxe⟩
    · exact .inl hk
    · have := h'.own.entries x hx (by rw [hxe]; exact ho)
      rwa [hxe] at this
  case records =>
    intro r hr hp
    rcases h'.own.records r hr hp with hk | ⟨e, he, hid⟩
    · exact .inl hk
    · have := hrecords r.serial e he hid
      rwa [hid] at this

end Sys2Proof.Machine
end

section
/-! SUPPORT. How the law up to a slack is carried through the reports of a taken frame, and what of the slack each report
takes back. -/

namespace Sys2Proof.Machine

/-! ### Held records -/

theorem State.heldRecord_of_mem {s : State} {r : HeldRecord} (hn : (s.held.map HeldRecord.id).Nodup) (hr : r ∈ s.held) :
    s.heldRecord r.id = some r := by
  cases hf : s.heldRecord r.id with
  | none => simpa using List.find?_eq_none.1 hf r hr
  | some x =>
    obtain ⟨hx, hid⟩ := State.heldRecord_some hf
    exact congrArg some (List.inj_on_of_nodup_map hn hx hr hid)

theorem State.heldRecord_none {s : State} {id : Identity} : s.heldRecord id = none ↔ ∀ r ∈ s.held, r.id ≠ id := by
  simp [State.heldRecord]

/-- R115: the DEADLINE notice of a record that has none is counted in it. -/
theorem HeldRecord.countedIn_deadline {r : HeldRecord} {ns : List Notice} (h : r.countedIn ns)
    (hr : r.deadlineNoticed = false) :
    HeldRecord.countedIn { r with deadlineNoticed := true, unread := r.unread + 1 } (ns ++ [.deadline r.id]) := by
  obtain ⟨hdeadline, hrevoked, hunread, hclosed⟩ := h
  simp only [hr, Bool.false_eq_true, if_false, Nat.le_zero] at hdeadline
  simp only [HeldRecord.countedIn, List.filter_append, List.filter_cons, List.filter_nil, Notice.deadlineFor,
    Notice.revokedFor, decide_true, if_true, List.length_append, List.length_cons, List.length_nil, Bool.false_eq_true,
    if_false, hdeadline]
  exact ⟨by omega, by omega, by omega, fun _ => by omega⟩

/-- R111: the REVOKED notice of a record that it closes is counted in it. -/
theorem HeldRecord.countedIn_revoked {r : HeldRecord} {ns : List Notice} (h : r.countedIn ns) (hr : r.state ≠ .closed)
    (c : RevokeCause) :
    HeldRecord.countedIn { r with state := .closed, unread := r.unread + 1 } (ns ++ [.revoked r.id c]) := by
  obtain ⟨hdeadline, hrevoked, hunread, hclosed⟩ := h
  simp only [hr, if_false, Nat.le_zero] at hrevoked
  simp only [HeldRecord.countedIn, List.filter_append, List.filter_cons, List.filter_nil, Notice.deadlineFor,
    Notice.revokedFor, decide_true, if_true, List.length_append, List.length_cons, List.length_nil, Bool.false_eq_true,
    if_false, hrevoked]
  exact ⟨by omega, by omega, by omega, fun _ => by omega⟩

theorem State.LawUpTo.noticeDeadline {k : Slack} {s : State} (h : s.LawUpTo k) (id : Identity) (a : Attempt) :
    (s.noticeDeadline id a).LawUpTo k := by
  unfold State.noticeDeadline
  split
  · exact h
  rename_i r hrec
  obtain ⟨hr, rfl⟩ := State.heldRecord_some hrec
  split
  · rename_i hdue
    rw [State.setHeld_eq h.held.ids hr]
    exact h.replaceHeld (r' := { r with deadlineNoticed := true, unread := r.unread + 1 }) hr rfl rfl
      (SameBut.append _ (.inl (by simp [Notice.deadlineFor]))) (HeldRecord.countedIn_deadline (h.notices.unread r hr)
        (by simpa using hdue.2.2)) id id fun he => .inl he
  · exact h

/-- Frames that the table has superseded are left open. -/
def Slack.coversSuperseded (k : Slack) (s : State) : Prop :=
  ∀ q : QueuedFrame, superseded s.table s.address q.frame = true → k.frame q

/-- R87: a frame of a held place whose claim is gone is superseded. -/
theorem State.LawUpTo.frame_of_unclaimed {k : Slack} {s : State} (h : s.LawUpTo k) (hk : k.coversSuperseded s)
    {r : HeldRecord} (hr : r ∈ s.held) (hc : claimedBy s.table r.id s.address r.attempt = false) :
    ∀ q ∈ s.queue, q.frame.place = .held r.id → k.frame q := by
  intro q hq hp
  rcases h.frames q hq with hf | hst
  · exact hf
  obtain ⟨x, hx, hxid, -, hbacks⟩ := (State.standsFor_held hp).1 hst
  have hxr : x = r := List.inj_on_of_nodup_map h.held.ids hx hr hxid
  subst hxr
  refine hk q ?_
  obtain ⟨frame, onLine⟩ := q
  cases frame <;> cases hp <;> simp_all [superseded]

theorem State.LawUpTo.revoke {k : Slack} {s : State} (h : s.LawUpTo k) (hk : k.coversSuperseded s) (id : Identity)
    (c : RevokeCause) : (s.revoke id c).LawUpTo (k.settleHeld id) := by
  unfold State.revoke
  split
  · rename_i hnone
    exact h.settleHeldSlack fun r hr hid => absurd hid (State.heldRecord_none.1 hnone r hr)
  rename_i r hrec
  obtain ⟨hr, rfl⟩ := State.heldRecord_some hrec
  split
  · rename_i hdue
    rw [State.setHeld_eq h.held.ids hr]
    have hclosed := h.replaceHeld (r' := { r with state := .closed, unread := r.unread + 1 }) hr rfl rfl
      (SameBut.append _ (n := .revoked r.id c) (.inr (by simp [Notice.revokedFor])))
      (HeldRecord.countedIn_revoked (h.notices.unread r hr) hdue.1 c) (fun _ => rfl) (by simp)
      fun _ => .inr (h.frame_of_unclaimed hk hr (by simpa using hdue.2))
    refine hclosed.settleHeldSlack fun x hx hxr => ?_
    rcases (mem_replaceRecord hr).1 hx with rfl | ⟨-, hne⟩
    · exact .inl rfl
    · exact absurd hxr hne
  · rename_i hkept
    refine h.settleHeldSlack fun x hx hxr => ?_
    have hxe : x = r := List.inj_on_of_nodup_map h.held.ids hx hr hxr
    subst hxe
    by_cases hs : x.state = .closed
    · exact .inl hs
    · exact .inr (by simpa [hs] using hkept)

/-- R98: a held record that no notice names leaves the list. -/
theorem State.LawUpTo.dropHeld {k : Slack} {s : State} (h : s.LawUpTo k) {id : Identity} {ns : List Notice}
    (hns : SameBut id s.notices ns) (hnone : ∀ n ∈ ns, n.deadlineFor id = false ∧ n.revokedFor id = false)
    (hframe : ∀ q ∈ s.queue, q.frame.place = .held id → k.frame q) :
    State.LawUpTo (k.settleHeld id) { s with held := s.held.filter fun r => ¬ r.id = id, notices := ns } := by
  have hmem : ∀ r, r ∈ s.held.filter (fun r => ¬ r.id = id) ↔ r ∈ s.held ∧ r.id ≠ id := by simp
  refine ⟨h.blocks.of_keeps ((s.keeps_held (s.held.filter fun r => ¬ r.id = id)).trans
      (SameBut.keeps (s := { s with held := s.held.filter fun r => ¬ r.id = id }) hns)).toKeepsBlocks,
    ⟨h.held.one_le, h.held.le_four, (List.length_filter_le _ _).trans h.held.length_le,
      h.held.ids.sublist (List.filter_sublist.map _), ?claims⟩,
    ⟨h.own.entries, h.own.records, h.own.raises, h.own.pending⟩, ⟨?named, ?finals, ?unread⟩,
    ⟨h.control.stage, h.control.draining, h.control.window, h.control.fresh, ?config, ?detached, ?leaving,
      h.control.addressed, h.control.reset⟩, ?frames, h.image⟩
  case claims =>
    intro r hr hs
    obtain ⟨hr, hne⟩ := (hmem r).1 hr
    exact (h.held.claims r hr hs).imp_left fun hk => ⟨hk, hne⟩
  case named =>
    intro n hn
    have hno := hnone n hn
    rcases hns.mem n hn with hn | hn
    · refine (h.notices.named n hn).imp_right (Or.imp_right ?_)
      rintro ⟨r, hr, hfor⟩
      refine ⟨r, (hmem r).2 ⟨hr, ?_⟩, hfor⟩
      rintro rfl
      simp [hno] at hfor
    · simp [hno] at hn
  case finals =>
    intro x hx
    exact (congrArg List.length (hns.filter _ fun n hn => Notice.finalFor_of_held hn _)).trans (h.notices.finals x hx)
  case unread =>
    intro r hr
    obtain ⟨hr, hne⟩ := (hmem r).1 hr
    have hdeadline := hns.filter (Notice.deadlineFor r.id) fun n hn => (Notice.heldFor_of_ne hn (Ne.symm hne)).1
    have hrevoked := hns.filter (Notice.revokedFor r.id) fun n hn => (Notice.heldFor_of_ne hn (Ne.symm hne)).2
    simpa only [HeldRecord.countedIn, hdeadline, hrevoked] using h.notices.unread r hr
  case config =>
    intro hc
    obtain ⟨ht, hh, ho, hn⟩ := h.control.config hc
    refine ⟨ht, by simp [hh], ho, ?_⟩
    refine List.eq_nil_iff_forall_not_mem.2 fun n hm => ?_
    rcases hns.mem n hm with hm | hm
    · simp [hn] at hm
    · simp [hnone n ‹_›] at hm
  case detached =>
    intro hd
    obtain ⟨ht, hc, ho⟩ := h.control.detached hd
    exact ⟨ht, fun r hr => hc r ((hmem r).1 hr).1, ho⟩
  case leaving =>
    intro hl
    exact (h.control.leaving hl).imp_right fun hnone r hr => hnone r ((hmem r).1 hr).1
  case frames =>
    intro q hq
    rcases h.frames q hq with hk | hst
    · exact .inl hk
    cases hp : q.frame.place with
    | identity i => exact .inr ((State.standsFor_identity hp).2 ((State.standsFor_identity (s := s) hp).1 hst))
    | lapse => exact .inr ((State.standsFor_lapse hp).2 ((State.standsFor_lapse (s := s) hp).1 hst))
    | join => exact .inr ((State.standsFor_join hp).2 ((State.standsFor_join (s := s) hp).1 hst))
    | bid =>
      obtain ⟨hstation, hroom, i, p, a, hf, hno⟩ := (State.standsFor_bid hp).1 hst
      exact .inr ((State.standsFor_bid hp).2 ⟨hstation, (List.length_filter_le _ _).trans_lt hroom, i, p, a, hf,
        fun r hr => hno r ((hmem r).1 hr).1⟩)
    | held i =>
      by_cases hi : i = id
      · exact .inl (hframe q hq (hi ▸ hp))
      · obtain ⟨r, hr, hri, hb⟩ := (State.standsFor_held hp).1 hst
        exact .inr ((State.standsFor_held hp).2 ⟨r, (hmem r).2 ⟨hr, hri ▸ hi⟩, hri, hb⟩)

/-- A count of 0 leaves no notice of a record. -/
theorem HeldRecord.no_notice_of_unread {r : HeldRecord} {ns : List Notice} (h : r.countedIn ns) (hu : r.unread = 0) :
    ∀ n ∈ ns, n.deadlineFor r.id = false ∧ n.revokedFor r.id = false := by
  obtain ⟨-, -, hunread, -⟩ := h
  have hd : ns.filter (Notice.deadlineFor r.id) = [] := List.eq_nil_of_length_eq_zero (by omega)
  have hr : ns.filter (Notice.revokedFor r.id) = [] := List.eq_nil_of_length_eq_zero (by omega)
  exact fun n hn => ⟨by simpa using List.filter_eq_nil_iff.1 hd n hn, by simpa using List.filter_eq_nil_iff.1 hr n hn⟩

/-- R110: the record of an own FINISH or RELEASE is settled, when no frame is left in its place. -/
theorem State.LawUpTo.settleHeld {k : Slack} {s : State} (h : s.LawUpTo k) (id : Identity)
    (hframe : ∀ q ∈ s.queue, q.frame.place ≠ .held id) : (s.settleHeld id).LawUpTo (k.settleHeld id) := by
  unfold State.settleHeld
  split
  · rename_i hnone
    exact h.settleHeldSlack fun r hr hid => absurd hid (State.heldRecord_none.1 hnone r hr)
  rename_i r hrec
  obtain ⟨hr, rfl⟩ := State.heldRecord_some hrec
  have hcount := h.notices.unread r hr
  split
  · rename_i hu
    exact h.dropHeld SameBut.rfl (HeldRecord.no_notice_of_unread hcount hu) fun q hq hp => absurd hp (hframe q hq)
  · rename_i hu
    rw [State.setHeld_eq h.held.ids hr]
    have hclosed := h.replaceHeld (r' := { r with state := .closed }) hr rfl rfl SameBut.rfl ?_ (fun _ => rfl) (by simp)
      fun _ => .inr fun q hq hp => absurd hp (hframe q hq)
    · refine hclosed.settleHeldSlack fun x hx hxr => ?_
      rcases (mem_replaceRecord hr).1 hx with rfl | ⟨-, hne⟩
      · exact .inl rfl
      · exact absurd hxr hne
    · obtain ⟨hd, hv, hunread, -⟩ := hcount
      refine ⟨hd, hv.trans ?_, hunread, fun _ => Nat.pos_of_ne_zero hu⟩
      split <;> simp

/-- R99, R119: a held record is created for a claim that this station has won. -/
theorem State.LawUpTo.createHeld {k : Slack} {s : State} (h : s.LawUpTo k) {id : Identity} {a : Attempt}
    (hs : s.liuHeld = false) (hroom : s.held.length < s.config.slots) (hnew : ∀ r ∈ s.held, r.id ≠ id)
    (hclaim : claimedBy s.table id s.address a = true)
    (hbid : ∀ q ∈ s.queue, q.frame.place = .bid → k.frame q) : (s.createHeld id a).LawUpTo k := by
  have hoff : s.station ≠ .config ∧ s.station ≠ .detached := by simpa [State.liuHeld] using hs
  have hcreated : ∀ (p : Priority) (st : HeldState), (s.station = .leaving → st ≠ .awaiting) → st ≠ .closed →
      State.LawUpTo k { s with held := s.held ++
        [{ id := id, attempt := a, priority := p, state := st, unread := 0, deadlineNoticed := false }] } := by
    intro p st hst hopen
    have hno : ∀ n ∈ s.notices, n.deadlineFor id = false ∧ n.revokedFor id = false := by
      intro n hn
      rcases h.notices.named n hn with hn | ⟨r, -, hn⟩ | ⟨r, hr, hn⟩
      · exact ⟨Notice.deadlineFor_of_station id hn, Notice.revokedFor_of_station id hn⟩
      · exact Notice.heldFor_of_final hn id
      · exact Notice.heldFor_of_ne hn (hnew r hr)
    refine ⟨h.blocks.of_keeps (s.keeps_held _).toKeepsBlocks,
      ⟨h.held.one_le, h.held.le_four, by simpa using hroom, ?ids, ?claims⟩,
      ⟨h.own.entries, h.own.records, h.own.raises, h.own.pending⟩, ⟨?named, h.notices.finals, ?unread⟩,
      ⟨h.control.stage, h.control.draining, h.control.window, h.control.fresh, fun hc => absurd hc hoff.1,
        fun hd => absurd hd hoff.2, ?leaving, h.control.addressed, h.control.reset⟩, ?frames, h.image⟩
    case ids =>
      simp only [List.map_append, List.map_cons, List.map_nil]
      refine h.held.ids.append (List.nodup_singleton _) ?_
      simp only [List.disjoint_singleton, List.mem_map, not_exists, not_and]
      exact hnew
    case claims =>
      intro r hr hs
      rcases List.mem_append.1 hr with hr | hr
      · exact h.held.claims r hr hs
      · rw [List.mem_singleton.1 hr]
        exact .inr hclaim
    case named =>
      intro n hn
      refine (h.notices.named n hn).imp_right (Or.imp_right ?_)
      exact fun ⟨r, hr, hfor⟩ => ⟨r, List.mem_append_left _ hr, hfor⟩
    case unread =>
      intro r hr
      rcases List.mem_append.1 hr with hr | hr
      · exact h.notices.unread r hr
      · rw [List.mem_singleton.1 hr]
        have hd : s.notices.filter (Notice.deadlineFor id) = [] :=
          List.filter_eq_nil_iff.2 fun n hn => by simp [hno n hn]
        have hv : s.notices.filter (Notice.revokedFor id) = [] :=
          List.filter_eq_nil_iff.2 fun n hn => by simp [hno n hn]
        simp [HeldRecord.countedIn, hd, hv, hopen]
    case leaving =>
      intro hl
      refine (h.control.leaving hl).imp_right fun hnone r hr => ?_
      rcases List.mem_append.1 hr with hr | hr
      · exact hnone r hr
      · rw [List.mem_singleton.1 hr]
        exact hst hl
    case frames =>
      intro q hq
      rcases h.frames q hq with hk | hst
      · exact .inl hk
      cases hp : q.frame.place with
      | identity i => exact .inr ((State.standsFor_identity hp).2 ((State.standsFor_identity (s := s) hp).1 hst))
      | lapse => exact .inr ((State.standsFor_lapse hp).2 ((State.standsFor_lapse (s := s) hp).1 hst))
      | join => exact .inr ((State.standsFor_join hp).2 ((State.standsFor_join (s := s) hp).1 hst))
      | bid => exact .inl (hbid q hq hp)
      | held i =>
        obtain ⟨r, hr, hri, hb⟩ := (State.standsFor_held hp).1 hst
        exact .inr ((State.standsFor_held hp).2 ⟨r, List.mem_append_left _ hr, hri, hb⟩)
  unfold State.createHeld
  dsimp only
  by_cases hl : s.station = .leaving
  · simp only [hl, decide_true, if_true]
    refine (hcreated _ .ending (by simp) (by simp)).post ?_
    simp [State.standsFor]
  · simp only [hl, decide_false, Bool.false_eq_true, if_false]
    exact hcreated _ .awaiting (fun h => absurd h hl) (by simp)

/-! ### Origin records -/

/-- R134: a record that is not CLOSED closes with its one final notice, when its entry is gone and the frames of its place
are left open. -/
theorem State.LawUpTo.closeOrigin {k : Slack} {s : State} (h : s.LawUpTo k) {r : OriginRecord} (hr : r ∈ s.origin)
    (hopen : r.isClosed = false) (o : FinalOutcome) {n : Notice} (hn : n.finalFor (s.ownId r.serial) = true)
    (hnone : ∀ e ∈ s.table, e.id ≠ s.ownId r.serial)
    (hframe : ∀ q ∈ s.queue, q.frame.place = .identity (s.ownId r.serial) → k.frame q) :
    (s.closeOrigin r.serial o n).LawUpTo (k.settleOwn (s.ownId r.serial)) := by
  unfold State.closeOrigin
  rw [State.setOrigin_eq h.blocks.origin.2 hr]
  refine h.replaceOrigin (r' := { r with state := .closed o, withdrawPending := false }) hr rfl [n] (by simpa using hn) ?_
    (by simp [hopen]) (.inr hnone) (by simp [OriginRecord.inPool]) (by simp) (by simp) fun q hq hp => .inl (hframe q hq hp)
  have hold := h.notices.finals r hr
  simp only [OriginRecord.notedIn, hopen, Bool.false_eq_true, if_false] at hold
  simp [OriginRecord.notedIn, OriginRecord.isClosed, List.filter_append, hn, hold]

/-- R125: an own event with no entry and no record in the pool leaves nothing open. -/
theorem State.LawUpTo.settleOwn_of_no_entry {k : Slack} {s : State} (h : s.LawUpTo k) {id : Identity}
    (hgone : findEntry s.table id = none) (hraised : ¬ k.raise id)
    (hpool : ∀ r ∈ s.origin, r.serial = id.serial → r.inPool = false) : s.LawUpTo (k.settleOwn id) := by
  refine h.settleOwnSlack (fun e he heid => absurd heid (findEntry_none.1 hgone e he)) (fun r hr hrid hp => ?_)
    fun r hr hrid hq => ?_
  · rw [hpool r hr (by rw [← hrid]; rfl)] at hp
    cases hp
  · exact (hrid ▸ h.own.raises r hr hq).resolve_left hraised

/-- R87, R133: once the entry of an own event is gone, only superseded frames and its WITHDRAW stand in its place. -/
theorem State.LawUpTo.frame_of_removed {k : Slack} {s : State} (h : s.LawUpTo k) (hk : k.coversSuperseded s)
    {r : OriginRecord} (hr : r ∈ s.origin) (hst : r.state = .live ∨ r.state = .withdrawing)
    (hgone : findEntry s.table (s.ownId r.serial) = none) {q : QueuedFrame} (hq : q ∈ s.queue)
    (hp : q.frame.place = .identity (s.ownId r.serial)) : k.frame q ∨ q.frame.isWithdraw = true := by
  rcases h.frames q hq with hf | hstand
  · exact .inl hf
  obtain ⟨-, x, hx, hxs, hb⟩ := (State.standsFor_identity hp).1 hstand
  rw [List.inj_on_of_nodup_map h.blocks.origin.2 hx hr hxs] at hb
  obtain ⟨frame, onLine⟩ := q
  cases frame <;> cases hp
  case raise.refl =>
    obtain ⟨hq, -⟩ := hb
    simp [hq] at hst
  case restate.refl => exact .inl (hk _ (by simp [superseded, hgone]))
  case withdraw.refl => exact .inr rfl

/-- R133: a removal report of an own event closes its record, and takes its slack back. -/
theorem State.LawUpTo.originRemoved {k : Slack} {s : State} (h : s.LawUpTo k) (hk : k.coversSuperseded s) {id : Identity}
    (o : FinalOutcome) {n : Notice} (hn : n.finalFor id = true) (hid : id.origin = s.address)
    (hgone : findEntry s.table id = none)
    (hline : ∀ q ∈ s.queue, q.onLine = true → q.frame.isWithdraw = true → k.frame q) (hraised : ¬ k.raise id) :
    (s.originRemoved id o n).LawUpTo (k.settleOwn id) := by
  unfold State.originRemoved
  split
  · rename_i hrec
    exact h.settleOwn_of_no_entry hgone hraised fun r hr hs => absurd hs (State.originRecord_none.1 hrec r hr)
  rename_i r hrec
  obtain ⟨hr, hserial⟩ := State.originRecord_some hrec
  split
  swap
  · rename_i hst
    refine h.settleOwn_of_no_entry hgone hraised fun x hx hxs => ?_
    rw [List.inj_on_of_nodup_map h.blocks.origin.2 hx hr (hxs.trans hserial.symm)]
    simpa [OriginRecord.inPool] using hst
  rename_i hst
  obtain ⟨origin, serial⟩ := id
  subst hid hserial
  have hcleared : State.LawUpTo k { s with queue := s.queue.filter fun f =>
      ¬ (f.frame.place = .identity (s.ownId r.serial) ∧ f.frame.isWithdraw ∧ ¬ f.onLine) } := by
    refine h.filterQueue _ (fun q _ honLine => by simp [honLine]) (fun q _ i hraise => ?_)
    cases hq : q.frame <;> simp_all [Queued.raisesEvent, Queued.isWithdraw]
  refine hcleared.closeOrigin hr (by rcases hst with hst | hst <;> simp [OriginRecord.isClosed, hst]) o hn
    (findEntry_none.1 hgone) fun q hq hp => ?_
  obtain ⟨hq, hkept⟩ := List.mem_filter.1 hq
  refine (h.frame_of_removed hk hr hst hgone hq hp).elim (fun hf => hf) fun hw => hline q hq ?_ hw
  have hp' : q.frame.place = .identity (s.ownId r.serial) := hp
  simpa [hp', hw] using hkept

end Sys2Proof.Machine
end

section
/-! SUPPORT. How the law is carried through the handling of a taken frame (R19): the table changes, its reports take back
what the change left open, and the purge removes what it superseded. -/

namespace Sys2Proof.Machine

/-! ### Entries and claims after a change of the table -/

theorem findEntry_updateEntry {t : List Entry} {id : Identity} {f : Entry → Entry} (hf : ∀ e, (f e).id = e.id)
    (i : Identity) : findEntry (updateEntry t id f) i = (findEntry t i).map fun e => if e.id = id then f e else e := by
  induction t with
  | nil => rfl
  | cons e t ih =>
    have hid : (if e.id = id then f e else e).id = e.id := by split <;> simp [hf]
    simp only [findEntry, updateEntry, List.map_cons, List.find?_cons, hid] at ih ⊢
    split
    · rfl
    · exact ih

@[simp] theorem findEntry_removeEntry_self (t : List Entry) (id : Identity) : findEntry (removeEntry t id) id = none :=
  findEntry_none.2 fun _ he => (mem_removeEntry.1 he).2

theorem findEntry_filter {t : List Entry} {p : Entry → Bool} {i : Identity} (h : ∀ e ∈ t, e.id = i → p e = true) :
    findEntry (t.filter p) i = findEntry t i := by
  induction t with
  | nil => rfl
  | cons e t ih =>
    have ih := ih fun x hx => h x (List.mem_cons_of_mem _ hx)
    simp only [findEntry] at ih ⊢
    by_cases hid : e.id = i
    · rw [List.filter_cons_of_pos (h e List.mem_cons_self hid), List.find?_cons_of_pos (by simpa using hid),
        List.find?_cons_of_pos (by simpa using hid)]
    · rw [List.find?_cons_of_neg (by simpa using hid), List.filter_cons]
      split
      · rw [List.find?_cons_of_neg (by simpa using hid), ih]
      · exact ih

theorem findEntry_removeEntry_of_ne {t : List Entry} {id i : Identity} (h : i ≠ id) :
    findEntry (removeEntry t id) i = findEntry t i :=
  findEntry_filter fun e _ he => by simp [he, h]

theorem claimedBy_congr {t u : List Entry} {id : Identity} (h : findEntry u id = findEntry t id) (me : Address)
    (a : Attempt) : claimedBy u id me a = claimedBy t id me a := by
  simp only [claimedBy, h]

theorem claimedBy_iff {t : List Entry} {id : Identity} {me : Address} {a : Attempt} :
    claimedBy t id me a = true ↔ ∃ e c, findEntry t id = some e ∧ e.attempt = a ∧ e.claim = some c ∧ c.claimant = me := by
  unfold claimedBy
  cases findEntry t id <;> simp

theorem claimedBy_append {t : List Entry} {id : Identity} {me : Address} {a : Attempt} (l : List Entry)
    (h : claimedBy t id me a = true) : claimedBy (t ++ l) id me a = true := by
  obtain ⟨e, c, he, hc⟩ := claimedBy_iff.1 h
  refine claimedBy_iff.2 ⟨e, c, ?_, hc⟩
  simp only [findEntry] at he ⊢
  rw [List.find?_append, he]
  rfl

/-- A claim on any other entry outlives a change of one. -/
theorem claimedBy_updateEntry {t : List Entry} {id i : Identity} {f : Entry → Entry} (hf : ∀ e, (f e).id = e.id)
    {me : Address} {a : Attempt} (hne : i ≠ id) (h : claimedBy t i me a = true) :
    claimedBy (updateEntry t id f) i me a = true := by
  rw [claimedBy_congr ?_ me a]
  · exact h
  · rw [findEntry_updateEntry hf]
    cases he : findEntry t i with
    | none => rfl
    | some e => simp [(findEntry_some he).2, hne]

theorem exists_mem_updateEntry {t : List Entry} {id i : Identity} {f : Entry → Entry} (hf : ∀ e, (f e).id = e.id) :
    (∃ x ∈ updateEntry t id f, x.id = i) ↔ ∃ x ∈ t, x.id = i := by
  simp only [← List.mem_map (f := Entry.id), updateEntry_ids t id f hf]

/-! ### What the handling of a frame leaves open -/

/-- The kinds of frame that a report of their own handling may settle the record of. -/
def Queued.spent : Queued → Bool
  | .withdraw _ _ => true
  | .bid _ _ _ => true
  | .raise _ _ _ _ _ _ => false
  | .restate _ => false
  | .lapse _ _ _ => false
  | .finish _ _ _ _ _ => false
  | .release _ _ _ => false
  | .join _ => false

/-- Between the change of the table and the purge: what the reports are to take back, the frames that the table has
superseded, and the frame on the Line. -/
def Slack.handling (t : List Entry) (me : Address) (own held : Identity → Prop) : Slack :=
  { own := own, raise := fun _ => False, held := held, awaiting := False
    frame := fun q => superseded t me q.frame = true ∨ (q.onLine = true ∧ q.frame.spent = true) }

/-- After the purge only the frame on the Line may be left open, and no RAISE is. -/
def Slack.handled (own held : Identity → Prop) : Slack :=
  { own := own, raise := fun _ => False, held := held, awaiting := False
    frame := fun q => q.onLine = true ∧ ∀ id, q.frame.raisesEvent id = false }

theorem Slack.Within.handling {t : List Entry} {me : Address} {own own' held held' : Identity → Prop}
    (hown : ∀ i, own i → own' i) (hheld : ∀ i, held i → held' i) :
    (Slack.handling t me own held).Within (.handling t me own' held') :=
  ⟨hown, fun _ h => h, hheld, fun _ h => h, fun h => h⟩

theorem Slack.handling_covers {s : State} {own held : Identity → Prop} :
    (Slack.handling s.table s.address own held).coversSuperseded s := fun _ h => .inl h

theorem Slack.handling_line {t : List Entry} {me : Address} {own held : Identity → Prop} {q : QueuedFrame}
    (honLine : q.onLine = true) (hw : q.frame.isWithdraw = true) : (Slack.handling t me own held).frame q := by
  refine .inr ⟨honLine, ?_⟩
  cases hq : q.frame <;> simp_all [Queued.isWithdraw, Queued.spent]

/-- R20: a removal report of one entry at the Origin Unit. -/
theorem State.LawUpTo.reportOrigin {s : State} {own held : Identity → Prop}
    (h : s.LawUpTo (.handling s.table s.address own held)) {id : Identity} {cause : RemovalCause}
    (hcause : cause ≠ .originRestarted) (hgone : findEntry s.table id = none) (hown : ∀ i, own i → i.origin = s.address) :
    (s.reportOrigin id cause).LawUpTo (.handling s.table s.address (fun i => own i ∧ i ≠ id) held) := by
  have hslack : ((Slack.handling s.table s.address own held).settleOwn id).Within
      (.handling s.table s.address (fun i => own i ∧ i ≠ id) held) :=
    ⟨fun _ h => h, fun _ h => h.1, fun _ h => h, fun _ h => h, fun h => h⟩
  unfold State.reportOrigin
  split
  · rename_i hid
    have hremoved := fun (o : FinalOutcome) (n : Notice) (hn : n.finalFor id = true) =>
      (h.originRemoved Slack.handling_covers o hn hid hgone (fun q _ => Slack.handling_line) fun h => h).mono hslack
    cases cause with
    | finished claimant result payload => exact hremoved _ _ (by simp [Notice.finalFor])
    | abandoned attempts last => exact hremoved _ _ (by simp [Notice.finalFor])
    | withdrawn => exact hremoved _ _ (by simp [Notice.finalFor])
    | originRestarted => exact absurd rfl hcause
  · rename_i hid
    exact h.mono (.handling (fun i hi => ⟨hi, fun he => hid (he ▸ hown i hi)⟩) fun _ h => h)

/-- R111: a report at the Service Unit. -/
theorem State.LawUpTo.revokeHandling {s : State} {own held : Identity → Prop} (h : s.LawUpTo (.handling s.table s.address own held))
    (id : Identity) (c : RevokeCause) :
    (s.revoke id c).LawUpTo (.handling s.table s.address own (fun i => held i ∧ i ≠ id)) :=
  (h.revoke Slack.handling_covers id c).mono ⟨fun _ h => h, fun _ h => h, fun _ h => h, fun _ h => h, fun h => h⟩

/-- The record that this station's own FINISH or RELEASE is of stays open until its outcome is told. -/
abbrev settledLater (b : Bool) (f : Frame) : Identity → Prop := fun i => settlesOwn b f i = true

theorem settlesOwn_id {b : Bool} {f : Frame} {id : Identity} (h : settlesOwn b f id = true) : f.head.id = id := by
  unfold settlesOwn at h
  split at h <;> simp_all

/-- R19: the report of a removal takes back what the removal left open. -/
theorem State.LawUpTo.deliver_removed {s : State} {b : Bool} {f : Frame} {id : Identity}
    (h : s.LawUpTo (.handling s.table s.address (fun i => i = id ∧ i.origin = s.address) (fun i => i = id)))
    (a : Attempt) {cause : RemovalCause} (hcause : cause ≠ .originRestarted) (hgone : findEntry s.table id = none) :
    (State.deliver b f s (.removed id a cause)).LawUpTo (.handling s.table s.address (fun _ => False) (settledLater b f)) := by
  have hreported := h.reportOrigin hcause hgone fun i hi => hi.2
  simp only [State.deliver]
  split
  · rename_i hsettles
    exact hreported.mono (.handling (fun i hi => hi.2 hi.1.1) fun i hi => hi ▸ hsettles)
  · have hrevoked := State.LawUpTo.revokeHandling (s := s.reportOrigin id cause) (by simpa using hreported) id cause.revokeCause
    rw [State.reportOrigin_table, State.reportOrigin_address] at hrevoked
    exact hrevoked.mono (.handling (fun i hi => hi.2 hi.1.1) fun i hi => absurd hi.1 hi.2)

/-- R19: the report of a reopening takes back what the reopening left open. -/
theorem State.LawUpTo.deliver_reopened {s : State} {b : Bool} {f : Frame} {id : Identity}
    (h : s.LawUpTo (.handling s.table s.address (fun _ => False) (fun i => i = id))) (cause : ReopenCause) (from_ : Address)
    (a : Attempt) : (State.deliver b f s (.reopened id cause from_ a)).LawUpTo
      (.handling s.table s.address (fun _ => False) (settledLater b f)) := by
  simp only [State.deliver]
  split
  · rename_i hsettles
    exact h.mono (.handling (fun _ h => h) fun i hi => hi ▸ hsettles)
  · exact (h.revokeHandling id .lapsed).mono (.handling (fun _ h => h) fun i hi => absurd hi.1 hi.2)

/-- R19, R40: the reports of the entries that a fresh JOIN removes take back what their removal left open. -/
theorem State.LawUpTo.deliver_restarted {b : Bool} {f : Frame} {fresh : Bool} (hf : f.body = .join fresh) (es : List Entry) :
    ∀ {s : State}, s.LawUpTo (.handling s.table s.address (fun _ => False) (fun i => ∃ e ∈ es, e.id = i)) →
      ((es.map fun e => Report.removed e.id e.attempt .originRestarted).foldl (State.deliver b f) s).LawUpTo
        (.handling s.table s.address (fun _ => False) (fun _ => False)) := by
  induction es with
  | nil =>
    intro s h
    exact h.mono (.handling (fun _ h => h) fun i ⟨e, he, _⟩ => by simp at he)
  | cons e es ih =>
    intro s h
    have hhead : State.deliver b f s (.removed e.id e.attempt .originRestarted) = s.revoke e.id .originRestarted := by
      simp [State.deliver, State.reportOrigin, settlesOwn, hf, RemovalCause.revokeCause]
    rw [List.map_cons, List.foldl_cons, hhead]
    have hrevoked := h.revokeHandling e.id .originRestarted
    have hrest := ih (s := s.revoke e.id .originRestarted)
      (by
        rw [State.revoke_table, State.revoke_address]
        refine hrevoked.mono (.handling (fun _ h => h) fun i ⟨⟨x, hx, hxi⟩, hne⟩ => ?_)
        rcases List.mem_cons.1 hx with rfl | hx
        · exact absurd hxi.symm hne
        · exact ⟨x, hx, hxi⟩)
    rwa [State.revoke_table, State.revoke_address] at hrest

/-! ### The change of the table -/

/-- R55, R85: a frame of the queue, on the Line, is the one composed as `f`. -/
abbrev State.hasSent (s : State) (f : Frame) : Prop :=
  ∃ q ∈ s.queue, q.onLine = true ∧ q.frame.sentAs s.address f = true ∧ s.standsFor q = true

/-- R19: the law once the table has been changed as a taken frame has it. -/
theorem State.LawUpTo.applied {s : State} {b : Bool} {f : Frame} (h : s.LawUpTo .none) (hs : s.liuHeld = false)
    (hstore : storageObjects s.address b s.table f = false) {t : List Entry}
    (ht : (applyFrame s.address b s.table f).table = t) {own held : Identity → Prop}
    (hentries : ∀ e ∈ t, e.id.origin = s.address → own e.id ∨ ∃ x ∈ s.table, x.id = e.id)
    (hrecords : ∀ e ∈ s.table, e.id.origin = s.address → own e.id ∨ ∃ x ∈ t, x.id = e.id)
    (hclaims : ∀ id a, claimedBy s.table id s.address a = true → held id ∨ claimedBy t id s.address a = true) :
    State.LawUpTo (.handling t s.address own held) { s with table := t } :=
  h.setTable t hs (fun hlaw => ht ▸ tableLaw_applyFrame hstore hlaw) hentries
    (fun n e he hid => hrecords e he (by rw [hid]; rfl)) hclaims (Slack.none_within _)

/-- R9: the law once the entry of an identity has been removed. -/
theorem State.LawUpTo.applied_remove {s : State} {b : Bool} {f : Frame} (h : s.LawUpTo .none) (hs : s.liuHeld = false)
    (hstore : storageObjects s.address b s.table f = false) {id : Identity}
    (ht : (applyFrame s.address b s.table f).table = removeEntry s.table id) :
    State.LawUpTo (.handling (removeEntry s.table id) s.address (fun i => i = id ∧ i.origin = s.address) (fun i => i = id))
      { s with table := removeEntry s.table id } := by
  refine h.applied hs hstore ht (fun e he _ => .inr ⟨e, (mem_removeEntry.1 he).1, rfl⟩) (fun e he ho => ?_)
    fun i a hc => ?_
  · by_cases hid : e.id = id
    · exact .inl ⟨hid, ho⟩
    · exact .inr ⟨e, mem_removeEntry.2 ⟨he, hid⟩, rfl⟩
  · by_cases hid : i = id
    · exact .inl hid
    · exact .inr ((claimedBy_congr (findEntry_removeEntry_of_ne hid) _ _).trans hc)

/-- R10: the law once the entry of an identity has been changed in place. -/
theorem State.LawUpTo.applied_update {s : State} {b : Bool} {f : Frame} (h : s.LawUpTo .none) (hs : s.liuHeld = false)
    (hstore : storageObjects s.address b s.table f = false) {id : Identity} {g : Entry → Entry}
    (ht : (applyFrame s.address b s.table f).table = updateEntry s.table id g) (hg : ∀ e, (g e).id = e.id) {held : Identity → Prop}
    (hheld : ∀ a, claimedBy s.table id s.address a = true → held id) :
    State.LawUpTo (.handling (updateEntry s.table id g) s.address (fun _ => False) held)
      { s with table := updateEntry s.table id g } := by
  refine h.applied hs hstore ht (fun e he _ => .inr ?_) (fun e he _ => .inr ?_) fun i a hc => ?_
  · exact (exists_mem_updateEntry hg).1 ⟨e, he, rfl⟩
  · exact (exists_mem_updateEntry hg).2 ⟨e, he, rfl⟩
  · by_cases hid : i = id
    · exact .inl (hid ▸ hheld a (hid ▸ hc))
    · exact .inr (claimedBy_updateEntry hg hid hc)

/-- R8: the law once an entry has been inserted. -/
theorem State.LawUpTo.applied_insert {s : State} {b : Bool} {f : Frame} (h : s.LawUpTo .none) (hs : s.liuHeld = false)
    (hstore : storageObjects s.address b s.table f = false) {e : Entry}
    (ht : (applyFrame s.address b s.table f).table = s.table ++ [e]) {own : Identity → Prop}
    (hown : e.id.origin = s.address → own e.id) :
    State.LawUpTo (.handling (s.table ++ [e]) s.address own (fun _ => False)) { s with table := s.table ++ [e] } := by
  refine h.applied hs hstore ht (fun x hx ho => ?_) (fun x hx _ => .inr ⟨x, List.mem_append_left _ hx, rfl⟩)
    fun i a hc => .inr (claimedBy_append _ hc)
  rcases List.mem_append.1 hx with hx | hx
  · exact .inr ⟨x, hx, rfl⟩
  · rw [List.mem_singleton.1 hx] at ho ⊢
    exact .inl (hown ho)

/-- A frame that changes nothing in the table leaves nothing open. -/
theorem State.LawUpTo.applied_unchanged {s : State} (h : s.LawUpTo .none) (own held : Identity → Prop) :
    State.LawUpTo (.handling s.table s.address own held) { s with table := s.table } :=
  h.mono (Slack.none_within _)

end Sys2Proof.Machine
end

section
/-! SUPPORT. How the law is carried through the change of the table and its reports, kind by kind (Section 2). -/

namespace Sys2Proof.Machine

/-! ### A frame on the Line and the queued frame it is composed from -/

theorem Queued.sentAs_sender {me : Address} {q : Queued} {f : Frame} (h : q.sentAs me f = true) : f.head.sender = me := by
  simp only [Queued.sentAs, Bool.and_eq_true, decide_eq_true_eq] at h
  exact h.1

theorem Queued.eq_bid_of_sentAs {me : Address} {q : Queued} {f : Frame} (h : q.sentAs me f = true) (hf : f.body = .bid) :
    ∃ p, q = .bid f.head.id p f.head.attempt := by
  cases q <;> simp_all [Queued.sentAs, Queued.keptIn]

theorem Queued.eq_restate_of_sentAs {me : Address} {q : Queued} {f : Frame} (h : q.sentAs me f = true) {cls : ClassNo}
    {limit : Limit} {deadline : Units} {claimed : Bool} {station : Address} {remaining : Units}
    (hf : f.body = .restate cls limit deadline claimed station remaining) : q = .restate f.head.id := by
  cases q <;> simp_all [Queued.sentAs, Queued.keptIn]

theorem Queued.eq_join_of_sentAs {me : Address} {q : Queued} {f : Frame} (h : q.sentAs me f = true) {fresh : Bool}
    (hf : f.body = .join fresh) : q = .join fresh := by
  cases q <;> simp_all [Queued.sentAs, Queued.keptIn]

/-- R125: an Origin record whose event is in the pool is one of an entry. -/
theorem State.LawUpTo.entry_of_inPool {s : State} (h : s.LawUpTo .none) {r : OriginRecord} (hr : r ∈ s.origin)
    (hp : r.inPool = true) : ∃ e ∈ s.table, e.id = s.ownId r.serial :=
  (h.own.records r hr hp).resolve_left id

theorem applyFrame_of_applies {me : Address} {b : Bool} {t : List Entry} {f : Frame} (h : applies me b t f = true) :
    applyFrame me b t f = applyKind me b t f := by
  simp [applyFrame, h]

/-- R27: an applied frame passes the sender test and the test of its kind. -/
theorem applies_iff {me : Address} {b : Bool} {t : List Entry} {f : Frame} :
    applies me b t f = true ↔ (b = true ∨ f.head.sender ≠ me) ∧ kindApplies t f = true := by
  simp [applies, passesSenderTest]

/-! ### Kind by kind -/

/-- The event of this station's own RAISE stays open until its outcome is told. -/
abbrev raisedLater (b : Bool) (f : Frame) : Identity → Prop := fun i =>
  b = true ∧ i = f.head.id ∧ ∃ cls limit deadline, f.body = .raise cls limit deadline

/-- R19: the state once the table has been changed and its reports have been delivered. -/
def State.reported (s : State) (b : Bool) (f : Frame) : State :=
  (applyFrame s.address b s.table f).reports.foldl (State.deliver b f)
    { s with table := (applyFrame s.address b s.table f).table }

/-- R19: the law once the reports of a frame have been delivered. -/
abbrev State.LawReported (s : State) (b : Bool) (f : Frame) : Prop :=
  (s.reported b f).LawUpTo
    (.handling (applyFrame s.address b s.table f).table s.address (raisedLater b f) (settledLater b f))

theorem State.reported_of {s : State} {b : Bool} {f : Frame} {a : Applied} (h : applyFrame s.address b s.table f = a) :
    s.reported b f = a.reports.foldl (State.deliver b f) { s with table := a.table } := by
  rw [State.reported, h]

section Kinds

variable {s : State} {b : Bool} {f : Frame}

theorem State.LawUpTo.reported_unchanged (h : s.LawUpTo .none)
    (ha : applyFrame s.address b s.table f = .unchanged s.table) : s.LawReported b f := by
  rw [State.LawReported, State.reported_of ha, ha]
  exact h.applied_unchanged _ _

theorem State.LawUpTo.reported_raise (h : s.LawUpTo .none) (hs : s.liuHeld = false)
    (hstore : storageObjects s.address b s.table f = false) (happ : applies s.address b s.table f = true) {cls : ClassNo}
    {limit : Limit} {deadline : Units} (hf : f.body = .raise cls limit deadline) : s.LawReported b f := by
  have ha := applyFrame_of_applies happ
  simp only [applyKind, hf] at ha
  obtain ⟨hsender, hkind⟩ := applies_iff.1 happ
  simp only [kindApplies, hf, decide_eq_true_eq] at hkind
  rw [State.LawReported, State.reported_of ha, ha]
  refine (h.applied_insert hs hstore (by rw [ha]) fun ho => ?_).mono (.handling (fun _ h => h) fun _ h => h.elim)
  exact ⟨hsender.resolve_right fun hne => hne (hkind.1.trans ho), rfl, cls, limit, deadline, hf⟩

theorem State.LawUpTo.reported_bid (h : s.LawUpTo .none) (hs : s.liuHeld = false)
    (hstore : storageObjects s.address b s.table f = false) (happ : applies s.address b s.table f = true)
    (hf : f.body = .bid) (hsent : b = true → s.hasSent f) : s.LawReported b f := by
  have ha := applyFrame_of_applies happ
  simp only [applyKind, hf] at ha
  obtain ⟨hsender, hkind⟩ := applies_iff.1 happ
  simp only [kindApplies, hf] at hkind
  cases he : findEntry s.table f.head.id with
  | none => simp [he] at hkind
  | some e =>
    simp only [he, decide_eq_true_eq] at hkind
    obtain ⟨hopen, hattempt⟩ := hkind
    have hunclaimed : ∀ a, claimedBy s.table f.head.id s.address a = true → False := fun a hc => by
      obtain ⟨x, c, hx, -, hclaim, -⟩ := claimedBy_iff.1 hc
      rw [he, Option.some.injEq] at hx
      simp [← hx, hopen] at hclaim
    have hbase := (h.applied_update hs hstore (congrArg Applied.table ha) (fun _ => rfl) (held := fun _ => False) hunclaimed).mono
      (.handling (own' := raisedLater b f) (held' := settledLater b f) (fun _ h => h.elim) fun _ h => h.elim)
    rw [State.LawReported, State.reported_of ha, ha]
    simp only [List.foldl_cons, List.foldl_nil, State.deliver]
    split
    swap
    · exact hbase
    rename_i hwon
    obtain ⟨hb, hme⟩ := hwon
    obtain ⟨q, hq, honLine, hqf, hst⟩ := hsent hb
    obtain ⟨p, hbid⟩ := Queued.eq_bid_of_sentAs hqf hf
    have hplace : q.frame.place = .bid := by rw [hbid]; rfl
    obtain ⟨-, hroom, i, p', a, hframe, hnew⟩ := (State.standsFor_bid hplace).1 hst
    rw [hbid, Queued.bid.injEq] at hframe
    obtain ⟨rfl, -, -⟩ := hframe
    refine hbase.createHeld hs hroom hnew ?_ fun g hg hgp => ?_
    · have hid := (findEntry_some he).2
      refine claimedBy_iff.2
        ⟨{ e with claim := some { claimant := f.head.sender, remaining := e.deadline, expired := false } }, _, ?_, hattempt,
          rfl, hme⟩
      show findEntry (updateEntry _ _ _) _ = _
      rw [findEntry_updateEntry, he, Option.map_some, if_pos hid]
      exact fun _ => rfl
    · have hgq : g = q := List.inj_on_of_nodup_map h.blocks.queue.1 hg hq (by rw [hgp, hplace])
      rw [hgq]
      exact .inr ⟨honLine, by rw [hbid]; rfl⟩

/-- R9: a removal that is reported takes back what it left open. -/
theorem State.LawUpTo.reported_remove (h : s.LawUpTo .none) (hs : s.liuHeld = false)
    (hstore : storageObjects s.address b s.table f = false) {id : Identity} {a : Attempt} {cause : RemovalCause}
    (hcause : cause ≠ .originRestarted)
    (ha : applyFrame s.address b s.table f = { table := removeEntry s.table id, reports := [.removed id a cause] }) :
    s.LawReported b f := by
  rw [State.LawReported, State.reported_of ha, ha]
  exact ((h.applied_remove hs hstore (by rw [ha])).deliver_removed a hcause (findEntry_removeEntry_self _ _)).mono
    (.handling (fun _ h => h.elim) fun _ h => h)

/-- R36: a reopening or abandonment that is reported takes back what it left open. -/
theorem State.LawUpTo.reported_reopen (h : s.LawUpTo .none) (hs : s.liuHeld = false)
    (hstore : storageObjects s.address b s.table f = false) {e : Entry} {cause : ReopenCause} {from_ : Address}
    (ha : applyFrame s.address b s.table f = reopen s.table e cause from_) : s.LawReported b f := by
  unfold reopen at ha
  split at ha
  · exact h.reported_remove hs hstore (by simp) ha
  · rw [State.LawReported, State.reported_of ha, ha]
    have hbase := h.applied_update hs hstore (congrArg Applied.table ha) (fun _ => rfl) (held := fun i => i = e.id) fun _ _ => rfl
    exact (State.LawUpTo.deliver_reopened (s := { s with table := _ }) hbase cause from_ e.nextAttempt).mono (.handling (fun _ h => h.elim) fun _ h => h)

theorem State.LawUpTo.reported_join (h : s.LawUpTo .none) (hs : s.liuHeld = false)
    (hstore : storageObjects s.address b s.table f = false) (happ : applies s.address b s.table f = true) {fresh : Bool}
    (hf : f.body = .join fresh) (hsent : b = true → s.hasSent f) : s.LawReported b f := by
  have ha := applyFrame_of_applies happ
  simp only [applyKind, hf] at ha
  split at ha
  swap
  · exact h.reported_unchanged ha
  rename_i hfresh
  have hmine : ∀ e ∈ s.table, e.id.origin = s.address → e.id.origin ≠ f.head.sender := by
    intro e he ho hsender
    rcases (applies_iff.1 happ).1 with hb | hne
    · obtain ⟨q, hq, -, hqf, hst⟩ := hsent hb
      have hplace : q.frame.place = .join := by rw [Queued.eq_join_of_sentAs hqf hf]; rfl
      obtain ⟨-, howed⟩ := (State.standsFor_join hplace).1 hst
      rw [Queued.eq_join_of_sentAs hqf hf, Queued.join.injEq] at howed
      obtain ⟨r, hr, -, hp⟩ := (h.own.entries e he ho).resolve_left (fun h => h)
      have hclosed := (h.control.fresh (howed ▸ hfresh)).2.2 r hr
      cases hst : r.state <;> simp [OriginRecord.inPool, OriginRecord.isClosed, hst] at hp hclosed
    · exact hne (hsender.symm.trans ho)
  have hbase := h.applied hs hstore (b := b) (f := f) (by rw [ha]) (own := fun _ => False)
    (held := fun i => ∃ e ∈ s.table.filter (fun e => e.id.origin = f.head.sender), e.id = i)
    (fun e he _ => .inr ⟨e, (List.mem_filter.1 he).1, rfl⟩)
    (fun e he ho => .inr ⟨e, List.mem_filter.2 ⟨he, by simpa using hmine e he ho⟩, rfl⟩)
    (fun i a hc => ?_)
  · rw [State.LawReported, State.reported_of ha, ha]
    exact (State.LawUpTo.deliver_restarted hf _ hbase).mono (.handling (fun _ h => h.elim) fun _ h => h.elim)
  · obtain ⟨e, c, he, -⟩ := claimedBy_iff.1 hc
    obtain ⟨hmem, hid⟩ := findEntry_some he
    by_cases ho : e.id.origin = f.head.sender
    · exact .inl ⟨e, List.mem_filter.2 ⟨hmem, by simpa using ho⟩, hid⟩
    · refine .inr ((claimedBy_congr (findEntry_filter fun x hx hxi => ?_) _ _).trans hc)
      simpa [hxi, ← hid] using ho

/-- R12: an expiry that a RESTATE brings notifies the host and leaves nothing open. -/
theorem State.LawUpTo.restatedExpiry {k : Slack} {u : State} (h : u.LawUpTo k) (me : Address) (id : Identity) (a : Attempt)
    (claimed : Bool) (station : Address) (remaining : Units) :
    ((restatedExpiry me id a claimed station remaining).foldl (State.deliver b f) u).LawUpTo k := by
  unfold Machine.restatedExpiry
  split
  · exact h.noticeDeadline _ _
  · exact h

theorem State.LawUpTo.reported_restate (h : s.LawUpTo .none) (hs : s.liuHeld = false)
    (hstore : storageObjects s.address b s.table f = false) (happ : applies s.address b s.table f = true) {cls : ClassNo}
    {limit : Limit} {deadline : Units} {claimed : Bool} {station : Address} {remaining : Units}
    (hf : f.body = .restate cls limit deadline claimed station remaining) (hsent : b = true → s.hasSent f) :
    s.LawReported b f := by
  have ha := applyFrame_of_applies happ
  simp only [applyKind, hf, applyRestate] at ha
  obtain ⟨hsender, hkind⟩ := applies_iff.1 happ
  simp only [kindApplies, hf, Bool.decide_and, Bool.and_eq_true, decide_eq_true_eq] at hkind
  split at ha
  · rename_i hnew
    rw [State.LawReported, State.reported_of ha, ha]
    refine ((h.applied_insert hs hstore (by rw [ha]) (own := fun _ => False) fun ho => ?_).mono
      (.handling (fun _ h => h.elim) fun _ h => h.elim)).restatedExpiry _ _ _ _ _ _
    have hb := hsender.resolve_right fun hne => hne (hkind.1.trans ho)
    obtain ⟨q, hq, -, hqf, hst⟩ := hsent hb
    have hrestate := Queued.eq_restate_of_sentAs hqf hf
    obtain ⟨-, r, hr, hserial, hbacks⟩ :=
      (State.standsFor_identity (id := f.head.id) (by rw [hrestate]; rfl)).1 hst
    have hp : r.inPool = true := by
      rw [OriginRecord.backs, hrestate] at hbacks
      rcases hbacks with hl | hw
      · simp [OriginRecord.inPool, hl]
      · simp [OriginRecord.inPool, hw.1]
    obtain ⟨e, he, hid⟩ := h.entry_of_inPool hr hp
    exact findEntry_none.1 hnew e he (by rw [hid, hserial]; exact State.ownId_of_origin ho)
  · split at ha
    · exact h.reported_unchanged ha
    · rw [State.LawReported, State.reported_of ha, ha]
      have hbase := h.applied_update hs hstore (congrArg Applied.table ha) (fun _ => rfl) (held := fun i => i = f.head.id) fun _ _ => rfl
      have hrevoked := State.LawUpTo.revokeHandling (s := { s with table := _ }) hbase f.head.id .lapsed
      exact (hrevoked.mono (.handling (fun _ h => h.elim) fun i hi => absurd hi.1 hi.2)).restatedExpiry _ _ _ _ _ _

/-- R19: the reports of a taken frame take back what its change of the table left open. -/
theorem State.LawUpTo.reported (h : s.LawUpTo .none) (hs : s.liuHeld = false)
    (hstore : storageObjects s.address b s.table f = false) (hsent : b = true → s.hasSent f) : s.LawReported b f := by
  cases happ : applies s.address b s.table f with
  | false => exact h.reported_unchanged (applyFrame_stale happ)
  | true =>
    have ha := applyFrame_of_applies happ
    have hkind := (applies_iff.1 happ).2
    cases hf : f.body with
    | raise cls limit deadline => exact h.reported_raise hs hstore happ hf
    | bid => exact h.reported_bid hs hstore happ hf hsent
    | finish result =>
      simp only [applyKind, hf] at ha
      exact h.reported_remove hs hstore (by simp) ha
    | release reserved =>
      simp only [applyKind, hf] at ha
      split at ha
      · exact h.reported_reopen hs hstore ha
      · exact h.reported_unchanged ha
    | lapse =>
      simp only [applyKind, hf] at ha
      split at ha
      · exact h.reported_reopen hs hstore ha
      · exact h.reported_unchanged ha
    | withdraw =>
      simp only [applyKind, hf] at ha
      split at ha
      · exact h.reported_remove hs hstore (by simp) ha
      · exact h.reported_unchanged ha
    | join fresh => exact h.reported_join hs hstore happ hf hsent
    | restate cls limit deadline claimed station remaining => exact h.reported_restate hs hstore happ hf hsent

end Kinds

end Sys2Proof.Machine
end

section
/-! SUPPORT. How the law is carried through the rest of the handling of a taken frame, and through the end of an own frame:
the frame leaves its place or stays in it, and its poster takes back what that leaves open. -/

namespace Sys2Proof.Machine

/-! ### What is left open by no frame -/

/-- The frames that stand for something again. -/
theorem State.LawUpTo.reframe {k : Slack} {s : State} (h : s.LawUpTo k) {p : QueuedFrame → Prop}
    (hp : ∀ q ∈ s.queue, k.frame q → p q ∨ s.standsFor q = true) : s.LawUpTo { k with frame := p } :=
  ⟨h.blocks, h.held, h.own, h.notices, h.control, fun q hq => (h.frames q hq).elim (hp q hq) .inr, h.image⟩

/-- Nothing is left open once no own event, RAISE, claim, frame or waiting record is. -/
theorem State.LawUpTo.closed {k : Slack} {s : State} (h : s.LawUpTo k) (hown : ∀ i, ¬ k.own i) (hraise : ∀ i, ¬ k.raise i)
    (hheld : ∀ i, ¬ k.held i) (hframe : ∀ q ∈ s.queue, k.frame q → s.standsFor q = true) (hawaiting : ¬ k.awaiting) :
    s.LawUpTo .none :=
  (h.reframe (p := fun _ => False) fun q hq hk => .inr (hframe q hq hk)).mono
    ⟨fun i hi => hown i hi, fun i hi => hraise i hi, fun i hi => hheld i hi, fun _ hf => hf, fun ha => hawaiting ha⟩

/-- The frames of a place that are not on the Line stand for something again. -/
def Slack.settlePlace (k : Slack) (p : Place) : Slack :=
  { k with frame := fun q => k.frame q ∧ ¬ (q.frame.place = p ∧ q.onLine = false) }

/-- R81: a post that nothing but frames that give way to it stands against. -/
theorem State.LawUpTo.postReplacing {k : Slack} {s : State} (h : s.LawUpTo k) {f : Queued} (ht : s.takesPosts = true)
    (hf : s.standsFor { frame := f, onLine := false } = true)
    (hw : ∀ q ∈ s.queue, q.frame.place = f.place → q.onLine = false → givesWay q.frame f = true) :
    (s.post f).LawUpTo (k.settlePlace f.place) := by
  refine (h.post hf).reframe fun q hq hk => ?_
  by_cases hp : q.frame.place = f.place ∧ q.onLine = false
  swap
  · exact .inl ⟨hk, hp⟩
  have hnew : ∀ l : List QueuedFrame, (∀ g ∈ l, g.frame.place ≠ f.place) →
      q ∈ l ++ [{ frame := f, onLine := false }] → q = { frame := f, onLine := false } := fun l hl hq =>
    (List.mem_append.1 hq).elim (fun hq => absurd hp.1 (hl q hq)) List.mem_singleton.1
  have hstands : q = { frame := f, onLine := false } → (s.post f).standsFor q = true := by
    rintro rfl
    rw [State.standsFor_congr (s := s) _ (by simp) (by simp) (by simp) (by simp) (by simp) (by simp)]
    exact hf
  right
  cases hplaced : framePlaced s.queue f.place with
  | none =>
    rw [State.post_of_empty ht hplaced] at hq
    exact hstands (hnew _ (framePlaced_none.1 hplaced) hq)
  | some g =>
    obtain ⟨hg, hgp⟩ := framePlaced_some hplaced
    cases honLine : g.onLine with
    | true =>
      rw [State.post_of_onLine hplaced honLine] at hq
      rw [eq_of_framePlaced h.blocks.queue.1 hplaced hq hp.1, honLine] at hp
      cases hp.2
    | false =>
      rw [State.post_of_givesWay ht hplaced honLine (hw g hg hgp honLine)] at hq
      exact hstands (hnew _ (fun x hx => by simpa [withoutPlace] using (List.mem_filter.1 hx).2) hq)

/-! ### Folds over the Origin List -/

/-- A fold over records of the Origin List that leaves the list as it is. -/
theorem State.LawUpTo.foldl_records {k : Slack} {op : State → OriginRecord → State}
    (hop : ∀ (s : State) (r : OriginRecord), s.LawUpTo k → r ∈ s.origin → (op s r).LawUpTo k ∧ (op s r).origin = s.origin)
    (l : List OriginRecord) :
    ∀ {s : State}, s.LawUpTo k → (∀ r ∈ l, r ∈ s.origin) → (l.foldl op s).LawUpTo k := by
  induction l with
  | nil => exact fun h _ => h
  | cons r l ih =>
    intro s h hl
    obtain ⟨hr, ho⟩ := hop s r h (hl r List.mem_cons_self)
    exact ih hr fun x hx => by rw [ho]; exact hl x (List.mem_cons_of_mem _ hx)

theorem State.standsFor_withdraw {s : State} {r : OriginRecord} (hr : r ∈ s.origin) (hst : r.state = .withdrawing)
    (p : Priority) : s.standsFor { frame := .withdraw (s.ownId r.serial) p, onLine := false } = true :=
  (State.standsFor_identity (id := s.ownId r.serial) rfl).2 ⟨rfl, r, hr, rfl, hst⟩

theorem State.standsFor_restate {s : State} {r : OriginRecord} (hr : r ∈ s.origin) (hst : r.state = .live) :
    s.standsFor { frame := .restate (s.ownId r.serial), onLine := false } = true :=
  (State.standsFor_identity (id := s.ownId r.serial) rfl).2 ⟨rfl, r, hr, rfl, .inl hst⟩

theorem State.LawUpTo.restateAll {k : Slack} {s : State} (h : s.LawUpTo k) : s.restateAll.LawUpTo k := by
  refine h.foldl_records (fun u r hu hr => ?_) s.origin fun _ hr => hr
  split
  · rename_i hlive
    exact ⟨hu.post (State.standsFor_restate hr hlive.1), by simp⟩
  · exact ⟨hu, rfl⟩

theorem State.LawUpTo.repostWithdraws {k : Slack} {s : State} (h : s.LawUpTo k) : s.repostWithdraws.LawUpTo k := by
  refine h.foldl_records (fun u r hu hr => ?_) s.origin fun _ hr => hr
  split
  · rename_i hst
    exact ⟨hu.post (State.standsFor_withdraw hr hst.1 _), by simp⟩
  · exact ⟨hu, rfl⟩

theorem State.LawUpTo.restatementDuty {k : Slack} {s : State} (h : s.LawUpTo k) (f : Frame) (b : Bool) :
    (s.restatementDuty f b).LawUpTo k := by
  unfold State.restatementDuty
  split
  case h_1 =>
    split
    · exact h.restateAll
    · exact h
  all_goals exact h

/-! ### The purge -/

theorem superseded_of_raisesEvent {t : List Entry} {me : Address} {q : Queued} {id : Identity} (h : q.raisesEvent id = true) :
    superseded t me q = false := by
  cases q <;> simp_all [Queued.raisesEvent, superseded]

theorem Queued.raisesEvent_of_spent {q : Queued} (h : q.spent = true) (id : Identity) : q.raisesEvent id = false := by
  cases q <;> simp_all [Queued.raisesEvent, Queued.spent]

/-- R87: the purge leaves only the frame on the Line open. -/
theorem State.LawUpTo.purge {s : State} {own held : Identity → Prop}
    (h : s.LawUpTo (.handling s.table s.address own held)) : s.purge.LawUpTo (.handled own held) := by
  have hline : ∀ q ∈ s.queue, q.onLine = true → decide (q.onLine = true ∨ ¬ superseded s.table s.address q.frame = true) = true :=
    fun q _ hq => by simp [hq]
  refine h.setQueue _ s.keeps_purge (find?_onLine_filter hline) (fun q hq => ?_) (fun id ⟨q, hq, hr⟩ => ?_)
    (fun _ hi => hi) (fun _ hi => hi) (fun _ hi => hi) fun ha => ha
  · obtain ⟨hq, hkept⟩ := List.mem_filter.1 hq
    rcases h.frames q hq with (hsup | ⟨honLine, hspent⟩) | hst
    · have honLine : q.onLine = true := by simpa [hsup] using hkept
      refine .inl ⟨honLine, fun id => ?_⟩
      rw [← Bool.not_eq_true]
      intro hr
      rw [superseded_of_raisesEvent hr] at hsup
      cases hsup
    · exact .inl ⟨honLine, Queued.raisesEvent_of_spent hspent⟩
    · exact .inr hst
  · exact .inr ⟨q, List.mem_filter.2 ⟨hq, by simp [superseded_of_raisesEvent hr]⟩, hr⟩

theorem State.handleTaken_eq (s : State) (b : Bool) (f : Frame) :
    s.handleTaken b f
      = (((s.reported b f).restatementDuty f (applies s.address b s.table f)).purge).remakeChoices := rfl

theorem foldl_deliver_table (b : Bool) (f : Frame) (l : List Report) (s : State) :
    (l.foldl (State.deliver b f) s).table = s.table :=
  foldl_keeps State.table _ (fun s r => s.deliver_table b f r) l s

theorem foldl_deliver_config (b : Bool) (f : Frame) (l : List Report) (s : State) :
    (l.foldl (State.deliver b f) s).config = s.config :=
  foldl_keeps State.config _ (fun s r => s.deliver_config b f r) l s

@[simp] theorem State.reported_table (s : State) (b : Bool) (f : Frame) :
    (s.reported b f).table = (applyFrame s.address b s.table f).table :=
  foldl_deliver_table b f _ _

@[simp] theorem State.reported_address (s : State) (b : Bool) (f : Frame) : (s.reported b f).address = s.address := by
  simp [State.reported, State.address, foldl_deliver_config]

/-- R19: the law once a taken frame has been handled. -/
theorem State.LawUpTo.handleTaken {s : State} {b : Bool} {f : Frame} (h : s.LawUpTo .none) (hs : s.liuHeld = false)
    (hstore : storageObjects s.address b s.table f = false) (hsent : b = true → s.hasSent f) :
    (s.handleTaken b f).LawUpTo (.handled (raisedLater b f) (settledLater b f)) := by
  have hduty := (h.reported hs hstore hsent).restatementDuty f (applies s.address b s.table f)
  rw [State.handleTaken_eq]
  exact (State.LawUpTo.purge (by simpa using hduty)).remakeChoices

/-! ### The frame on the Line leaves its place -/

/-- R85: one frame at most is on the Line. -/
theorem State.QueueLaw.onLine_unique {s : State} (h : s.QueueLaw) {q g : QueuedFrame} (hq : s.frameOnLine = some q)
    (hg : g ∈ s.queue) (honLine : g.onLine = true) : g = q := by
  obtain ⟨hmem, hline⟩ := State.frameOnLine_some hq
  have hqf : q ∈ s.queue.filter QueuedFrame.onLine := List.mem_filter.2 ⟨hmem, hline⟩
  have hgf : g ∈ s.queue.filter QueuedFrame.onLine := List.mem_filter.2 ⟨hg, honLine⟩
  obtain ⟨x, hx⟩ : ∃ x, s.queue.filter QueuedFrame.onLine = [x] := by
    rw [← List.length_eq_one_iff]
    exact le_antisymm h.2.2 (List.length_pos_of_mem hqf)
  rw [hx, List.mem_singleton] at hqf hgf
  rw [hqf, hgf]

theorem frameOnLine_of_off {l : List QueuedFrame} (h : ∀ q ∈ l, q.onLine = false) : l.find? QueuedFrame.onLine = none :=
  List.find?_eq_none.2 fun q hq => by simp [h q hq]

/-- R89, R90: the law once the frame on the Line has left its place. -/
theorem State.LawUpTo.dropFrame {k : Slack} {s : State} (h : s.LawUpTo k) {q : QueuedFrame} (hq : s.frameOnLine = some q) :
    s.dropFrame.LawUpTo { k with
      raise := fun i => k.raise i ∨ q.frame.raisesEvent i = true, frame := fun g => g.onLine = false ∧ k.frame g } where
  blocks := h.blocks.of_keeps s.keeps_dropFrame.toKeepsBlocks
  held := ⟨h.held.one_le, h.held.le_four, h.held.length_le, h.held.ids, h.held.claims⟩
  own := {
    entries := h.own.entries
    records := h.own.records
    raises := fun r hr hst => by
      rcases h.own.raises r hr hst with hk | ⟨g, hg, hraise⟩
      · exact .inl (.inl hk)
      · cases honLine : g.onLine with
        | true =>
          rw [h.blocks.queue.onLine_unique hq hg honLine] at hraise
          exact .inl (.inr hraise)
        | false => exact .inr ⟨g, State.mem_dropFrame.2 ⟨hg, honLine⟩, hraise⟩
    pending := h.own.pending }
  notices := ⟨h.notices.named, h.notices.finals, h.notices.unread⟩
  control := ⟨h.control.stage, h.control.draining, h.control.window, h.control.fresh, h.control.config, h.control.detached,
    h.control.leaving, h.control.addressed, h.control.reset⟩
  frames g hg := by
    obtain ⟨hg, honLine⟩ := State.mem_dropFrame.1 hg
    exact (h.frames g hg).imp_left fun hk => ⟨honLine, hk⟩
  image := by
    have hoff := frameOnLine_of_off fun g (hg : g ∈ s.dropFrame.queue) => (State.mem_dropFrame.1 hg).2
    simp only [State.imageMatches, State.frameOnLine, hoff]
    rfl

/-- R91, R92: the law once the frame on the Line has gone back into its place. -/
theorem State.LawUpTo.keepFrame {s : State} (h : s.LawUpTo .none) {q : QueuedFrame} (hq : s.frameOnLine = some q) :
    s.keepFrame.LawUpTo { Slack.none with frame := fun g => g = { q with onLine := false } } where
  blocks := h.blocks.of_keeps s.keeps_keepFrame.toKeepsBlocks
  held := ⟨h.held.one_le, h.held.le_four, h.held.length_le, h.held.ids, h.held.claims⟩
  own := {
    entries := h.own.entries
    records := h.own.records
    raises := fun r hr hst => by
      obtain ⟨g, hg, hraise⟩ := (h.own.raises r hr hst).resolve_left fun hf => hf
      exact .inr ⟨{ g with onLine := false }, List.mem_map.2 ⟨g, hg, rfl⟩, hraise⟩
    pending := h.own.pending }
  notices := ⟨h.notices.named, h.notices.finals, h.notices.unread⟩
  control := ⟨h.control.stage, h.control.draining, h.control.window, h.control.fresh, h.control.config, h.control.detached,
    h.control.leaving, h.control.addressed, h.control.reset⟩
  frames g hg := by
    obtain ⟨x, hx, rfl⟩ := List.mem_map.1 hg
    cases honLine : x.onLine with
    | true =>
      rw [h.blocks.queue.onLine_unique hq hx honLine]
      exact .inl rfl
    | false =>
      have hxe : ({ x with onLine := false } : QueuedFrame) = x := by
        rw [← honLine]
      rw [hxe]
      exact .inr ((h.frames x hx).resolve_left fun hf => hf)
  image := by
    have hoff := frameOnLine_of_off (l := s.keepFrame.queue) fun g hg => by
      obtain ⟨x, -, rfl⟩ := List.mem_map.1 hg
      rfl
    simp only [State.imageMatches, State.frameOnLine, hoff]
    rfl

end Sys2Proof.Machine
end

section
/-! SUPPORT. What the poster of an own frame does at its outcome (R89 to R92), and that it takes back what the outcome
left open. -/

namespace Sys2Proof.Machine

/-! ### Origin records -/

/-- An Origin record is changed, and no notice is queued for it. -/
theorem State.LawUpTo.changeOrigin {k : Slack} {s : State} (h : s.LawUpTo k) {r r' : OriginRecord} (hr : r ∈ s.origin)
    (hserial : r'.serial = r.serial) (hclosed : r'.isClosed = r.isClosed)
    (hentry : r'.inPool = true ∨ ∀ e ∈ s.table, e.id ≠ s.ownId r.serial)
    (hrecord : r'.inPool = true → ∃ e ∈ s.table, e.id = s.ownId r.serial)
    (hraise : r'.state = .queued → ∃ q ∈ s.queue, q.frame.raisesEvent (s.ownId r.serial) = true)
    (hpending : r'.withdrawPending = true → r'.state = .queued)
    (hframe : ∀ q ∈ s.queue, q.frame.place = .identity (s.ownId r.serial) → k.frame q ∨ r'.backs q) :
    State.LawUpTo (k.settleOwn (s.ownId r.serial)) { s with origin := replaceOwn s.origin r r' } := by
  have hchanged := h.replaceOrigin hr hserial [] (by simp)
    (by simpa [OriginRecord.notedIn, hclosed] using h.notices.finals r hr) (by simp [hclosed]) hentry hrecord hraise hpending
    hframe
  simpa only [List.append_nil] using hchanged

/-- R125: a QUEUED record has no entry. -/
theorem State.LawUpTo.no_entry_of_queued {k : Slack} {s : State} (h : s.LawUpTo k) {r : OriginRecord} (hr : r ∈ s.origin)
    (hst : r.state = .queued) (hown : ¬ k.own (s.ownId r.serial)) : ∀ e ∈ s.table, e.id ≠ s.ownId r.serial := by
  intro e he hid
  rcases h.own.entries e he (by rw [hid]; rfl) with hk | ⟨x, hx, hxs, hp⟩
  · exact hown (hid ▸ hk)
  · rw [List.inj_on_of_nodup_map h.blocks.origin.2 hx hr (by rw [hxs, hid]; rfl)] at hp
    simp [OriginRecord.inPool, hst] at hp

/-- R131: a QUEUED record closes, when no frame of its place is held to it. -/
theorem State.LawUpTo.closeQueued {k : Slack} {s : State} (h : s.LawUpTo k) {r : OriginRecord} (hr : r ∈ s.origin)
    (hst : r.state = .queued) (hown : ¬ k.own (s.ownId r.serial)) (o : FinalOutcome) {n : Notice}
    (hn : n.finalFor (s.ownId r.serial) = true)
    (hframe : ∀ q ∈ s.queue, q.frame.place = .identity (s.ownId r.serial) → k.frame q) :
    (s.closeOrigin r.serial o n).LawUpTo (k.settleOwn (s.ownId r.serial)) :=
  h.closeOrigin hr (by simp [OriginRecord.isClosed, hst]) o hn (h.no_entry_of_queued hr hst hown) hframe

/-- R132: a record with an entry goes to WITHDRAWING, when none but a RESTATE stands in its place. -/
theorem State.LawUpTo.beginWithdraw {k : Slack} {s : State} (h : s.LawUpTo k) (ht : s.takesPosts = true) {r : OriginRecord}
    (hr : r ∈ s.origin) (hopen : r.isClosed = false) (hentry : ∃ e ∈ s.table, e.id = s.ownId r.serial)
    (hplace : ∀ q ∈ s.queue, q.frame.place = .identity (s.ownId r.serial) → q.frame = .restate (s.ownId r.serial)) :
    (s.beginWithdraw r.serial).LawUpTo (k.settleOwn (s.ownId r.serial)) := by
  have hslack := h.reframe (p := fun q =>
    k.frame q ∨ (q.frame.place = .identity (s.ownId r.serial) ∧ q.onLine = false)) fun q _ hk => .inl (.inl hk)
  have hmarked := hslack.changeOrigin (r' := { r with state := .withdrawing, withdrawPending := false }) hr rfl
    (by rw [hopen]; rfl) (.inl rfl) (fun _ => hentry) (by simp) (by simp) fun q hq hp => by
      cases honLine : q.onLine with
      | true => exact .inr (by simp [OriginRecord.backs, hplace q hq hp, honLine])
      | false => exact .inl (.inr ⟨hp, honLine⟩)
  unfold State.beginWithdraw State.postWithdraw
  rw [State.setOrigin_eq h.blocks.origin.2 hr]
  refine (hmarked.postReplacing (f := .withdraw (s.ownId r.serial) _) ht ?_ fun q hq hp _ => ?_).mono ?_
  · exact State.standsFor_withdraw (r := { r with state := .withdrawing, withdrawPending := false })
      ((mem_replaceOwn hr).2 (.inl rfl)) rfl _
  · rw [hplace q hq hp]
    rfl
  · exact ⟨fun _ hi => hi, fun _ hi => hi, fun _ hi => hi, fun q ⟨hk, hoff⟩ => hk.resolve_right hoff, fun ha => ha⟩

/-! ### Slacks of one record -/

/-- One own event is left open. -/
def Slack.ofOwn (id : Identity) : Slack := { Slack.none with own := fun i => i = id, raise := fun i => i = id }

/-- The RAISE of one own event is gone. -/
def Slack.ofRaise (id : Identity) : Slack := { Slack.none with raise := fun i => i = id }

/-- One held record is left open. -/
def Slack.ofHeld (id : Identity) : Slack := { Slack.none with held := fun i => i = id }

theorem State.LawUpTo.closed_ofOwn {s : State} {id : Identity} (h : s.LawUpTo ((Slack.ofOwn id).settleOwn id)) :
    s.LawUpTo .none :=
  h.mono ⟨fun _ hi => hi.2 hi.1, fun _ hi => hi.2 hi.1, fun _ hi => hi, fun _ hf => hf, fun ha => ha⟩

theorem State.LawUpTo.closed_ofRaise {s : State} {id : Identity} (h : s.LawUpTo ((Slack.ofRaise id).settleOwn id)) :
    s.LawUpTo .none :=
  h.mono ⟨fun _ hi => hi.1, fun _ hi => hi.2 hi.1, fun _ hi => hi, fun _ hf => hf, fun ha => ha⟩

theorem State.LawUpTo.closed_ofHeld {s : State} {id : Identity} (h : s.LawUpTo ((Slack.ofHeld id).settleHeld id)) :
    s.LawUpTo .none :=
  h.mono ⟨fun _ hi => hi, fun _ hi => hi, fun _ hi => hi.2 hi.1, fun _ hf => hf, fun ha => ha⟩

/-! ### The outcome TAKEN -/

/-- R129: the record of a taken RAISE becomes LIVE, or WITHDRAWING. -/
theorem State.LawUpTo.toldTaken_raise {s : State} {r : OriginRecord} (h : s.LawUpTo (.ofOwn (s.ownId r.serial)))
    (ht : s.takesPosts = true) (hr : r ∈ s.origin) (hst : r.state = .queued)
    (hentry : ∃ e ∈ s.table, e.id = s.ownId r.serial)
    (hplace : ∀ q ∈ s.queue, q.frame.place ≠ .identity (s.ownId r.serial)) (a : Level) {cls : ClassNo} {p : Priority}
    {limit : Limit} {deadline : Units} {payload : List Byte} :
    (s.toldTaken a (.raise (s.ownId r.serial) cls p limit deadline payload)).LawUpTo .none := by
  have hopen : r.isClosed = false := by simp [OriginRecord.isClosed, hst]
  simp only [State.toldTaken, State.ownId_serial, State.originRecord_of_mem h.blocks.origin.2 hr]
  split
  · exact (h.beginWithdraw ht hr hopen hentry fun q hq hp => absurd hp (hplace q hq)).closed_ofOwn
  · rename_i hpending
    rw [State.setOrigin_eq h.blocks.origin.2 hr]
    exact (h.changeOrigin (r' := { r with state := .live }) hr rfl (by rw [hopen]; rfl) (.inl rfl) (fun _ => hentry) (by simp)
      (fun hp => absurd hp hpending) fun q hq hp => absurd hp (hplace q hq)).closed_ofOwn

/-- R132: a WITHDRAW that waited for the place of a RESTATE is posted into it. -/
theorem State.LawUpTo.postWaiting {k : Slack} {s : State} (h : s.LawUpTo k) (id : Identity) :
    State.LawUpTo k (match s.originRecord id.serial with
      | none => s
      | some r => if r.state = .withdrawing then s.postWithdraw id.serial else s) := by
  split
  · exact h
  · rename_i r hrec
    obtain ⟨hr, hserial⟩ := State.originRecord_some hrec
    split
    · rename_i hst
      rw [← hserial]
      exact h.post (State.standsFor_withdraw hr hst _)
    · exact h

/-- R110: the record of a taken FINISH or RELEASE is settled, and the bid choice re-made. -/
theorem State.LawUpTo.toldTaken_held {s : State} {id : Identity} (h : s.LawUpTo (.ofHeld id))
    (hplace : ∀ q ∈ s.queue, q.frame.place ≠ .held id) : ((s.settleHeld id).remakeBid).LawUpTo .none :=
  ((h.settleHeld id hplace).closed_ofHeld).remakeBid

/-! ### The outcome REFUSED -/

/-- R90: the record of a refused RAISE closes. -/
theorem State.LawUpTo.toldRefused_raise {s : State} {r : OriginRecord} (h : s.LawUpTo (.ofRaise (s.ownId r.serial)))
    (hr : r ∈ s.origin) (hst : r.state = .queued)
    (hplace : ∀ q ∈ s.queue, q.frame.place ≠ .identity (s.ownId r.serial)) {cls : ClassNo} {p : Priority}
    {limit : Limit} {deadline : Units} {payload : List Byte} :
    (s.toldRefused (.raise (s.ownId r.serial) cls p limit deadline payload)).LawUpTo .none := by
  simp only [State.toldRefused, State.ownId_serial, State.originRecord_of_mem h.blocks.origin.2 hr]
  split
  · have hremoved : s.removeFrame (.identity (s.ownId r.serial)) = s := by
      have hall : s.queue.filter (fun f => ¬ (f.frame.place = .identity (s.ownId r.serial) ∧ ¬ f.onLine)) = s.queue :=
        List.filter_eq_self.2 fun q hq => by simp [hplace q hq]
      simp only [State.removeFrame, hall]
    rw [State.closeWithdrawn, hremoved]
    exact (h.closeQueued hr hst (fun hi => hi) _ (by simp [Notice.finalFor]) fun q hq hp =>
      absurd hp (hplace q hq)).closed_ofRaise
  · exact (h.closeQueued hr hst (fun hi => hi) _ (by simp [Notice.finalFor]) fun q hq hp =>
      absurd hp (hplace q hq)).closed_ofRaise

/-! ### The outcomes CORRUPTED and LOST -/

/-- R131: the record of a RAISE closes whose withdrawal was pending: its RAISE leaves the queue. -/
theorem State.LawUpTo.closeRemoved {k : Slack} {s : State} (h : s.LawUpTo k) {r : OriginRecord} (hr : r ∈ s.origin)
    (hst : r.state = .queued) (hown : ¬ k.own (s.ownId r.serial))
    (hoff : ∀ q ∈ s.queue, q.frame.place = .identity (s.ownId r.serial) → q.onLine = false) (o : FinalOutcome) {n : Notice}
    (hn : n.finalFor (s.ownId r.serial) = true) :
    ((s.removeFrame (.identity (s.ownId r.serial))).closeOrigin r.serial o n).LawUpTo
      { k.settleOwn (s.ownId r.serial) with
        frame := fun q => k.frame q ∧ q.frame.place ≠ .identity (s.ownId r.serial) } := by
  have hkept : ∀ q ∈ s.queue, q.onLine = true →
      decide (¬ (q.frame.place = .identity (s.ownId r.serial) ∧ ¬ q.onLine = true)) = true :=
    fun q _ honLine => by simp [honLine]
  have hremoved : (s.removeFrame (.identity (s.ownId r.serial))).LawUpTo
      { k with raise := fun i => k.raise i ∨ i = s.ownId r.serial
               frame := fun q => k.frame q ∧ q.frame.place ≠ .identity (s.ownId r.serial) } := by
    refine h.setQueue _ (s.keeps_removeFrame _) (find?_onLine_filter hkept) (fun q hq => ?_) (fun id ⟨q, hq, hraise⟩ => ?_)
      (fun _ hi => hi) (fun _ hi => .inl hi) (fun _ hi => hi) fun ha => ha
    · obtain ⟨hq, hkeep⟩ := List.mem_filter.1 hq
      refine (h.frames q hq).imp_left fun hk => ⟨hk, fun hp => ?_⟩
      simp [hp, hoff q hq hp] at hkeep
    · by_cases hid : id = s.ownId r.serial
      · exact .inl (.inr hid)
      · refine .inr ⟨q, List.mem_filter.2 ⟨hq, ?_⟩, hraise⟩
        simp [Queued.place_of_raisesEvent hraise, hid]
  refine (State.LawUpTo.closeQueued (s := s.removeFrame (.identity (s.ownId r.serial))) hremoved hr hst hown o hn
    fun q hq hp => ?_).mono ⟨fun _ hi => hi, fun i hi => ⟨hi.1.resolve_right hi.2, hi.2⟩, fun _ hi => hi, fun _ hf => hf,
      fun ha => ha⟩
  obtain ⟨hq, hon⟩ := State.mem_removeFrame.1 hq
  have hp' : q.frame.place = .identity (s.ownId r.serial) := by simpa [State.ownId] using hp
  have honLine := hon hp'
  rw [hoff q hq hp'] at honLine
  cases honLine

/-- R63, R92: a frame off the Line stands for what it stood for on it, but a RAISE whose withdrawal is pending, a RESTATE
that a WITHDRAW waits for, and a BID or LAPSE in LEAVING. -/
theorem State.standsFor_off {s : State} {q : Queued} (h : s.standsFor { frame := q, onLine := true } = true)
    (hraise : ∀ id r, q.place = .identity id → r ∈ s.origin → r.serial = id.serial →
      r.withdrawPending = false ∧ (r.state = .withdrawing → q.isWithdraw = true))
    (hleaving : s.station = .leaving → q.place ≠ .bid ∧ q.place ≠ .lapse) :
    s.standsFor { frame := q, onLine := false } = true := by
  cases hp : q.place with
  | identity id =>
    obtain ⟨ho, r, hr, hserial, hb⟩ := (State.standsFor_identity (q := ⟨q, true⟩) hp).1 h
    obtain ⟨hpending, hw⟩ := hraise id r hp hr hserial
    refine (State.standsFor_identity (q := ⟨q, false⟩) hp).2 ⟨ho, r, hr, hserial, ?_⟩
    cases q <;> simp_all [OriginRecord.backs, Queued.isWithdraw]
  | held id =>
    obtain ⟨r, hr, hid, hb⟩ := (State.standsFor_held (q := ⟨q, true⟩) hp).1 h
    exact (State.standsFor_held (q := ⟨q, false⟩) hp).2 ⟨r, hr, hid, hb⟩
  | bid =>
    obtain ⟨hstation, hrest⟩ := (State.standsFor_bid (q := ⟨q, true⟩) hp).1 h
    exact (State.standsFor_bid (q := ⟨q, false⟩) hp).2
      ⟨.inl (hstation.resolve_right fun hl => (hleaving hl.1).1 hp), hrest⟩
  | lapse =>
    have hstation := (State.standsFor_lapse (q := ⟨q, true⟩) hp).1 h
    exact (State.standsFor_lapse (q := ⟨q, false⟩) hp).2
      (.inl (hstation.resolve_right fun hl => (hleaving hl.1).2 hp))
  | join =>
    exact (State.standsFor_join (q := ⟨q, false⟩) hp).2 ((State.standsFor_join (q := ⟨q, true⟩) hp).1 h)

end Sys2Proof.Machine
end

section
/-! SUPPORT. The law at the outcomes of an own frame (R70 to R72, R89 to R92). -/

namespace Sys2Proof.Machine

/-! ### A frame that stays in its place -/

theorem State.withdrawPending_of_not_queued {k : Slack} {s : State} (h : s.LawUpTo k) {r : OriginRecord} (hr : r ∈ s.origin)
    (hst : r.state ≠ .queued) : r.withdrawPending = false := by
  rw [← Bool.not_eq_true]
  exact fun hp => hst (h.own.pending r hr hp)

section Kept

variable {s : State} {q : Queued}

/-- The frame that has come off the Line is left open. -/
abbrev Slack.ofFrame (q : Queued) : Slack := { Slack.none with frame := fun g => g = { frame := q, onLine := false } }

/-- R91, R92: nothing is left open when the frame stands in its place for what it stood for on the Line. -/
theorem State.LawUpTo.closed_ofFrame (h : s.LawUpTo (.ofFrame q))
    (hst : s.standsFor { frame := q, onLine := true } = true)
    (hraise : ∀ id r, q.place = .identity id → r ∈ s.origin → r.serial = id.serial →
      r.withdrawPending = false ∧ (r.state = .withdrawing → q.isWithdraw = true))
    (hleaving : s.station = .leaving → q.place ≠ .bid ∧ q.place ≠ .lapse) : s.LawUpTo .none :=
  h.closed (fun _ hf => hf) (fun _ hf => hf) (fun _ hf => hf)
    (fun _ _ hg => hg ▸ State.standsFor_off hst hraise hleaving) fun hf => hf

/-- R94: nothing is left open when the frame leaves its place. -/
theorem State.LawUpTo.closed_removed (h : s.LawUpTo (.ofFrame q)) (hp : ∀ id, q.place ≠ .identity id) :
    (s.removeFrame q.place).LawUpTo .none := by
  refine (h.removeFrame hp).closed (fun _ hf => hf) (fun _ hf => hf) (fun _ hf => hf) (fun g hg hgq => ?_) fun hf => hf
  have honLine := (State.mem_removeFrame.1 hg).2 (by rw [hgq])
  rw [hgq] at honLine
  cases honLine

/-- R131: the RAISE of a record whose withdrawal is pending leaves the queue when it is not taken. -/
theorem State.LawUpTo.toldKept_raise (h : s.LawUpTo (.ofFrame q)) (hoff : ∀ g ∈ s.queue, g.onLine = false)
    (hst : s.standsFor { frame := q, onLine := true } = true) {id : Identity} (hraise : q.raisesEvent id = true) :
    (s.toldKept q).LawUpTo .none := by
  have hp := Queued.place_of_raisesEvent hraise
  obtain ⟨ho, r, hr, hserial, hb⟩ := (State.standsFor_identity (q := ⟨q, true⟩) hp).1 hst
  have honly : ∀ x ∈ s.origin, x.serial = id.serial → x = r := fun x hx hxs =>
    List.inj_on_of_nodup_map h.blocks.origin.2 hx hr (hxs.trans hserial.symm)
  obtain ⟨origin, serial⟩ := id
  subst ho hserial
  cases q <;> simp only [Queued.raisesEvent, Bool.false_eq_true, decide_eq_true_eq] at hraise
  subst hraise
  have hqueued : r.state = .queued := hb.1
  simp only [State.toldKept, State.originRecord_of_mem h.blocks.origin.2 hr]
  split
  · refine (h.closeRemoved hr hqueued (fun hf => hf) (fun g hg _ => hoff g hg) .withdrawn
      (n := .withdrawn (s.ownId r.serial)) (by simp [Notice.finalFor])).closed (fun _ hi => hi.1) (fun _ hi => hi.1)
      (fun _ hf => hf) (fun g _ hg => absurd ?_ hg.2) fun hf => hf
    rw [hg.1]
    rfl
  · rename_i hpending
    refine h.closed_ofFrame hst (fun i x hxp hx hxs => ?_) (by simp [Queued.place])
    cases hxp
    rw [honly x hx hxs]
    exact ⟨by simpa using hpending, fun hw => by rw [hqueued] at hw; cases hw⟩

/-- R132: a RESTATE that is not taken gives way to the WITHDRAW that waits for its place. -/
theorem State.LawUpTo.toldKept_restate {id : Identity} (h : s.LawUpTo (.ofFrame (.restate id))) (ht : s.takesPosts = true)
    (hin : { frame := .restate id, onLine := false } ∈ s.queue)
    (hst : s.standsFor { frame := .restate id, onLine := true } = true) : (s.toldKept (.restate id)).LawUpTo .none := by
  obtain ⟨ho, r, hr, hserial, hb⟩ := (State.standsFor_identity (q := ⟨.restate id, true⟩) rfl).1 hst
  have honly : ∀ x ∈ s.origin, x.serial = id.serial → x = r := fun x hx hxs =>
    List.inj_on_of_nodup_map h.blocks.origin.2 hx hr (hxs.trans hserial.symm)
  obtain ⟨origin, serial⟩ := id
  subst ho hserial
  have hnq : r.state ≠ .queued := by rcases hb with hl | ⟨hw, -⟩ <;> simp [*]
  simp only [State.toldKept, State.originRecord_of_mem h.blocks.origin.2 hr]
  split
  · rename_i hw
    refine (h.postReplacing (f := .withdraw (s.ownId r.serial) _) ht (State.standsFor_withdraw hr hw _)
      fun g hg hgp hgoff => ?_).closed (fun _ hf => hf) (fun _ hf => hf) (fun _ hf => hf)
      (fun g _ hg => absurd ?_ hg.2) fun hf => hf
    · rw [List.inj_on_of_nodup_map h.blocks.queue.1 hg hin hgp]
      rfl
    · rw [hg.1]
      exact ⟨rfl, rfl⟩
  · rename_i hw
    refine h.closed_ofFrame hst (fun i x hxp hx hxs => ?_) (by simp [Queued.place])
    cases hxp
    rw [honly x hx hxs]
    exact ⟨State.withdrawPending_of_not_queued h hr hnq, fun hx => absurd hx hw⟩

/-- R91, R92: the poster of a frame that stays in its place takes back what that leaves open. -/
theorem State.LawUpTo.toldKept (h : s.LawUpTo (.ofFrame q)) (ht : s.takesPosts = true)
    (hoff : ∀ g ∈ s.queue, g.onLine = false) (hin : { frame := q, onLine := false } ∈ s.queue)
    (hst : s.standsFor { frame := q, onLine := true } = true) : (s.toldKept q).LawUpTo .none := by
  cases q with
  | raise id cls p limit deadline payload =>
    exact h.toldKept_raise (id := id) hoff hst (by simp [Queued.raisesEvent])
  | restate id => exact h.toldKept_restate ht hin hst
  | withdraw id p =>
    refine h.closed_ofFrame hst (fun i x hxp hx hxs => ?_) (by simp [Queued.place])
    obtain ⟨-, r, hr, hserial, hb⟩ := (State.standsFor_identity (q := ⟨.withdraw id p, true⟩) rfl).1 hst
    cases hxp
    rw [List.inj_on_of_nodup_map h.blocks.origin.2 hx hr (hxs.trans hserial.symm)]
    have hw : r.state = .withdrawing := hb
    exact ⟨State.withdrawPending_of_not_queued h hr (by simp [hw]), fun _ => rfl⟩
  | bid id p a =>
    simp only [State.toldKept]
    split
    · exact h.closed_removed (q := .bid id p a) (by simp [Queued.place])
    · rename_i hl
      exact (h.closed_ofFrame hst (by simp [Queued.place]) fun hx => absurd hx hl).remakeBid
  | lapse id p a =>
    simp only [State.toldKept]
    split
    · exact h.closed_removed (q := .lapse id p a) (by simp [Queued.place])
    · rename_i hl
      exact (h.closed_ofFrame hst (by simp [Queued.place]) fun hx => absurd hx hl).remakeLapse
  | finish id p a result payload => exact h.closed_ofFrame hst (by simp [Queued.place]) (by simp [Queued.place])
  | release id p a => exact h.closed_ofFrame hst (by simp [Queued.place]) (by simp [Queued.place])
  | join fresh => exact h.closed_ofFrame hst (by simp [Queued.place]) (by simp [Queued.place])

end Kept

/-! ### A frame that leaves its place -/

/-- R90: the poster of a refused frame takes back what the refusal leaves open. -/
theorem State.LawUpTo.toldRefused {s : State} {q : Queued}
    (h : s.LawUpTo { Slack.none with raise := fun i => q.raisesEvent i = true })
    (hst : s.standsFor { frame := q, onLine := true } = true) (hplace : ∀ g ∈ s.queue, g.frame.place ≠ q.place) :
    (s.toldRefused q).LawUpTo .none := by
  have hnone : (∀ i, q.raisesEvent i = false) → s.LawUpTo .none := fun hq =>
    h.mono ⟨fun _ hf => hf, fun i hi => by simp [hq i] at hi, fun _ hf => hf, fun _ hf => hf, fun hf => hf⟩
  cases q with
  | raise id cls p limit deadline payload =>
    obtain ⟨ho, r, hr, hserial, hb⟩ :=
      (State.standsFor_identity (id := id) (q := ⟨.raise id cls p limit deadline payload, true⟩) rfl).1 hst
    obtain ⟨origin, serial⟩ := id
    subst ho hserial
    have h' : s.LawUpTo (.ofRaise (s.ownId r.serial)) :=
      h.mono ⟨fun _ hf => hf, fun i hi => (of_decide_eq_true hi).symm, fun _ hf => hf, fun _ hf => hf,
        fun hf => hf⟩
    exact h'.toldRefused_raise hr hb.1 hplace
  | restate id => exact (hnone fun _ => rfl).postWaiting id
  | withdraw id p => exact hnone fun _ => rfl
  | bid id p a => exact hnone fun _ => rfl
  | lapse id p a => exact hnone fun _ => rfl
  | finish id p a result payload => exact hnone fun _ => rfl
  | release id p a => exact hnone fun _ => rfl
  | join fresh => exact hnone fun _ => rfl

/-- R78: no other frame stands in the place of the frame that has left the Line. -/
theorem State.QueueLaw.place_of_dropFrame {s : State} (h : s.QueueLaw) {q : QueuedFrame} (hq : s.frameOnLine = some q) :
    ∀ g ∈ s.dropFrame.queue, g.frame.place ≠ q.frame.place := by
  intro g hg hp
  obtain ⟨hg, hoff⟩ := State.mem_dropFrame.1 hg
  obtain ⟨hmem, honLine⟩ := State.frameOnLine_some hq
  rw [List.inj_on_of_nodup_map h.1 hg hmem hp, honLine] at hoff
  cases hoff

/-- R89 to R92: the law once an outcome that is not TAKEN has been told. -/
theorem State.LawUpTo.reportOutcome {s : State} (h : s.LawUpTo .none) (ht : s.takesPosts = true) {o : FrameOutcome}
    (ho : o ≠ .taken) (a : Level) {q : QueuedFrame} (hq : s.frameOnLine = some q) :
    (s.reportOutcome o a).LawUpTo .none := by
  obtain ⟨hmem, honLine⟩ := State.frameOnLine_some hq
  have hstq := (h.frames q hmem).resolve_left fun hf => hf
  obtain ⟨frame, onLine⟩ := q
  cases honLine
  have hkept : (s.keepFrame.toldKept frame).LawUpTo .none :=
    State.LawUpTo.toldKept (h.keepFrame hq) ht (fun g hg => by
      obtain ⟨x, -, rfl⟩ := List.mem_map.1 hg
      rfl) (List.mem_map.2 ⟨_, hmem, rfl⟩) hstq
  unfold State.reportOutcome
  rw [hq]
  cases o with
  | taken => exact absurd rfl ho
  | refused =>
    refine State.LawUpTo.toldRefused (s := s.dropFrame) ((h.dropFrame hq).mono ?_) hstq (h.blocks.queue.place_of_dropFrame hq)
    exact ⟨fun _ hf => hf, fun _ hi => hi.resolve_left fun hf => hf, fun _ hf => hf, fun _ hf => hf.2, fun hf => hf⟩
  | corrupted => exact hkept
  | lost => exact hkept

end Sys2Proof.Machine
end

section
/-! SUPPORT. The law at the changes of station state (Section 7) that a frame or a sample may bring, and at the end of an own
frame. -/

namespace Sys2Proof.Machine

/-! ### Changes of the Station Controller -/

/-- R140: the Station Controller is changed, with what stands in the queue for it. -/
theorem State.LawUpTo.setCtl {k : Slack} {s : State} (h : s.LawUpTo k) {c : Controller} {p : QueuedFrame → Prop} {w : Prop}
    (hb : s.KeepsBlocks { s with ctl := c }) (hcontrol : State.Controlled w { s with ctl := c })
    (hframe : ∀ q ∈ s.queue, k.frame q ∨ s.standsFor q = true →
      p q ∨ State.standsFor { s with ctl := c } q = true) :
    State.LawUpTo { k with frame := p, awaiting := w } { s with ctl := c } :=
  ⟨h.blocks.of_keeps hb, ⟨h.held.one_le, h.held.le_four, h.held.length_le, h.held.ids, h.held.claims⟩,
    ⟨h.own.entries, h.own.records, h.own.raises, h.own.pending⟩, ⟨h.notices.named, h.notices.finals, h.notices.unread⟩,
    hcontrol, fun q hq => hframe q hq (h.frames q hq), h.image⟩

/-- Changes of items that no frame stands for leave every frame as it was. -/
theorem State.LawUpTo.setItems {s : State} (h : s.LawUpTo .none) {c : Controller} (hc : c.state = s.ctl.state)
    (hjoin : c.joinStage = s.ctl.joinStage) (hfresh : c.freshOwed = s.ctl.freshOwed) (hdraining : c.draining = s.ctl.draining) :
    State.LawUpTo .none { s with ctl := c } :=
  h.congr (s.keeps_items c hc).toKeepsBlocks rfl rfl ⟨hc, hfresh, hjoin, hdraining⟩ rfl rfl rfl rfl rfl rfl

theorem State.LawUpTo.standing {s : State} (h : s.LawUpTo .none) {q : QueuedFrame} (hq : q ∈ s.queue) :
    s.standsFor q = true :=
  (h.frames q hq).resolve_left fun hf => hf

/-- R141: the Frame Queue is empty where no frame is sent. -/
theorem State.LawUpTo.quiet {k : Slack} {s : State} (h : s.LawUpTo k)
    (hs : s.station = .config ∨ s.station = .detached ∨ s.station = .mute) : s.queue = [] ∧ s.image = none :=
  h.blocks.quiet.2 hs

theorem State.takesPosts_iff {s : State} :
    s.takesPosts = true ↔ ¬ (s.station = .config ∨ s.station = .detached ∨ s.station = .mute) := by
  cases hs : s.station <;> simp [State.takesPosts, hs]

theorem State.LawUpTo.takesPosts_of_image {k : Slack} {s : State} (h : s.LawUpTo k) (himage : s.image.isSome = true) :
    s.takesPosts = true := by
  refine State.takesPosts_iff.2 fun hs => ?_
  simp [(h.quiet hs).2] at himage

theorem State.station_ne_config_of_takesPosts {s : State} (h : s.takesPosts = true) : s.station ≠ .config := fun hs =>
  State.takesPosts_iff.1 h (.inl hs)

theorem State.liuHeld_of_takesPosts {s : State} (h : s.takesPosts = true) : s.liuHeld = false := by
  have hs := State.takesPosts_iff.1 h
  cases hst : s.station <;> simp_all [State.liuHeld]

/-! ### ACTIVE -/

/-- R148: entry to ACTIVE, with no JOIN left in the queue. -/
theorem State.LawUpTo.enterActive {s : State} (h : s.LawUpTo .none) (hs : s.station = .listen) (hf : s.ctl.freshOwed = false)
    (hjoin : ∀ q ∈ s.queue, q.frame.place ≠ .join) : s.enterActive.LawUpTo .none := by
  have hb : s.Keeps { s with ctl := { s.ctl with state := .active, joinStage := none } } :=
    s.keeps_ctl _ (by simp) (.inr (.inl (by simp [hs]))) (by simp)
  have hdraining : s.ctl.draining ≠ true := fun hd => by simp [h.control.draining.1 hd] at hs
  have hactive : State.LawUpTo .none { s with ctl := { s.ctl with state := .active, joinStage := none } } := by
    refine h.setCtl hb.toKeepsBlocks ⟨by simp [State.station], by simpa [State.station] using hdraining, by simp,
      by simp [hf], by simp [State.station], by simp [State.station], by simp [State.station],
      fun _ => h.control.addressed (by simp [hs]), fun hr => ?_⟩ fun q hq hst => .inr ?_
    · simp [h.control.reset hr] at hs
    · have hst := hst.resolve_left fun hf => hf
      cases hp : q.frame.place with
      | identity i => exact (State.standsFor_identity hp).2 ((State.standsFor_identity (s := s) hp).1 hst)
      | held i => exact (State.standsFor_held hp).2 ((State.standsFor_held (s := s) hp).1 hst)
      | bid => exact (State.standsFor_bid hp).2 ⟨.inl rfl, ((State.standsFor_bid (s := s) hp).1 hst).2⟩
      | lapse => exact (State.standsFor_lapse hp).2 (.inl rfl)
      | join => exact absurd hp (hjoin q hq)
  exact ((hactive.raiseCause .joined (by simp [State.station])).remakeBid).remakeLapse

theorem State.LawUpTo.idleReached {s : State} (h : s.LawUpTo .none) : s.idleReached.LawUpTo .none := by
  unfold State.idleReached
  split
  · rename_i hw
    refine h.enterActive hw.1 (h.control.window hw.2) fun q hq hp => ?_
    have hstage := ((State.standsFor_join hp).1 (h.standing hq)).1
    simp [hw.2] at hstage
  · exact h

/-- R143: the JOIN is posted once the Line has been idle long enough. -/
theorem State.LawUpTo.startUpReached {s : State} (h : s.LawUpTo .none) : s.startUpReached.LawUpTo .none := by
  unfold State.startUpReached
  split
  · rename_i hstage
    have hcontrol : State.Controlled False { s with ctl := { s.ctl with joinStage := some .joinSending } } := by
      have hlisten : s.station = .listen := h.control.stage.1 (by simp [hstage])
      exact ⟨by simp [State.station, hlisten], h.control.draining, by simp, h.control.fresh, h.control.config,
        h.control.detached, h.control.leaving, h.control.addressed, h.control.reset⟩
    have hposted : State.LawUpTo .none { s with ctl := { s.ctl with joinStage := some .joinSending } } := by
      refine h.setCtl (s.keeps_items _ (by rfl)).toKeepsBlocks hcontrol fun q hq hst => .inr ?_
      have hst := hst.resolve_left fun hf => hf
      cases hp : q.frame.place with
      | identity i => exact (State.standsFor_identity hp).2 ((State.standsFor_identity (s := s) hp).1 hst)
      | held i => exact (State.standsFor_held hp).2 ((State.standsFor_held (s := s) hp).1 hst)
      | bid => exact (State.standsFor_bid hp).2 ((State.standsFor_bid (s := s) hp).1 hst)
      | lapse => exact (State.standsFor_lapse hp).2 ((State.standsFor_lapse (s := s) hp).1 hst)
      | join =>
        have hsending := ((State.standsFor_join (s := s) hp).1 hst).1
        simp [hstage] at hsending
    exact hposted.post ((State.standsFor_join (q := ⟨.join s.ctl.freshOwed, false⟩) rfl).2 ⟨rfl, rfl⟩)
  · exact h

/-- R146: this station's own JOIN has been taken and has left its place. -/
theorem State.LawUpTo.joinTaken {s : State} (h : s.LawUpTo .none) (hstage : s.ctl.joinStage = some .joinSending)
    (hjoin : ∀ q ∈ s.queue, q.frame.place ≠ .join) (accept : Level) :
    (s.joinTaken s.ctl.freshOwed accept).LawUpTo .none := by
  have hlisten : s.station = .listen := h.control.stage.1 (by simp [hstage])
  have hstands : ∀ c : Controller, c.state = s.ctl.state → ∀ q ∈ s.queue,
      (Slack.none).frame q ∨ s.standsFor q = true → False ∨ State.standsFor { s with ctl := c } q = true := by
    intro c hc q hq hst
    have hst := hst.resolve_left fun hf => hf
    right
    cases hp : q.frame.place with
    | identity i => exact (State.standsFor_identity hp).2 ((State.standsFor_identity (s := s) hp).1 hst)
    | held i => exact (State.standsFor_held hp).2 ((State.standsFor_held (s := s) hp).1 hst)
    | bid => exact (State.standsFor_bid hp).2 (by simpa [State.station, hc] using (State.standsFor_bid (s := s) hp).1 hst)
    | lapse => exact (State.standsFor_lapse hp).2 (by simpa [State.station, hc] using (State.standsFor_lapse (s := s) hp).1 hst)
    | join => exact absurd hp (hjoin q hq)
  have hstale : State.LawUpTo .none { s with ctl := { s.ctl with freshOwed := false } } :=
    h.setCtl (s.keeps_items _ (by rfl)).toKeepsBlocks ⟨h.control.stage, h.control.draining, fun _ => rfl, by simp,
      h.control.config, h.control.detached, h.control.leaving, h.control.addressed, h.control.reset⟩ (hstands _ rfl)
  have hcleared : (if s.ctl.freshOwed then { s with ctl := { s.ctl with freshOwed := false } } else s)
      = { s with ctl := { s.ctl with freshOwed := false } } := by
    cases hf : s.ctl.freshOwed with
    | true => rfl
    | false =>
      rw [← hf]
      exact if_neg (by simp [hf])
  unfold State.joinTaken
  rw [hcleared]
  cases accept with
  | recessive => exact hstale.enterActive hlisten rfl hjoin
  | dominant =>
    refine h.setCtl (c := { s.ctl with freshOwed := false, joinStage := some .window }) (s.keeps_items _ (by rfl)).toKeepsBlocks
      ⟨?_, h.control.draining, fun _ => rfl, by simp, h.control.config, h.control.detached, h.control.leaving,
        h.control.addressed, h.control.reset⟩ (hstands _ rfl)
    simpa [State.station] using hlisten

/-! ### DETACHED and the restart -/

theorem OriginRecord.isClosed_of_settled {r : OriginRecord} (h : r.unsettled = false) : r.isClosed = true := by
  cases hs : r.state <;> simp_all [OriginRecord.unsettled, OriginRecord.isClosed]

theorem OriginRecord.inPool_of_closed {r : OriginRecord} (h : r.isClosed = true) : r.inPool = false := by
  cases hs : r.state <;> simp_all [OriginRecord.inPool, OriginRecord.isClosed]

theorem OriginRecord.not_queued_of_closed {r : OriginRecord} (h : r.isClosed = true) : r.state ≠ .queued := by
  cases hs : r.state <;> simp_all [OriginRecord.isClosed]

/-- R152: entry to DETACHED when the drain is complete. -/
theorem State.LawUpTo.enterDetached {s : State} (h : s.LawUpTo .none) (hs : s.station = .leaving)
    (hdrain : s.drainComplete = true) : s.enterDetached.LawUpTo .none := by
  obtain ⟨horigin, hheld, hqueue, himage⟩ := State.drainComplete_iff.1 hdrain
  have hclosed : ∀ r ∈ s.origin, r.isClosed = true := fun r hr => OriginRecord.isClosed_of_settled (horigin r hr)
  have hstation : s.station ≠ .mute := by simp [hs]
  have hblocks : State.BlockLaws
      { s with ctl := { s.ctl with state := .detached, draining := false }, table := [], liu := s.liu.hold } :=
    ⟨by simp [State.TableLaw], h.blocks.queue, ⟨h.blocks.quiet.1, fun _ => ⟨hqueue, himage⟩⟩, h.blocks.origin,
      h.blocks.notices⟩
  have hfinal : State.LawUpTo .none
      { s with ctl := { s.ctl with state := .detached, draining := false }, table := [], liu := s.liu.hold } := by
    refine ⟨hblocks, ⟨h.held.one_le, h.held.le_four, h.held.length_le, h.held.ids,
      fun r hr ho => absurd (hheld r hr) ho⟩,
      ⟨by simp, fun r hr hp => ?_, h.own.raises, h.own.pending⟩,
      ⟨h.notices.named, h.notices.finals, h.notices.unread⟩,
      ⟨?_, by simp [State.station], h.control.window, fun _ => ⟨by simp [State.station], by simp [State.station], hclosed⟩,
        by simp [State.station], fun _ => ⟨rfl, hheld, hclosed⟩, by simp [State.station],
        fun _ => h.control.addressed (by simp [hs]), fun hr => ?_⟩, by simp [hqueue], h.image⟩
    · rw [OriginRecord.inPool_of_closed (hclosed r hr)] at hp
      cases hp
    · have hstage := h.control.stage
      simp only [hs, reduceCtorEq, iff_false] at hstage
      simpa [State.station] using hstage
    · simp [h.control.reset hr] at hs
  exact hfinal.raiseCause .detached (by simp [State.station])

theorem State.LawUpTo.testDrain {s : State} (h : s.LawUpTo .none) : s.testDrain.LawUpTo .none := by
  rcases s.testDrain_cases with e | ⟨hs, -, hd, e⟩
  · rw [e]; exact h
  · rw [e]; exact h.enterDetached hs hd

/-- R158: the restart leaves nothing open. -/
theorem State.LawUpTo.restartNow {k : Slack} {s : State} (h : s.LawUpTo k) (hs : s.station ≠ .config) :
    s.restartNow.LawUpTo .none := by
  refine ⟨h.blocks.of_keeps s.keeps_restartNow.toKeepsBlocks,
    ⟨h.held.one_le, h.held.le_four, Nat.zero_le _, List.nodup_nil, by simp [State.restartNow]⟩, ⟨?_, ?_, ?_, ?_⟩,
    ⟨?_, ?_, ?_⟩, ⟨?_, ?_, ?_, ?_, ?_, ?_, ?_, fun _ => h.control.addressed hs, fun hr => absurd (h.control.reset hr) hs⟩, ?_,
    rfl⟩ <;>
    simp [State.restartNow, State.station, Notice.isStation]

/-! ### MUTE -/

/-- R93: the queue is cleared, and the RAISE of every QUEUED record with it. -/
theorem State.LawUpTo.clearQueue {s : State} (h : s.LawUpTo .none) :
    s.clearQueue.LawUpTo { Slack.none with
      raise := fun i => ∃ r ∈ s.origin, r.state = .queued ∧ s.ownId r.serial = i } where
  blocks := h.blocks.of_keeps s.keeps_clearQueue.toKeepsBlocks
  held := ⟨h.held.one_le, h.held.le_four, h.held.length_le, h.held.ids, h.held.claims⟩
  own := ⟨h.own.entries, h.own.records, fun r hr hst => .inl ⟨r, hr, hst, rfl⟩, h.own.pending⟩
  notices := ⟨h.notices.named, h.notices.finals, h.notices.unread⟩
  control := ⟨h.control.stage, h.control.draining, h.control.window, h.control.fresh, h.control.config, h.control.detached,
    h.control.leaving, h.control.addressed, h.control.reset⟩
  frames q hq := absurd hq (by simp [State.clearQueue])
  image := rfl

/-- R138: the QUEUED records close one by one. -/
theorem State.LawUpTo.foldl_refuse (l : List OriginRecord) : ∀ {s : State}, s.queue = [] →
    s.LawUpTo { Slack.none with raise := fun i => ∃ r ∈ l, r.state = .queued ∧ s.ownId r.serial = i } →
    (∀ r ∈ l, r ∈ s.origin) → (l.map OriginRecord.serial).Nodup →
    (l.foldl (fun s r => if r.state = .queued then
      s.closeOrigin r.serial .refused (.refused (s.ownId r.serial) .muted) else s) s).LawUpTo .none := by
  induction l with
  | nil =>
    intro s _ h _ _
    exact h.mono ⟨fun _ hf => hf, fun i ⟨r, hr, _⟩ => by simp at hr, fun _ hf => hf, fun _ hf => hf, fun hf => hf⟩
  | cons r l ih =>
    intro s hqueue h hl hn
    obtain ⟨hfresh, hn⟩ := List.nodup_cons.1 hn
    have hr := hl r List.mem_cons_self
    rw [List.foldl_cons]
    split
    · rename_i hst
      have hclosed := h.closeQueued hr hst (fun hf => hf) .refused (n := .refused (s.ownId r.serial) .muted)
        (by simp [Notice.finalFor]) (by simp [hqueue])
      refine ih (by simpa using hqueue) (hclosed.mono ⟨fun _ hf => hf.1, ?_, fun _ hf => hf, fun _ hf => hf, fun hf => hf⟩)
        (fun x hx => ?_) hn
      · rintro i ⟨⟨x, hx, hxs, rfl⟩, hne⟩
        rcases List.mem_cons.1 hx with rfl | hx
        · exact absurd rfl hne
        · exact ⟨x, hx, hxs, by simp [State.ownId]⟩
      · refine List.mem_map.2 ⟨x, hl x (List.mem_cons_of_mem _ hx), if_neg fun hxs => hfresh ?_⟩
        rw [← hxs]
        exact List.mem_map_of_mem hx
    · rename_i hst
      refine ih hqueue (h.mono ⟨fun _ hf => hf, ?_, fun _ hf => hf, fun _ hf => hf, fun hf => hf⟩)
        (fun x hx => hl x (List.mem_cons_of_mem _ hx)) hn
      rintro i ⟨x, hx, hxs, hi⟩
      rcases List.mem_cons.1 hx with rfl | hx
      · exact absurd hxs hst
      · exact ⟨x, hx, hxs, hi⟩

/-- R154, R155: entry to MUTE, with the causes that it raises. -/
theorem State.LawUpTo.mute {s : State} (h : s.LawUpTo .none) (ht : s.takesPosts = true) (m : MuteCause)
    (cs : List StationCause) : (cs.foldl State.raiseCause (s.toMute m)).mutePurge.LawUpTo .none := by
  have hswap : ∀ (l : List StationCause) (u : State), (l.foldl State.raiseCause u).clearQueue
      = l.foldl State.raiseCause u.clearQueue := by
    intro l
    induction l with
    | nil => exact fun _ => rfl
    | cons c l ih => exact fun u => by rw [List.foldl_cons, ih, State.clearQueue_raiseCause]; rfl
  have hraised : ∀ (k : Slack) (l : List StationCause) (u : State), u.LawUpTo k → u.station = .mute →
      (l.foldl State.raiseCause u).LawUpTo k ∧ (l.foldl State.raiseCause u).origin = u.origin
        ∧ (l.foldl State.raiseCause u).config = u.config ∧ (l.foldl State.raiseCause u).queue = u.queue := by
    intro k l
    induction l with
    | nil => exact fun u hu _ => ⟨hu, rfl, rfl, rfl⟩
    | cons c l ih =>
      intro u hu hs
      have := ih (u.raiseCause c) (hu.raiseCause c (by simp [hs])) (by simpa [State.station] using hs)
      simpa using this
  have hoff := State.takesPosts_iff.1 ht
  simp only [not_or] at hoff
  have hcleared := h.clearQueue
  have hmute := hcleared.setCtl (c := (s.toMute m).ctl) (p := fun _ => False) (w := False)
    (State.keeps_ctl _ _ (fun _ => ⟨rfl, rfl⟩) (.inl rfl) (by simp [State.toMute])).toKeepsBlocks
    ⟨by simp [State.toMute, State.station], by simp [State.toMute, State.station], by simp [State.toMute],
      fun hf => ⟨by simp [State.toMute, State.station], by simp [State.toMute, State.station], (h.control.fresh hf).2.2⟩,
      by simp [State.toMute, State.station], by simp [State.toMute, State.station], by simp [State.toMute, State.station],
      fun _ => h.control.addressed hoff.1, fun hr => absurd (h.control.reset hr) hoff.1⟩
    (fun q hq => absurd hq (by simp [State.clearQueue]))
  obtain ⟨hlaw, ho, hc, hq⟩ := hraised _ cs _ hmute rfl
  unfold State.mutePurge State.refuseQueued
  have heq := hswap cs (s.toMute m)
  simp only [State.clearQueue] at heq
  rw [heq]
  refine State.LawUpTo.foldl_refuse _ hq (hlaw.mono ⟨fun _ hf => hf, ?_, fun _ hf => hf, fun _ hf => hf, fun hf => hf⟩)
    (fun _ hr => hr) ?_
  · rintro i ⟨r, hr, hst, hi⟩
    refine ⟨r, (congrArg (r ∈ ·) ho).mpr hr, hst, ?_⟩
    rw [← hi]
    exact congrArg (fun c : Configuration => ({ origin := c.address.getD 0, serial := r.serial } : Identity)) hc
  · exact (congrArg (fun l : List OriginRecord => (l.map OriginRecord.serial).Nodup) ho).mpr h.blocks.origin.2

theorem State.LawUpTo.muteFailures {s : State} (h : s.LawUpTo .none) : s.muteFailures.LawUpTo .none := by
  rcases s.muteFailures_cases with e | ⟨ht, -, e⟩
  · rw [e]; exact h
  · rw [e]
    exact h.mute ht .failures [.muted]

/-- R155: an address clash, at a station that applies frames. -/
theorem State.LawUpTo.addressClash {s : State} (h : s.LawUpTo .none) (hs : s.liuHeld = false) : s.addressClash.LawUpTo .none := by
  unfold State.addressClash
  split
  · rename_i hm
    have hitems := h.setItems (c := { s.ctl with muteCause := .addressClash }) rfl rfl rfl rfl
    exact hitems.raiseCause .addressClash (by simp [State.station, hm])
  · rename_i hm
    refine h.mute (State.takesPosts_iff.2 ?_) .addressClash [.muted, .addressClash]
    simp only [State.liuHeld, decide_eq_false_iff_not, not_or] at hs
    tauto

end Sys2Proof.Machine
end

section
/-! SUPPORT. The law at the start and the end of a frame on the Line, and at the samples of the Line (Section 3). -/

namespace Sys2Proof.Machine

/-! ### The frame on the Line -/

/-- R85: the transmit image is of the frame on the Line. -/
theorem State.LawUpTo.sending {k : Slack} {s : State} (h : s.LawUpTo k) {img : TransmitImage} (himage : s.image = some img) :
    ∃ q, s.frameOnLine = some q ∧ q.frame.sentAs s.address img.frame = true := by
  have hmatch := h.image
  simp only [State.imageMatches, himage] at hmatch
  cases hq : s.frameOnLine with
  | none => simp [hq] at hmatch
  | some q => exact ⟨q, rfl, by simpa [hq] using hmatch⟩

theorem State.LawUpTo.off_of_no_image {k : Slack} {s : State} (h : s.LawUpTo k) (himage : s.image = none) :
    ∀ q ∈ s.queue, q.onLine = false := by
  have hnone : s.frameOnLine = none := by
    rw [← Option.not_isSome_iff_eq_none, ← h.blocks.queue.2.1, himage]
    simp
  exact fun q hq => by simpa using List.find?_eq_none.1 hnone q hq

/-- R55: a queued frame is composed into one that is kept for it. -/
theorem State.sentAs_of_compose {s : State} {q : Queued} {f : Frame} (h : s.compose q = some f) :
    q.sentAs s.address f = true := by
  cases q with
  | restate id =>
    simp only [State.compose] at h
    split at h
    · cases h
    · obtain rfl := Option.some.inj h
      rename_i e _
      cases e.claim <;> simp [Queued.sentAs, Queued.keptIn]
  | _ => obtain rfl := Option.some.inj h; simp [Queued.sentAs, Queued.keptIn]

/-- R92: on the Line a frame stands for what it stands for in its place. -/
theorem State.standsFor_on {s : State} {q : QueuedFrame} (h : s.standsFor q = true) :
    s.standsFor { q with onLine := true } = true := by
  cases hp : q.frame.place with
  | identity id =>
    obtain ⟨ho, r, hr, hserial, hb⟩ := (State.standsFor_identity hp).1 h
    refine (State.standsFor_identity (q := { q with onLine := true }) hp).2 ⟨ho, r, hr, hserial, ?_⟩
    obtain ⟨frame, onLine⟩ := q
    cases frame <;> simp only [OriginRecord.backs, imp_true_iff, and_true] at hb ⊢
    case raise => exact hb.1
    case restate => exact hb.imp_right And.left
    case withdraw => exact hb
  | held id => exact (State.standsFor_held (q := { q with onLine := true }) hp).2 ((State.standsFor_held hp).1 h)
  | bid =>
    obtain ⟨hstation, hrest⟩ := (State.standsFor_bid hp).1 h
    exact (State.standsFor_bid (q := { q with onLine := true }) hp).2 ⟨hstation.imp_right fun hl => ⟨hl.1, rfl⟩, hrest⟩
  | lapse =>
    exact (State.standsFor_lapse (q := { q with onLine := true }) hp).2
      (((State.standsFor_lapse hp).1 h).imp_right fun hl => ⟨hl.1, rfl⟩)
  | join => exact (State.standsFor_join (q := { q with onLine := true }) hp).2 ((State.standsFor_join hp).1 h)

/-- R62, R85: the selected frame is on the Line, composed into the transmit image. -/
theorem State.LawUpTo.startFrame {s : State} (h : s.LawUpTo .none) (hr : s.readyToStart = true) :
    s.startFrame.LawUpTo .none := by
  have hb := (State.keeps_startFrame hr).toKeepsBlocks
  obtain ⟨ht, -, hline, himage, q, f, hsel⟩ := State.readyToStart_iff.1 hr
  obtain ⟨hq, hcompose⟩ := State.selected_some hsel
  have hoff := h.off_of_no_image himage
  have hmarked := filter_onLine_markOnLine h.blocks.queue.1 hoff hq
  have hfound : (markOnLine s.queue q.frame.place).find? QueuedFrame.onLine = some { q with onLine := true } := by
    rw [← List.head?_filter, hmarked]
    rfl
  have hmem : ∀ g ∈ markOnLine s.queue q.frame.place, ∃ x ∈ s.queue, g.frame = x.frame ∧ (g = x ∨ g = { x with onLine := true }) := by
    intro g hg
    obtain ⟨x, hx, rfl⟩ := List.mem_map.1 hg
    exact ⟨x, hx, by split <;> rfl, by split <;> simp⟩
  simp only [State.startFrame, hsel] at hb ⊢
  refine ⟨h.blocks.of_keeps hb, ⟨h.held.one_le, h.held.le_four, h.held.length_le, h.held.ids, h.held.claims⟩,
    ⟨h.own.entries, h.own.records, fun r hr hst => ?_, h.own.pending⟩,
    ⟨h.notices.named, h.notices.finals, h.notices.unread⟩,
    ⟨h.control.stage, h.control.draining, h.control.window, h.control.fresh, h.control.config, h.control.detached,
      h.control.leaving, h.control.addressed, h.control.reset⟩, fun g hg => .inr ?_, ?_⟩
  · refine (h.own.raises r hr hst).imp_right fun ⟨x, hx, hraise⟩ => ?_
    refine ⟨_, List.mem_map_of_mem (f := fun g : QueuedFrame =>
      if g.frame.place = q.frame.place then { g with onLine := true } else g) hx, ?_⟩
    split <;> exact hraise
  · obtain ⟨x, hx, -, rfl | rfl⟩ := hmem g hg
    · exact h.standing hx
    · exact State.standsFor_on (s := s) (h.standing hx)
  · have hsent := State.sentAs_of_compose hcompose
    have hfound' : State.frameOnLine (s.startFrame) = some { q with onLine := true } := by
      simp only [State.startFrame, hsel]
      exact hfound
    simp only [State.startFrame, hsel] at hfound'
    simp only [State.imageMatches, hfound']
    exact hsent

/-! ### The end of an own frame that is not taken -/

theorem State.LawUpTo.tellAlone {s : State} (h : s.LawUpTo .none) (hs : s.station ≠ .config) (before : Bool) :
    (s.tellAlone before).LawUpTo .none := by
  unfold State.tellAlone
  split
  · exact h
  · split
    · exact h.raiseCause _ hs
    · exact h.raiseCause _ hs

theorem State.LawUpTo.ownEnds {s : State} (h : s.LawUpTo .none) (himage : s.image.isSome = true) {o : FrameOutcome}
    (ho : o ≠ .taken) (accept : Level) : (s.ownEnds o accept).LawUpTo .none := by
  have ht := h.takesPosts_of_image himage
  have hs := State.station_ne_config_of_takesPosts ht
  have hliu := h.setLiu (s.keepsBlocks_outcome o)
  unfold State.ownEnds
  dsimp only
  split
  · exact hliu.restartNow hs
  · obtain ⟨img, himg⟩ := Option.isSome_iff_exists.1 himage
    obtain ⟨q, hq, -⟩ := hliu.sending himg
    have htold := hliu.reportOutcome ht ho accept hq
    have hkept := (State.keeps_reportOutcome (s := { s with liu := s.liu.outcome o }) (fun h => absurd h ho)
      accept).toKeepsBlocks.locked hs
    exact ((htold.tellAlone hkept.1 _).muteFailures).testDrain

theorem State.LawUpTo.loseArbitration {s : State} (h : s.LawUpTo .none) (himage : s.image.isSome = true) :
    s.loseArbitration.LawUpTo .none := by
  have hliu : s.Keeps { s with liu := { s.liu.sample false with phase := .receiving, txSent := 0 } } :=
    State.keeps_liu_of_failures (by simp) fun h => Liu.countsIn_sample h false
  exact (h.setLiu hliu.toKeepsBlocks).ownEnds himage (by simp) _

theorem State.LawUpTo.ownObjected {s : State} (h : s.LawUpTo .none) (himage : s.image.isSome = true) (f : Frame)
    (accept : Level) (own : Bool) : (s.ownObjected f accept own).LawUpTo .none :=
  (h.setLiu (s.keeps_endFrame s.liu rfl (fun h => h) _ _ _ _).toKeepsBlocks).ownEnds himage (objectedOutcome_ne_taken _ _) _

theorem State.LawUpTo.objectionRun {s : State} (h : s.LawUpTo .none) : s.objectionRun.LawUpTo .none :=
  h.setLiu s.keeps_objectionRun.toKeepsBlocks

theorem State.LawUpTo.ownRun {s : State} (h : s.LawUpTo .none) (himage : s.image.isSome = true) :
    s.ownRun.LawUpTo .none :=
  h.objectionRun.ownEnds himage (by simp) _

/-! ### Samples -/

theorem State.LawUpTo.stuckFrame {s : State} (h : s.LawUpTo .none) : s.stuckFrame.LawUpTo .none := by
  unfold State.stuckFrame
  split
  · rename_i himage
    have hliu := h.setLiu (s.keepsBlocks_outcome .corrupted)
    dsimp only
    split
    · exact hliu
    · obtain ⟨img, himg⟩ := Option.isSome_iff_exists.1 himage
      obtain ⟨q, hq, -⟩ := hliu.sending himg
      exact hliu.reportOutcome (h.takesPosts_of_image himage) (by simp) _ hq
  · exact h

theorem State.LawUpTo.stuckLine {s : State} (h : s.LawUpTo .none) : s.stuckLine.LawUpTo .none := by
  unfold State.stuckLine
  split
  · exact h
  rename_i hon
  have hs : s.station ≠ .config := by
    intro hc
    simp [State.liuHeld, hc] at hon
  have hliu : s.Keeps { s with liu := s.liu.stick } := State.keeps_liu_of_failures rfl Liu.countsIn_stick
  have hstation : ({ s with liu := s.liu.stick }.stuckFrame).station ≠ .config := by simpa [State.station] using hs
  have hfault := ((h.setLiu hliu.toKeepsBlocks).stuckFrame).raiseCause .lineFault hstation
  dsimp only
  split
  · exact hfault.restartNow (by simpa [State.station] using hs)
  · exact hfault.muteFailures.testDrain

theorem State.LawUpTo.sampleLine {s : State} (h : s.LawUpTo .none) (b : Bool) : (s.sampleLine b).LawUpTo .none := by
  have hliu := h.setLiu (s.keeps_sample b).toKeepsBlocks
  rcases s.sampleLine_cases b with e | ⟨-, -, e⟩
  · rw [e]; exact hliu
  · rw [e]; exact hliu.stuckLine

theorem State.LawUpTo.dominantSample {s : State} (h : s.LawUpTo .none) : s.dominantSample.LawUpTo .none := by
  rcases s.dominantSample_cases with ⟨-, hr, e⟩ | ⟨-, -, e⟩ | ⟨-, e⟩
  · rw [e]; exact h.startFrame hr
  · rw [e]
    have hliu : s.Keeps { s with liu := { s.liu.atEdge.sample false with phase := .receiving } } :=
      State.keeps_liu_of_failures (by simp) fun h => Liu.countsIn_sample (Liu.countsIn_atEdge h) false
    exact h.setLiu hliu.toKeepsBlocks
  · rw [e]; exact h.sampleLine false

theorem State.LawUpTo.spacingComplete {s : State} (h : s.LawUpTo .none) : s.spacingComplete.LawUpTo .none := by
  have hb := s.keeps_spacingComplete.toKeepsBlocks
  unfold State.spacingComplete at hb ⊢
  split at hb
  · rename_i hc
    rw [if_pos hc]
    exact h.setLiu hb
  · rename_i hc
    rw [if_neg hc]
    exact h

theorem State.LawUpTo.recoveryComplete {s : State} (h : s.LawUpTo .none) : s.recoveryComplete.LawUpTo .none := by
  unfold State.recoveryComplete
  split
  · have hliu : s.Keeps { s with liu := s.liu.recover } := State.keeps_liu_of_failures rfl Liu.countsIn_recover
    exact (h.setLiu hliu.toKeepsBlocks).startUpReached
  · exact h

theorem State.LawUpTo.quietSample {s : State} (h : s.LawUpTo .none) : s.quietSample.LawUpTo .none := by
  have hspaced : ∀ u : State, u.LawUpTo .none → State.LawUpTo .none
      (if u.liu.phase = .spacing ∧ Config.spacingSamples ≤ u.liu.recessive then u.spacingComplete else u) := by
    intro u hu
    split
    · exact hu.spacingComplete
    · exact hu
  have hstarted : ∀ u : State, u.LawUpTo .none → State.LawUpTo .none
      (if u.liu.phase = .recovering ∧ Config.recoverySamples ≤ u.liu.recessive then u.recoveryComplete
        else if s.liu.startUpIdle < Config.startUpSamples ∧ u.liu.startUpIdle = Config.startUpSamples then
          u.startUpReached
        else u) := by
    intro u hu
    split
    · exact hu.recoveryComplete
    · split
      · exact hu.startUpReached
      · exact hu
  have hidle : ∀ u : State, u.LawUpTo .none → State.LawUpTo .none
      (if s.liu.idle < Config.idleSamples ∧ u.liu.idle = Config.idleSamples then u.idleReached else u) := by
    intro u hu
    split
    · exact hu.idleReached
    · exact hu
  exact hidle _ (hstarted _ (hspaced _ (h.setLiu (s.keeps_sample true).toKeepsBlocks)))

theorem State.LawUpTo.hear {s : State} (h : s.LawUpTo .none) (b : Bool) : (s.hear b).LawUpTo .none := by
  rcases s.hear_cases b with ⟨-, e⟩ | ⟨-, -, ⟨-, e⟩ | ⟨-, e⟩⟩
  · rw [e]; exact h
  · rw [e]; exact h.quietSample
  · rw [e]; exact h.dominantSample

theorem State.LawUpTo.watch {s : State} (h : s.LawUpTo .none) (bits : List Bool) : (s.watch bits).LawUpTo .none :=
  State.watch_keeps (P := State.LawUpTo .none) (fun _ b hu => State.LawUpTo.hear hu b) bits s h

theorem State.LawUpTo.edge {s : State} (h : s.LawUpTo .none) : s.edge.LawUpTo .none := by
  unfold State.edge
  split
  · exact h
  · have hliu : s.Keeps { s with liu := s.liu.atEdge } := State.keeps_liu_of_failures rfl Liu.countsIn_atEdge
    exact (h.setLiu hliu.toKeepsBlocks).dominantSample

end Sys2Proof.Machine
end

section
/-! SUPPORT. The law at the end of a frame at this station: taken, taken nowhere, or met (Sections 2 and 3). -/

namespace Sys2Proof.Machine

/-! ### This station's own frame is taken -/

theorem Queued.raisesEvent_of_raisedLater {me : Address} {q : Queued} {f : Frame} (h : q.sentAs me f = true) {i : Identity}
    (hi : raisedLater true f i) : q.raisesEvent i = true := by
  obtain ⟨-, rfl, cls, limit, deadline, hbody⟩ := hi
  cases q <;> simp_all [Queued.sentAs, Queued.keptIn, Queued.raisesEvent]

theorem Queued.place_of_settledLater {me : Address} {q : Queued} {f : Frame} (h : q.sentAs me f = true) {i : Identity}
    (hi : settledLater true f i) : q.place = .held i := by
  unfold settledLater settlesOwn at hi
  cases hb : f.body <;> simp only [hb, Bool.false_eq_true, decide_eq_true_eq, true_and] at hi <;>
    cases q <;> simp_all [Queued.sentAs, Queued.keptIn, Queued.place]

theorem Queued.raise_of_sentAs {me : Address} {q : Queued} {f : Frame} (h : q.sentAs me f = true) {id : Identity}
    (hr : q.raisesEvent id = true) :
    f.head.id = id ∧ f.head.attempt = 0 ∧ ∃ cls limit deadline, f.body = .raise cls limit deadline := by
  cases hb : f.body <;> cases q <;> simp_all [Queued.sentAs, Queued.keptIn, Queued.raisesEvent]

theorem Queued.join_of_sentAs {me : Address} {q : Queued} {f : Frame} (h : q.sentAs me f = true) {fresh : Bool}
    (hq : q = .join fresh) : f.body = .join fresh := by
  subst hq
  cases hb : f.body <;> simp_all [Queued.sentAs, Queued.keptIn]

theorem State.handleTaken_table (s : State) (b : Bool) (f : Frame) :
    (s.handleTaken b f).table = (applyFrame s.address b s.table f).table := by
  simp [State.handleTaken_eq]

/-- R29: an own RAISE that is taken has its entry. -/
theorem State.entry_of_own_raise {s : State} {f : Frame} (hsender : f.head.sender = f.head.id.origin)
    (hattempt : f.head.attempt = 0) {cls : ClassNo} {limit : Limit} {deadline : Units}
    (hbody : f.body = .raise cls limit deadline) : ∃ e ∈ (s.handleTaken true f).table, e.id = f.head.id := by
  have happ : applies s.address true s.table f = true := applies_iff.2 ⟨.inl rfl, by simp [kindApplies, hbody, hsender, hattempt]⟩
  rw [State.handleTaken_table, applyFrame_of_applies happ]
  simp [applyKind, hbody]

section Taken

variable {u : State} {f : Frame} {q : QueuedFrame}

/-- What is left open once the own frame has left its place. -/
def Slack.dropped (f : Frame) (q : Queued) : Slack :=
  { Slack.none with
    own := raisedLater true f, raise := fun i => q.raisesEvent i = true, held := settledLater true f }

theorem State.LawUpTo.dropTaken (h : u.LawUpTo (.handled (raisedLater true f) (settledLater true f)))
    (hq : u.frameOnLine = some q) : u.dropFrame.LawUpTo (.dropped f q.frame) := by
  refine (h.dropFrame hq).mono ⟨fun _ hi => hi, fun i hi => hi.resolve_left fun hf => hf, fun _ hi => hi, fun g hg => ?_,
    fun hf => hf⟩
  have hoff := hg.1
  rw [hg.2.1] at hoff
  cases hoff

/-- Nothing is left open by a frame that is no RAISE and stands in no held place. -/
theorem State.LawUpTo.closed_dropped {s : State} {q : Queued} (h : s.LawUpTo (.dropped f q)) {me : Address}
    (hsent : q.sentAs me f = true) (hraise : ∀ i, q.raisesEvent i = false) (hheld : ∀ i, q.place ≠ .held i) :
    s.LawUpTo .none :=
  h.mono ⟨fun i hi => by simpa [hraise] using Queued.raisesEvent_of_raisedLater hsent hi, fun i (hi : q.raisesEvent i = true) => by simp [hraise] at hi,
    fun i hi => hheld i (Queued.place_of_settledLater hsent hi), fun _ hf => hf, fun hf => hf⟩

/-- R89: the poster of a taken frame takes back what its end leaves open. -/
theorem State.LawUpTo.reportTaken (h : u.LawUpTo (.handled (raisedLater true f) (settledLater true f)))
    (ht : u.takesPosts = true) (hq : u.frameOnLine = some q) (hsent : q.frame.sentAs u.address f = true)
    (hentry : ∀ cls limit deadline, f.body = .raise cls limit deadline → ∃ e ∈ u.table, e.id = f.head.id)
    (hjoin : ∀ fresh, f.body = .join fresh → u.ctl.joinStage = some .joinSending ∧ fresh = u.ctl.freshOwed)
    (accept : Level) : (u.reportOutcome .taken accept).LawUpTo .none := by
  have hmem := (State.frameOnLine_some hq).1
  have hplace := h.blocks.queue.place_of_dropFrame hq
  have hdropped := h.dropTaken hq
  have hraised : ∀ i, q.frame.raisesEvent i = true → u.standsFor q = true := fun i hi => by
    refine (h.frames q hmem).resolve_left fun hk => ?_
    simp [hk.2 i] at hi
  unfold State.reportOutcome
  rw [hq]
  dsimp only
  obtain ⟨frame, onLine⟩ := q
  cases frame with
  | raise id cls p limit deadline payload =>
    obtain ⟨ho, r, hr, hserial, hb⟩ := (State.standsFor_identity (id := id) rfl).1
      (hraised id (by simp [Queued.raisesEvent]))
    obtain ⟨hid, -, c, l, d, hbody⟩ := Queued.raise_of_sentAs hsent (id := id) (by simp [Queued.raisesEvent])
    obtain ⟨e, he, heid⟩ := hentry c l d hbody
    obtain ⟨origin, serial⟩ := id
    subst ho hserial
    have hown : u.dropFrame.LawUpTo (.ofOwn (u.ownId r.serial)) :=
      hdropped.mono ⟨fun i hi => hi.2.1.trans hid, fun i hi => (of_decide_eq_true hi).symm,
        fun i hi => by simpa [Queued.place] using Queued.place_of_settledLater hsent hi, fun _ hf => hf, fun hf => hf⟩
    exact State.LawUpTo.toldTaken_raise (s := u.dropFrame) hown ht hr hb.1 ⟨e, he, heid.trans hid⟩ hplace _
  | restate id =>
    exact (hdropped.closed_dropped hsent (by simp [Queued.raisesEvent]) (by simp [Queued.place])).postWaiting id
  | withdraw id p => exact hdropped.closed_dropped hsent (by simp [Queued.raisesEvent]) (by simp [Queued.place])
  | bid id p a =>
    exact (hdropped.closed_dropped hsent (by simp [Queued.raisesEvent]) (by simp [Queued.place])).remakeBid
  | lapse id p a =>
    exact (hdropped.closed_dropped hsent (by simp [Queued.raisesEvent]) (by simp [Queued.place])).remakeLapse
  | finish id p a result payload =>
    refine State.LawUpTo.toldTaken_held (hdropped.mono ⟨fun i hi => ?_, fun i hi => Bool.false_ne_true hi,
      fun i hi => ?_, fun _ hf => hf, fun hf => hf⟩) hplace
    · simpa [Queued.raisesEvent] using Queued.raisesEvent_of_raisedLater hsent hi
    · exact (Place.held.inj (Queued.place_of_settledLater hsent hi)).symm
  | release id p a =>
    refine State.LawUpTo.toldTaken_held (hdropped.mono ⟨fun i hi => ?_, fun i hi => Bool.false_ne_true hi,
      fun i hi => ?_, fun _ hf => hf, fun hf => hf⟩) hplace
    · simpa [Queued.raisesEvent] using Queued.raisesEvent_of_raisedLater hsent hi
    · exact (Place.held.inj (Queued.place_of_settledLater hsent hi)).symm
  | join fresh =>
    obtain ⟨hstage, howed⟩ := hjoin fresh (Queued.join_of_sentAs hsent rfl)
    rw [howed]
    exact State.LawUpTo.joinTaken (s := u.dropFrame)
      (hdropped.closed_dropped hsent (by simp [Queued.raisesEvent]) (by simp [Queued.place])) hstage hplace accept

end Taken

theorem State.LawUpTo.ownTaken {s : State} (h : s.LawUpTo .none) {img : TransmitImage} (himage : s.image = some img)
    (hstore : storageObjects s.address true s.table img.frame = false) (accept : Level) :
    (s.ownTaken img.frame accept).LawUpTo .none := by
  obtain ⟨q, hq, hsent⟩ := h.sending himage
  obtain ⟨hmem, honLine⟩ := State.frameOnLine_some hq
  have hst := h.standing hmem
  have ht := h.takesPosts_of_image (by simp [himage])
  have hended := h.setLiu (s.keeps_endOwn img.frame accept).toKeepsBlocks
  have hhandled := State.LawUpTo.handleTaken (b := true) hended (State.liuHeld_of_takesPosts ht) hstore
    fun _ => ⟨q, hmem, honLine, hsent, hst⟩
  have hs := State.station_ne_config_of_takesPosts ht
  rw [State.ownTaken_eq]
  split
  · exact hhandled.restartNow (by simpa [State.station, State.endOwn] using hs)
  · obtain ⟨q', hq', hsent'⟩ := hhandled.sending (img := img) (by simpa using himage)
    have htold : (((s.endOwn img.frame accept).handleTaken true img.frame).reportOutcome .taken accept).LawUpTo .none := by
      refine State.LawUpTo.reportTaken hhandled ?_ hq' hsent' (fun cls limit deadline hbody => ?_) (fun fresh hbody => ?_) accept
      · exact (State.takesPosts_congr (s := s) (by simp)).trans ht
      · have hraise := Queued.raisesEvent_of_raisedLater hsent ⟨rfl, rfl, cls, limit, deadline, hbody⟩
        obtain ⟨-, hattempt, -⟩ := Queued.raise_of_sentAs hsent hraise
        have ho := ((State.standsFor_identity (Queued.place_of_raisesEvent hraise)).1 hst).1
        exact State.entry_of_own_raise ((Queued.sentAs_sender hsent).trans ho.symm) hattempt hbody
      · have hjoin := Queued.eq_join_of_sentAs hsent hbody
        have hstage := (State.standsFor_join (by rw [hjoin]; rfl)).1 hst
        rw [hjoin, Queued.join.injEq] at hstage
        simpa [State.endOwn] using hstage
    have hkept := ((s.keeps_endOwn img.frame accept).trans (State.keeps_handleTaken hstore)).toKeepsBlocks.locked hs
    have hkept' := (State.keeps_reportOutcome (o := .taken)
      (s := (s.endOwn img.frame accept).handleTaken true img.frame) (fun _ => by
        rw [State.handleTaken_liu, State.endOwn_failures]; decide) accept).toKeepsBlocks.locked hkept.1
    exact (htold.tellAlone hkept'.1 _).testDrain

/-! ### A peer's frame -/

/-- R71: a peer's frame is taken, before the address clash or the drain is looked at. -/
def State.heard (s : State) (f : Frame) : State := ((s.endPeer f).handleTaken false f).tellAlone s.liu.alone

theorem State.peerTaken_heard (s : State) (f : Frame) :
    s.peerTaken f = if f.head.sender = s.address then (s.heard f).addressClash else (s.heard f).testDrain :=
  s.peerTaken_eq f

section
variable {s : State} (h : s.LawUpTo .none) (hs : s.liuHeld = false) (himage : s.image = none) {f : Frame}
  (hstore : storageObjects s.address false s.table f = false)
include h hs himage hstore

theorem State.LawUpTo.handledPeer : ((s.endPeer f).handleTaken false f).LawUpTo .none := by
  have hended := h.setLiu (s.keeps_endPeer f).toKeepsBlocks
  have hhandled := State.LawUpTo.handleTaken (b := false) hended hs hstore (by simp)
  have hoff := hhandled.off_of_no_image (by simpa [State.endPeer] using himage)
  refine State.LawUpTo.closed hhandled (fun i hi => by simpa using hi.1) (fun _ hf => hf) (fun i hi => ?_) (fun q hq hk => ?_)
    fun hf => hf
  · have hi' : settlesOwn false f i = true := hi
    unfold settlesOwn at hi'
    split at hi' <;> simp at hi'
  · have := hoff q hq
    rw [hk.1] at this
    cases this

theorem State.LawUpTo.heard : (s.heard f).LawUpTo .none := by
  have hstation : s.station ≠ .config := by
    intro hc
    simp [State.liuHeld, hc] at hs
  have hkept := ((s.keeps_endPeer f).trans (State.keeps_handleTaken hstore)).toKeepsBlocks.locked hstation
  exact (h.handledPeer hs himage hstore).tellAlone hkept.1 s.liu.alone

theorem State.LawUpTo.peerTaken : (s.peerTaken f).LawUpTo .none := by
  have htold := h.heard hs himage hstore
  rw [State.peerTaken_heard]
  split
  · refine htold.addressClash ?_
    simpa [State.heard, State.liuHeld, State.station, State.endPeer] using hs
  · exact htold.testDrain

end

theorem State.LawUpTo.objectSlot {s : State} (h : s.LawUpTo .none) (a o : Bool) : (s.objectSlot a o).LawUpTo .none := by
  have hslot : s.Keeps { s with liu := s.liu.atObject o } := State.keeps_liu_of_failures rfl fun h => h
  have hsampled := (h.setLiu hslot.toKeepsBlocks).sampleLine false
  unfold State.objectSlot
  dsimp only
  split
  · exact hsampled
  · exact hsampled.setLiu (State.keeps_endFrame _ _ rfl (fun h => h) _ _ _ _).toKeepsBlocks

theorem State.LawUpTo.objectedSlots {s : State} (h : s.LawUpTo .none) (accept : Level) (a o : Bool) :
    (s.objectedSlots accept a o).LawUpTo .none := by
  have hslot : s.Keeps { s with liu := s.liu.atAccept a } :=
    State.keeps_liu_of_failures rfl fun h => ⟨h.1, h.2.1, h.2.2.1, Nat.zero_le _⟩
  have hsampled := (h.setLiu hslot.toKeepsBlocks).sampleLine accept.bit
  unfold State.objectedSlots
  dsimp only
  split
  · exact hsampled
  · exact hsampled.objectSlot _ _

theorem State.LawUpTo.peerNowhere {s : State} (h : s.LawUpTo .none) (accept : Level) (v : Verdict) :
    (s.peerNowhere accept v).LawUpTo .none := by
  cases v with
  | placeLost => exact h.objectionRun
  | placeKept => exact h.objectedSlots _ _ _
  | clean f => exact h.objectedSlots _ _ _

theorem State.LawUpTo.span {s : State} (h : s.LawUpTo .none) (f : Frame) : (s.span f).LawUpTo .none :=
  h.setLiu (s.keeps_span f).toKeepsBlocks

theorem State.LawUpTo.peerFrame {s : State} (h : s.LawUpTo .none) (hs : s.liuHeld = false) (himage : s.image = none)
    (f : Frame) (accept : Level) : (s.peerFrame f accept).LawUpTo .none := by
  unfold State.peerFrame
  split
  · exact (h.span f).peerNowhere _ _
  · exact (h.span f).peerNowhere _ _
  · split
    · exact (h.span _).peerNowhere _ _
    · rename_i hstore
      exact h.peerTaken hs himage (by simpa using hstore)

/-! ### The frame on the Line -/

theorem State.LawUpTo.ownFrame {s : State} (h : s.LawUpTo .none) {img : TransmitImage} (himage : s.image = some img)
    (accept : Level) : (s.ownFrame img.frame accept).LawUpTo .none := by
  unfold State.ownFrame
  split
  · exact h.ownObjected (by simp [himage]) _ _ _
  · rename_i hstore
    exact h.ownTaken himage (by simpa using hstore) accept

theorem State.LawUpTo.joins {s : State} (h : s.LawUpTo .none) : s.joins.LawUpTo .none := by
  unfold State.joins
  split
  · rename_i hj; exact h.startFrame hj.2
  · exact h

theorem State.startFrame_image_isSome {s : State} (h : s.readyToStart = true) : s.startFrame.image.isSome = true := by
  obtain ⟨-, -, -, -, q, f, hsel⟩ := State.readyToStart_iff.1 h
  simp [State.startFrame, hsel]

theorem State.LawUpTo.meets {s : State} (h : s.LawUpTo .none) : s.meets.LawUpTo .none := by
  rcases s.meets_cases with e | ⟨-, hr, e⟩
  · rw [e]; exact h
  · rw [e]; exact (h.startFrame hr).loseArbitration (State.startFrame_image_isSome hr)

theorem State.reportOutcome_image (s : State) (o : FrameOutcome) (a : Level) : (s.reportOutcome o a).image = none := by
  unfold State.reportOutcome
  split
  · rfl
  · cases o <;> simp [State.dropFrame, State.keepFrame]

theorem State.muteFailures_image_of_none {s : State} (h : s.image = none) : s.muteFailures.image = none := by
  rcases s.muteFailures_cases with e | ⟨-, -, e⟩ <;> rw [e]
  · exact h
  · simp [State.mutePurge]

/-- R157, R92: no own frame is on the Line once one has ended. -/
theorem State.ownEnds_image (s : State) (o : FrameOutcome) (a : Level) : (s.ownEnds o a).image = none := by
  unfold State.ownEnds
  dsimp only
  split
  · rfl
  · rw [State.testDrain_image]
    exact State.muteFailures_image_of_none (by rw [State.tellAlone_image, State.reportOutcome_image])

theorem State.loseArbitration_image (s : State) : s.loseArbitration.image = none := State.ownEnds_image _ _ _

theorem State.LawUpTo.frame {s : State} (h : s.LawUpTo .none) (f : Frame) (accept : Level) :
    (s.frame f accept).LawUpTo .none := by
  have hj := h.joins
  have hheld : s.joins.liuHeld = s.liuHeld := by
    unfold State.joins
    split <;> simp [State.liuHeld, State.station]
  unfold State.frame
  split
  · exact h
  rename_i hs
  have hs' : s.joins.liuHeld = false := by rw [hheld]; simpa using hs
  dsimp only
  split
  · rename_i img himage
    split
    · rename_i hf
      rw [← hf]
      exact hj.ownFrame himage accept
    · split
      · have hlost := hj.loseArbitration (by simp [himage])
        split
        · exact hlost
        · rename_i hheld'
          exact hlost.peerFrame (by simpa using hheld') (State.loseArbitration_image _) _ _
      · exact hj
  · rename_i himage
    split
    · exact hj.peerFrame hs' himage _ _
    · exact hj.watch _

end Sys2Proof.Machine
end

section
/-! SUPPORT. The law at the requests that pop a notice, raise and withdraw an event, and serve a claim. -/

namespace Sys2Proof.Machine

/-! ### Notices -/

/-- R181: the notice at the front is popped, and belongs to no record. -/
theorem State.LawUpTo.popStation {s : State} (h : s.LawUpTo .none) {n : Notice} {rest : List Notice}
    (hns : s.notices = n :: rest) (hn : n.isStation = true) : State.LawUpTo .none { s with notices := rest } := by
  have hfilter : ∀ p : Notice → Bool, p n = false → rest.filter p = s.notices.filter p := fun p hp => by
    rw [hns, List.filter_cons, hp]
    rfl
  refine ⟨h.blocks.of_keeps (s.keeps_notices rest fun hs => ?_).toKeepsBlocks,
    ⟨h.held.one_le, h.held.le_four, h.held.length_le, h.held.ids, h.held.claims⟩,
    ⟨h.own.entries, h.own.records, h.own.raises, h.own.pending⟩,
    ⟨fun m hm => h.notices.named m (hns ▸ List.mem_cons_of_mem _ hm), fun r hr => ?_, fun r hr => ?_⟩,
    ⟨h.control.stage, h.control.draining, h.control.window, h.control.fresh, fun hc => ?_, h.control.detached,
      h.control.leaving, h.control.addressed, h.control.reset⟩, h.frames, h.image⟩
  · rw [State.StationNoticeLaw, hns] at hs
    exact (((List.sublist_cons_self n rest).filter _).length_le).trans hs
  · exact (congrArg List.length (hfilter _ (Notice.finalFor_of_station _ hn))).trans (h.notices.finals r hr)
  · simpa only [HeldRecord.countedIn, hfilter _ (Notice.deadlineFor_of_station _ hn),
      hfilter _ (Notice.revokedFor_of_station _ hn)] using h.notices.unread r hr
  · simp [(h.control.config hc).2.2.2] at hns

/-- R136: a final notice is popped, and its CLOSED record leaves the Origin List. -/
theorem State.LawUpTo.popOrigin {s : State} (h : s.LawUpTo .none) {n : Notice} {rest : List Notice}
    (hns : s.notices = n :: rest) {id : Identity} (hn : n.finalFor id = true) :
    (State.popOrigin { s with notices := rest } id.serial).LawUpTo .none := by
  have hfilter : ∀ p : Notice → Bool, p n = false → rest.filter p = s.notices.filter p := fun p hp => by
    rw [hns, List.filter_cons, hp]
    rfl
  obtain ⟨r, hr, hfor⟩ : ∃ r ∈ s.origin, n.finalFor (s.ownId r.serial) = true := by
    rcases h.notices.named n (by rw [hns]; exact List.mem_cons_self) with hs | hfinal | ⟨r, -, hheld⟩
    · rw [Notice.isStation_of_final hn] at hs
      cases hs
    · exact hfinal
    · rw [Notice.finalFor_of_held hheld] at hn
      cases hn
  have hid : id = s.ownId r.serial := by
    by_contra hne
    rw [Notice.finalFor_of_ne hn hne] at hfor
    cases hfor
  subst hid
  have hcount := h.notices.finals r hr
  simp only [OriginRecord.notedIn, hns, List.filter_cons, hfor, if_true, List.length_cons] at hcount
  have hclosed : r.isClosed = true := by
    by_contra hopen
    simp [hopen] at hcount
  have hnone : ∀ m ∈ rest, m.finalFor (s.ownId r.serial) = false := by
    simp only [hclosed, if_true, Nat.add_eq_right, List.length_eq_zero_iff, List.filter_eq_nil_iff] at hcount
    exact fun m hm => by simpa using hcount m hm
  have hmem : ∀ x, x ∈ s.origin.filter (fun x => ¬ x.serial = r.serial) ↔ x ∈ s.origin ∧ x.serial ≠ r.serial := by simp
  have hopen : ∀ x ∈ s.origin, x.isClosed = false → x ∈ s.origin.filter fun x => ¬ x.serial = r.serial := by
    refine fun x hx hxo => (hmem x).2 ⟨hx, fun hxr => ?_⟩
    rw [List.inj_on_of_nodup_map h.blocks.origin.2 hx hr hxr, hclosed] at hxo
    cases hxo
  have hblocks : s.KeepsBlocks (State.popOrigin { s with notices := rest } r.serial) := by
    refine ((s.keeps_notices rest fun hs => ?_).trans (State.keeps_popOrigin _ _)).toKeepsBlocks
    rw [State.StationNoticeLaw, hns] at hs
    exact (((List.sublist_cons_self n rest).filter _).length_le).trans hs
  refine ⟨h.blocks.of_keeps hblocks, ⟨h.held.one_le, h.held.le_four, h.held.length_le, h.held.ids, h.held.claims⟩,
    ⟨?entries, fun x hx => h.own.records x ((hmem x).1 hx).1, fun x hx => h.own.raises x ((hmem x).1 hx).1,
      fun x hx => h.own.pending x ((hmem x).1 hx).1⟩, ⟨?named, ?finals, ?unread⟩,
    ⟨h.control.stage, h.control.draining, h.control.window,
      fun hf => ⟨(h.control.fresh hf).1, (h.control.fresh hf).2.1, fun x hx => (h.control.fresh hf).2.2 x ((hmem x).1 hx).1⟩,
      fun hc => ?config,
      fun hd => ⟨(h.control.detached hd).1, (h.control.detached hd).2.1,
        fun x hx => (h.control.detached hd).2.2 x ((hmem x).1 hx).1⟩,
      h.control.leaving, h.control.addressed, h.control.reset⟩, ?frames, h.image⟩
  case entries =>
    intro e he ho
    refine (h.own.entries e he ho).imp_right fun ⟨x, hx, hxs, hp⟩ => ⟨x, hopen x hx ?_, hxs, hp⟩
    cases hxo : x.isClosed with
    | false => rfl
    | true =>
      rw [OriginRecord.inPool_of_closed hxo] at hp
      cases hp
  case named =>
    intro m hm
    refine (h.notices.named m (hns ▸ List.mem_cons_of_mem _ hm)).imp_right (Or.imp_left ?_)
    rintro ⟨x, hx, hfinal⟩
    refine ⟨x, (hmem x).2 ⟨hx, fun hxr => ?_⟩, hfinal⟩
    rw [hxr, hnone m hm] at hfinal
    cases hfinal
  case finals =>
    intro x hx
    obtain ⟨hx, hne⟩ := (hmem x).1 hx
    have hskip : n.finalFor (s.ownId x.serial) = false :=
      Notice.finalFor_of_ne hfor fun he => hne (State.ownId_inj he).symm
    exact (congrArg List.length (hfilter _ hskip)).trans (h.notices.finals x hx)
  case unread =>
    intro x hx
    have hskip := Notice.heldFor_of_final hfor x.id
    simpa only [HeldRecord.countedIn, State.popOrigin_notices, hfilter _ hskip.1, hfilter _ hskip.2] using
      h.notices.unread x hx
  case config =>
    simp [(h.control.config hc).2.2.2] at hns
  case frames =>
    intro q hq
    have hst := h.standing hq
    right
    cases hp : q.frame.place with
    | held i => exact (State.standsFor_held hp).2 ((State.standsFor_held (s := s) hp).1 hst)
    | bid => exact (State.standsFor_bid hp).2 ((State.standsFor_bid (s := s) hp).1 hst)
    | lapse => exact (State.standsFor_lapse hp).2 ((State.standsFor_lapse (s := s) hp).1 hst)
    | join => exact (State.standsFor_join hp).2 ((State.standsFor_join (s := s) hp).1 hst)
    | identity i =>
      obtain ⟨ho, x, hx, hxs, hb⟩ := (State.standsFor_identity hp).1 hst
      refine (State.standsFor_identity hp).2 ⟨ho, x, hopen x hx ?_, hxs, hb⟩
      obtain ⟨frame, onLine⟩ := q
      cases hst' : x.state <;> cases frame <;> simp_all [OriginRecord.backs, OriginRecord.isClosed]

/-- R117: a held notice is popped; a CLOSED record with none left leaves the Held List. -/
theorem State.LawUpTo.popHeld {s : State} (h : s.LawUpTo .none) {n : Notice} {rest : List Notice}
    (hns : s.notices = n :: rest) {id : Identity} (hn : n.deadlineFor id = true ∨ n.revokedFor id = true) :
    (State.popHeld { s with notices := rest } id).LawUpTo .none := by
  obtain ⟨r, hr, hfor⟩ : ∃ r ∈ s.held, n.deadlineFor r.id = true ∨ n.revokedFor r.id = true := by
    rcases h.notices.named n (by rw [hns]; exact List.mem_cons_self) with hs | ⟨r, -, hfinal⟩ | hheld
    · rw [Notice.isStation_of_held hn] at hs
      cases hs
    · rw [Notice.finalFor_of_held hn] at hfinal
      cases hfinal
    · exact hheld
  have hid : id = r.id := by
    by_contra hne
    rw [(Notice.heldFor_of_ne hn hne).1, (Notice.heldFor_of_ne hn hne).2] at hfor
    simp at hfor
  subst hid
  have htail : SameBut r.id s.notices rest := hns ▸ SameBut.tail rest hn
  have hcount := h.notices.unread r hr
  have hone : ∀ p q : Notice → Bool, (p n = true ∧ q n = false) ∨ (p n = false ∧ q n = true) →
      (s.notices.filter p).length + (s.notices.filter q).length
        = (rest.filter p).length + (rest.filter q).length + 1 := by
    intro p q hpq
    rw [hns, List.filter_cons, List.filter_cons]
    rcases hpq with ⟨hp, hq⟩ | ⟨hp, hq⟩ <;> simp [hp, hq] <;> omega
  have hkind : (n.deadlineFor r.id = true ∧ n.revokedFor r.id = false)
      ∨ (n.deadlineFor r.id = false ∧ n.revokedFor r.id = true) := by
    cases n <;> simp_all [Notice.deadlineFor, Notice.revokedFor]
  have hless := hone _ _ hkind
  have hle : ∀ p : Notice → Bool, (rest.filter p).length ≤ (s.notices.filter p).length := fun p => by
    rw [hns]
    exact ((List.sublist_cons_self n rest).filter p).length_le
  obtain ⟨hdeadline, hrevoked, hunread, hclosed⟩ := hcount
  have hset : State.setHeld { s with notices := rest } r.id (fun r => { r with unread := r.unread - 1 })
      = { s with held := replaceRecord s.held r { r with unread := r.unread - 1 }, notices := rest } :=
    State.setHeld_eq (s := { s with notices := rest }) h.held.ids hr
  have hrecord : State.heldRecord
      { s with held := replaceRecord s.held r { r with unread := r.unread - 1 }, notices := rest } r.id
      = some { r with unread := r.unread - 1 } := by
    refine State.heldRecord_of_mem (r := { r with unread := r.unread - 1 }) ?_ ((mem_replaceRecord hr).2 (.inl rfl))
    show ((replaceRecord s.held r _).map HeldRecord.id).Nodup
    rw [replaceRecord_ids (held := s.held) (r := r) (r' := { r with unread := r.unread - 1 }) rfl]
    exact h.held.ids
  unfold State.popHeld
  dsimp only
  rw [hset, hrecord]
  dsimp only
  split
  · rename_i hdone
    have hfree : State.freeHeld
        { s with held := replaceRecord s.held r { r with unread := r.unread - 1 }, notices := rest } r.id
        = { s with held := s.held.filter fun x => ¬ x.id = r.id, notices := rest } := by
      have hlist : (replaceRecord s.held r { r with unread := r.unread - 1 }).filter (fun x => ¬ x.id = r.id)
          = s.held.filter fun x => ¬ x.id = r.id := by
        rw [replaceRecord, List.filter_map]
        rw [List.filter_congr (q := fun x => decide (¬ x.id = r.id)) fun x _ => by
          by_cases hx : x.id = r.id <;> simp [hx]]
        conv_rhs => rw [← List.map_id (s.held.filter fun x => decide (¬ x.id = r.id))]
        exact List.map_congr_left fun x hx => if_neg (by simpa using (List.mem_filter.1 hx).2)
      simp only [State.freeHeld, hlist]
    rw [hfree]
    have hdropped := h.dropHeld htail (fun m hm => ?_) fun q hq hp => ?_
    · exact (hdropped.mono (k' := .none) ⟨fun _ hf => hf, fun _ hf => hf, fun _ hf => hf.1, fun _ hf => hf,
        fun hf => hf⟩).remakeBid
    · have hd : rest.filter (Notice.deadlineFor r.id) = [] := List.eq_nil_of_length_eq_zero (by omega)
      have hv : rest.filter (Notice.revokedFor r.id) = [] := List.eq_nil_of_length_eq_zero (by omega)
      exact ⟨by simpa using List.filter_eq_nil_iff.1 hd m hm, by simpa using List.filter_eq_nil_iff.1 hv m hm⟩
    · obtain ⟨x, hx, hxr, hb⟩ := (State.standsFor_held hp).1 (h.standing hq)
      rw [List.inj_on_of_nodup_map h.held.ids hx hr hxr] at hb
      simp [hdone.1, HeldRecord.backs] at hb
  · rename_i hkept
    have hd := hle (Notice.deadlineFor r.id)
    have hv := hle (Notice.revokedFor r.id)
    refine h.replaceHeld (r' := { r with unread := r.unread - 1 }) hr rfl rfl htail ⟨hd.trans hdeadline, hv.trans hrevoked,
      ?_, fun hc => ?_⟩ (fun hc => hc) (fun ha => ha) fun he => .inl he
    · dsimp only
      omega
    · exact Nat.pos_of_ne_zero fun hz => hkept ⟨hc, hz⟩

theorem State.LawUpTo.answerNotice {s : State} (h : s.LawUpTo .none) : s.answerNotice.after.LawUpTo .none := by
  unfold State.answerNotice
  split
  · exact h
  · rename_i n rest hns
    cases n with
    | finished id a r p => exact h.popOrigin hns (id := id) (by simp [Notice.finalFor])
    | abandoned id l a => exact h.popOrigin hns (id := id) (by simp [Notice.finalFor])
    | withdrawn id => exact h.popOrigin hns (id := id) (by simp [Notice.finalFor])
    | refused id c => exact h.popOrigin hns (id := id) (by simp [Notice.finalFor])
    | deadline id => exact h.popHeld hns (id := id) (.inl (by simp [Notice.deadlineFor]))
    | revoked id c => exact h.popHeld hns (id := id) (.inr (by simp [Notice.revokedFor]))
    | station c => exact h.popStation hns rfl

/-! ### Raising -/

/-- R128: an event is raised, by a serial that no record uses. -/
theorem State.LawUpTo.raiseEvent {s : State} (h : s.LawUpTo .none) (hs : s.station = .active)
    (hroom : s.origin.length < Config.originCapacity) (cls : ClassNo) (payload : List Byte) :
    (s.raiseEvent cls payload).after.LawUpTo .none := by
  have hb := (State.keeps_raiseEvent hroom cls payload).toKeepsBlocks
  simp only [Config.originCapacity] at hroom
  obtain ⟨-, -, -, -, hfree⟩ := freeSerial_first_free (used := s.origin) s.serialCounter (by omega)
  have hplace := State.place_empty_of_unused (fun q hq => h.standing hq) hfree
  rw [State.raiseEvent_eq cls payload (by simp [State.takesPosts, hs]) hplace] at hb ⊢
  dsimp only at hb ⊢
  generalize freeSerial s.origin s.serialCounter 256 = n at *
  have hfresh : s.ctl.freshOwed ≠ true := fun hf => (h.control.fresh hf).1 hs
  unfold State.afterRaise at hb ⊢
  refine ⟨h.blocks.of_keeps hb, ⟨h.held.one_le, h.held.le_four, h.held.length_le, h.held.ids, h.held.claims⟩,
    ⟨?entries, ?records, ?raises, ?pending⟩, ⟨?named, ?finals, h.notices.unread⟩,
    ⟨h.control.stage, h.control.draining, h.control.window, fun hf => absurd hf hfresh, ?config, ?detached, h.control.leaving,
      h.control.addressed, h.control.reset⟩, ?frames, ?image⟩
  case entries =>
    intro e he ho
    exact (h.own.entries e he ho).imp_right fun ⟨x, hx, hrest⟩ => ⟨x, List.mem_append_left _ hx, hrest⟩
  case records =>
    intro x hx hp
    rcases List.mem_append.1 hx with hx | hx
    · exact h.own.records x hx hp
    · simp [List.mem_singleton.1 hx, OriginRecord.inPool] at hp
  case raises =>
    intro x hx hst
    right
    rcases List.mem_append.1 hx with hx | hx
    · obtain ⟨q, hq, hraise⟩ := (h.own.raises x hx hst).resolve_left fun hf => hf
      exact ⟨q, List.mem_append_left _ hq, hraise⟩
    · refine ⟨_, List.mem_append_right _ List.mem_cons_self, ?_⟩
      rw [List.mem_singleton.1 hx]
      simp [Queued.raisesEvent, State.ownId, State.address]
  case pending =>
    intro x hx hp
    rcases List.mem_append.1 hx with hx | hx
    · exact h.own.pending x hx hp
    · simp [List.mem_singleton.1 hx]
  case named =>
    intro m hm
    exact (h.notices.named m hm).imp_right
      (Or.imp_left fun ⟨x, hx, hfor⟩ => ⟨x, List.mem_append_left _ hx, hfor⟩)
  case finals =>
    intro x hx
    rcases List.mem_append.1 hx with hx | hx
    · exact h.notices.finals x hx
    · rw [List.mem_singleton.1 hx]
      simp only [OriginRecord.notedIn, OriginRecord.isClosed, Bool.false_eq_true, if_false, List.length_eq_zero_iff,
        List.filter_eq_nil_iff]
      intro m hm hfor
      have hfor' : m.finalFor (s.ownId n) = true := hfor
      rcases h.notices.named m hm with hst | ⟨y, hy, hfinal⟩ | ⟨y, -, hheld⟩
      · rw [Notice.isStation_of_final hfor'] at hst
        cases hst
      · rw [Notice.finalFor_of_ne hfor' fun he => hfree y hy (State.ownId_inj he).symm] at hfinal
        cases hfinal
      · rw [Notice.finalFor_of_held hheld] at hfor'
        cases hfor'
  case config => simp [State.station, hs]
  case detached => simp [State.station, hs]
  case frames =>
    intro q hq
    right
    rcases List.mem_append.1 hq with hq | hq
    · have hst := h.standing hq
      cases hp : q.frame.place with
      | held i => exact (State.standsFor_held hp).2 ((State.standsFor_held (s := s) hp).1 hst)
      | bid => exact (State.standsFor_bid hp).2 ((State.standsFor_bid (s := s) hp).1 hst)
      | lapse => exact (State.standsFor_lapse hp).2 ((State.standsFor_lapse (s := s) hp).1 hst)
      | join => exact (State.standsFor_join hp).2 ((State.standsFor_join (s := s) hp).1 hst)
      | identity i =>
        obtain ⟨ho, x, hx, hrest⟩ := (State.standsFor_identity hp).1 hst
        exact (State.standsFor_identity hp).2 ⟨ho, x, List.mem_append_left _ hx, hrest⟩
    · rw [List.mem_singleton.1 hq]
      exact (State.standsFor_identity (id := s.ownId n) rfl).2
        ⟨rfl, _, List.mem_append_right _ List.mem_cons_self, rfl, rfl, by simp⟩
  case image =>
    simpa [State.imageMatches, State.frameOnLine, State.address] using h.image

theorem State.LawUpTo.answerRaise {s : State} (h : s.LawUpTo .none) (body : List Byte) :
    (s.answerRaise body).after.LawUpTo .none := by
  unfold State.answerRaise
  split
  swap
  · exact h
  rename_i hs
  split
  · exact h
  split
  swap
  · exact h
  split
  · exact h
  · rename_i hroom
    exact h.raiseEvent hs (by omega) _ _

end Sys2Proof.Machine
end

section
/-! SUPPORT. The law at the requests that withdraw an event or serve a claim, at the leave, and at the deadline timers. -/

namespace Sys2Proof.Machine

/-! ### Withdrawing -/

theorem State.LawUpTo.closed_settled {s : State} {id : Identity} (h : s.LawUpTo (Slack.none.settleOwn id)) :
    s.LawUpTo .none :=
  h.mono ⟨fun _ hi => hi.1, fun _ hi => hi.1, fun _ hi => hi, fun _ hf => hf, fun hf => hf⟩

/-- R130: a QUEUED record is marked while its RAISE is on the Line, and closes with its RAISE otherwise. -/
theorem State.LawUpTo.withdrawQueued {s : State} (h : s.LawUpTo .none) {r : OriginRecord} (hr : r ∈ s.origin)
    (hst : r.state = .queued) : (s.withdrawQueued r.serial).LawUpTo .none := by
  have hclosed : r.isClosed = false := by simp [OriginRecord.isClosed, hst]
  unfold State.withdrawQueued
  split
  · rename_i g hplaced
    have honly : ∀ q ∈ s.queue, q.frame.place = .identity (s.ownId r.serial) → q = g := fun q hq hp =>
      eq_of_framePlaced h.blocks.queue.1 hplaced hq hp
    split
    · rename_i honLine
      rw [State.setOrigin_eq h.blocks.origin.2 hr]
      refine (h.changeOrigin (r' := { r with withdrawPending := true }) hr rfl (by rw [hclosed]; simp [OriginRecord.isClosed, hst])
        (.inr (h.no_entry_of_queued hr hst fun hf => hf)) (by simp [OriginRecord.inPool, hst])
        (fun _ => (h.own.raises r hr hst).resolve_left fun hf => hf) (fun _ => hst) fun q hq hp => .inr ?_).closed_settled
      obtain ⟨-, x, hx, hxs, hb⟩ := (State.standsFor_identity hp).1 (h.standing hq)
      rw [List.inj_on_of_nodup_map h.blocks.origin.2 hx hr hxs] at hb
      have hraise := OriginRecord.raisesEvent_of_backs hst hb hp
      rw [honly q hq hp] at hraise ⊢
      obtain ⟨frame, onLine⟩ := g
      cases frame <;> simp_all [Queued.raisesEvent, OriginRecord.backs]
    · rename_i hoff
      refine (h.closeRemoved hr hst (fun hf => hf) (fun q hq hp => ?_) .withdrawn (n := .withdrawn (s.ownId r.serial))
        (by simp [Notice.finalFor])).mono
          ⟨fun _ hi => hi.1, fun _ hi => hi.1, fun _ hi => hi, fun _ hf => hf.1, fun hf => hf⟩
      rw [honly q hq hp]
      simpa using hoff
  · rename_i hnone
    exact (h.closeQueued hr hst (fun hf => hf) _ (by simp [Notice.finalFor]) fun q hq hp =>
      absurd hp (framePlaced_none.1 hnone q hq)).closed_settled

/-- R132: a LIVE record goes to WITHDRAWING. -/
theorem State.LawUpTo.beginWithdraw_of_live {s : State} (h : s.LawUpTo .none) (ht : s.takesPosts = true) {r : OriginRecord}
    (hr : r ∈ s.origin) (hst : r.state = .live) : (s.beginWithdraw r.serial).LawUpTo .none := by
  refine (h.beginWithdraw ht hr (by simp [OriginRecord.isClosed, hst])
    (h.entry_of_inPool hr (by simp [OriginRecord.inPool, hst])) fun q hq hp => ?_).closed_settled
  obtain ⟨x, hx, hxs, hlive⟩ := State.record_of_identity (h.standing hq) hp
  rw [List.inj_on_of_nodup_map h.blocks.origin.2 hx hr hxs] at hlive
  exact hlive hst

theorem State.LawUpTo.answerWithdraw {s : State} (h : s.LawUpTo .none) (body : List Byte) :
    (s.answerWithdraw body).after.LawUpTo .none := by
  unfold State.answerWithdraw
  split
  · exact h
  split
  swap
  · exact h
  split
  · exact h
  rename_i r hrec
  obtain ⟨hr, rfl⟩ := State.originRecord_some hrec
  split
  · exact h
  · exact h
  · rename_i hst
    split
    · exact h
    · exact (h.withdrawQueued hr hst).testDrain
  · rename_i hst
    split
    · rename_i ht
      exact h.beginWithdraw_of_live ht hr hst
    · exact h

/-! ### Serving a claim -/

/-- A post looks at no held record. -/
theorem State.setHeld_post (s : State) (q : Queued) (id : Identity) (f : HeldRecord → HeldRecord) :
    (s.post q).setHeld id f = (s.setHeld id f).post q := by
  have ha : (s.setHeld id f).postAnswer q = s.postAnswer q := rfl
  unfold State.post
  rw [ha]
  cases s.postAnswer q <;> rfl

theorem State.LawUpTo.answerTake {s : State} (h : s.LawUpTo .none) : s.answerTake.after.LawUpTo .none := by
  unfold State.answerTake
  split
  · exact h
  split
  · exact h
  rename_i r hoffer
  split
  · exact h
  obtain ⟨older, younger, hheld, hst, -⟩ := offerOf_some_place hoffer
  have hr : r ∈ s.held := by simp [hheld]
  have hcount := h.notices.unread r hr
  refine State.LawUpTo.remakeBid ?_
  rw [State.setHeld_eq h.held.ids hr]
  refine h.replaceHeld (r' := { r with state := .inService }) hr rfl rfl SameBut.rfl ?_ (by simp [hst]) (by simp) (by simp [hst])
  simpa [HeldRecord.countedIn, hst] using hcount

/-- R108, R109: a record goes to ENDING, and its FINISH or RELEASE is posted. -/
theorem State.LawUpTo.giveUp {k : Slack} {s : State} (h : s.LawUpTo k) {r : HeldRecord} (hr : r ∈ s.held)
    (hst : r.state ≠ .closed) {q : Queued} (hp : q.place = .held r.id)
    (hbacks : HeldRecord.backs { r with state := .ending } { frame := q, onLine := false }) :
    ((s.post q).setHeld r.id fun r => { r with state := .ending }).LawUpTo k := by
  have hcount := h.notices.unread r hr
  have hending : State.LawUpTo k { s with held := replaceRecord s.held r { r with state := .ending } } := by
    refine h.replaceHeld (r' := { r with state := .ending }) hr rfl rfl SameBut.rfl ?_ (fun hc => absurd hc hst) (by simp)
      fun _ => .inl rfl
    simpa [HeldRecord.countedIn, hst] using hcount
  rw [State.setHeld_post, State.setHeld_eq h.held.ids hr]
  exact hending.post ((State.standsFor_held (q := ⟨q, false⟩) hp).2 ⟨_, (mem_replaceRecord hr).2 (.inl rfl), rfl, hbacks⟩)

theorem State.LawUpTo.endClaim {s : State} (h : s.LawUpTo .none) {r : HeldRecord} (hr : r ∈ s.held)
    (hst : r.state ≠ .closed) {q : Queued} (hp : q.place = .held r.id)
    (hbacks : HeldRecord.backs { r with state := .ending } { frame := q, onLine := false }) :
    (s.endClaim r q).after.LawUpTo .none :=
  (h.giveUp hr hst hp hbacks).remakeBid

theorem State.LawUpTo.answerFinish {s : State} (h : s.LawUpTo .none) (body : List Byte) :
    (s.answerFinish body).after.LawUpTo .none := by
  unfold State.answerFinish
  split
  · exact h
  split
  · exact h
  · exact h
  · unfold State.finishRecord
    split
    · exact h
    rename_i r hrec
    obtain ⟨hr, -⟩ := State.heldRecord_some hrec
    split
    · exact h
    · exact h
    · exact h
    · rename_i hst
      split
      · exact h.endClaim hr (by simp [hst]) rfl ⟨rfl, rfl⟩
      · exact h

theorem State.LawUpTo.answerRelease {s : State} (h : s.LawUpTo .none) (body : List Byte) :
    (s.answerRelease body).after.LawUpTo .none := by
  unfold State.answerRelease
  split
  · exact h
  split
  · exact h
  · exact h
  · unfold State.releaseRecord
    split
    · exact h
    rename_i r hrec
    obtain ⟨hr, -⟩ := State.heldRecord_some hrec
    split
    · exact h
    · exact h
    all_goals
      rename_i hst
      split
      · exact h.endClaim hr (by simp [hst]) rfl ⟨rfl, rfl⟩
      · exact h

/-! ### Leaving -/

/-- No AWAITING record is left open. -/
theorem State.LawUpTo.settleAwaiting {k : Slack} {s : State} (h : s.LawUpTo k) (hs : ∀ r ∈ s.held, r.state ≠ .awaiting) :
    s.LawUpTo { k with awaiting := False } :=
  ⟨h.blocks, h.held, h.own, h.notices, { h.control with leaving := fun _ => .inr hs }, h.frames, h.image⟩

/-- R118: the AWAITING records go to ENDING one by one. -/
theorem State.LawUpTo.foldl_release {k : Slack} (l : List HeldRecord) : ∀ {s : State}, s.LawUpTo k → (∀ r ∈ l, r ∈ s.held) →
    (l.map HeldRecord.id).Nodup → (∀ r ∈ s.held, r.state = .awaiting → r ∈ l) →
    (l.foldl (fun s r => if r.state = .awaiting then
      (s.post (.release r.id r.priority r.attempt)).setHeld r.id fun r => { r with state := .ending } else s) s).LawUpTo k
    ∧ ∀ r ∈ (l.foldl (fun s r => if r.state = .awaiting then
      (s.post (.release r.id r.priority r.attempt)).setHeld r.id fun r => { r with state := .ending } else s) s).held,
        r.state ≠ .awaiting := by
  induction l with
  | nil => exact fun h _ _ hall => ⟨h, fun r hr ha => by simpa using hall r hr ha⟩
  | cons r l ih =>
    intro s h hl hn hall
    obtain ⟨hfresh, hn⟩ := List.nodup_cons.1 hn
    have hr := hl r List.mem_cons_self
    have hne : ∀ x ∈ l, x.id ≠ r.id := fun x hx he => hfresh (he ▸ List.mem_map_of_mem hx)
    rw [List.foldl_cons]
    split
    · rename_i hst
      refine ih (h.giveUp hr (by simp [hst]) rfl ⟨rfl, rfl⟩) (fun x hx => ?_) hn fun x hx ha => ?_
      · refine List.mem_map.2 ⟨x, ?_, if_neg (hne x hx)⟩
        rw [State.post_held]
        exact hl x (List.mem_cons_of_mem _ hx)
      · obtain ⟨y, hy, rfl⟩ := List.mem_map.1 hx
        rw [State.post_held] at hy
        dsimp only at ha ⊢
        split at ha
        · cases ha
        · rename_i hyr
          rw [if_neg hyr]
          rcases List.mem_cons.1 (hall y hy ha) with rfl | hy'
          · exact absurd rfl hyr
          · exact hy'
    · rename_i hst
      refine ih h (fun x hx => hl x (List.mem_cons_of_mem _ hx)) hn fun x hx ha => ?_
      rcases List.mem_cons.1 (hall x hx ha) with rfl | hx'
      · exact absurd ha hst
      · exact hx'

theorem State.leaveRecord_of_queued {s : State} {r : OriginRecord} (h : r.state = .queued) :
    s.leaveRecord r = s.withdrawQueued r.serial := by
  simp only [State.leaveRecord, h]
  rfl

theorem State.leaveRecord_of_live {s : State} {r : OriginRecord} (h : r.state = .live) :
    s.leaveRecord r = s.beginWithdraw r.serial := by
  simp [State.leaveRecord, h]

theorem State.leaveRecord_of_other {s : State} {r : OriginRecord} (hq : r.state ≠ .queued) (hl : r.state ≠ .live) :
    s.leaveRecord r = s := by
  cases hst : r.state <;> simp_all [State.leaveRecord]

/-- A change of the record of one serial leaves every other. -/
theorem State.mem_setOrigin_of_ne {s : State} {n : Serial} {f : OriginRecord → OriginRecord} {x : OriginRecord}
    (hx : x ∈ s.origin) (hne : x.serial ≠ n) : x ∈ (s.setOrigin n f).origin :=
  List.mem_map.2 ⟨x, hx, if_neg hne⟩

theorem State.mem_leaveRecord_of_ne {s : State} {r x : OriginRecord} (hx : x ∈ s.origin) (hne : x.serial ≠ r.serial) :
    x ∈ (s.leaveRecord r).origin := by
  unfold State.leaveRecord
  split
  · split
    · split
      · exact State.mem_setOrigin_of_ne hx hne
      · exact State.mem_setOrigin_of_ne (s := s.removeFrame _) hx hne
    · exact State.mem_setOrigin_of_ne hx hne
  · unfold State.beginWithdraw
    rw [State.postWithdraw_origin]
    exact State.mem_setOrigin_of_ne hx hne
  · exact hx
  · exact hx

/-- R137: the Origin records leave one by one. -/
theorem State.LawUpTo.foldl_leave (l : List OriginRecord) : ∀ {s : State}, s.LawUpTo .none → s.takesPosts = true →
    (∀ r ∈ l, r ∈ s.origin) → (l.map OriginRecord.serial).Nodup → (l.foldl State.leaveRecord s).LawUpTo .none := by
  induction l with
  | nil => exact fun h _ _ _ => h
  | cons r l ih =>
    intro s h ht hl hn
    obtain ⟨hfresh, hn⟩ := List.nodup_cons.1 hn
    have hr := hl r List.mem_cons_self
    rw [List.foldl_cons]
    refine ih ?_ ((State.takesPosts_congr (s := s) (by simp)).trans ht) (fun x hx => ?_) hn
    · by_cases hq : r.state = .queued
      · rw [State.leaveRecord_of_queued hq]
        exact h.withdrawQueued hr hq
      · by_cases hlive : r.state = .live
        · rw [State.leaveRecord_of_live hlive]
          exact h.beginWithdraw_of_live ht hr hlive
        · rw [State.leaveRecord_of_other hq hlive]
          exact h
    · exact State.mem_leaveRecord_of_ne (hl x (List.mem_cons_of_mem _ hx)) fun he =>
        hfresh (he ▸ List.mem_map_of_mem hx)

/-- R150, R94, R118: the state in which the Origin records leave. -/
def State.leavingStarted (s : State) : State :=
  ((State.removeFrame { s with ctl := { s.ctl with state := .leaving, draining := true } } .bid).removeFrame
    .lapse).releaseAwaiting

theorem State.enterLeaving_eq (s : State) :
    s.enterLeaving = (s.leavingStarted.origin.foldl State.leaveRecord s.leavingStarted).testDrain :=
  rfl

theorem State.leavingStarted_ctl (s : State) :
    s.leavingStarted.ctl = { s.ctl with state := .leaving, draining := true } :=
  (State.releaseAwaiting_ctl _).trans (by simp)

theorem State.leavingStarted_origin (s : State) : s.leavingStarted.origin = s.origin :=
  (State.releaseAwaiting_origin _).trans (by simp)

theorem State.takesPosts_leavingStarted (s : State) : s.leavingStarted.takesPosts = true := by
  simp [State.takesPosts, State.station, State.leavingStarted_ctl]

theorem State.LawUpTo.leavingStarted {s : State} (h : s.LawUpTo .none) (hs : s.station = .active) :
    s.leavingStarted.LawUpTo .none := by
  have hstage : s.ctl.joinStage.isSome = false := by
    rw [← Bool.not_eq_true, h.control.stage, hs]
    simp
  have hfresh : s.ctl.freshOwed ≠ true := fun hf => (h.control.fresh hf).1 hs
  have hleft := h.setCtl (c := { s.ctl with state := .leaving, draining := true })
    (p := fun q => q.onLine = false ∧ (q.frame.place = .bid ∨ q.frame.place = .lapse)) (w := True)
    (s.keeps_ctl _ (by simp) (.inr (.inl (by simp [hs]))) (by simp)).toKeepsBlocks
    ⟨by simp [State.station, hstage], by simp [State.station], h.control.window, fun hf => absurd hf hfresh,
      by simp [State.station], by simp [State.station], fun _ => .inl trivial, fun _ => h.control.addressed (by simp [hs]),
      fun hr => absurd (h.control.reset hr) (by simp [hs])⟩
    fun q _ hst => by
      have hst := hst.resolve_left fun hf => hf
      cases hp : q.frame.place with
      | identity i => exact .inr ((State.standsFor_identity hp).2 ((State.standsFor_identity (s := s) hp).1 hst))
      | held i => exact .inr ((State.standsFor_held hp).2 ((State.standsFor_held (s := s) hp).1 hst))
      | join => exact .inr ((State.standsFor_join hp).2 ((State.standsFor_join (s := s) hp).1 hst))
      | bid =>
        cases honLine : q.onLine with
        | false => exact .inl ⟨rfl, .inl rfl⟩
        | true =>
          exact .inr ((State.standsFor_bid hp).2 ⟨.inr ⟨rfl, honLine⟩, ((State.standsFor_bid (s := s) hp).1 hst).2⟩)
      | lapse =>
        cases honLine : q.onLine with
        | false => exact .inl ⟨rfl, .inr rfl⟩
        | true => exact .inr ((State.standsFor_lapse hp).2 (.inr ⟨rfl, honLine⟩))
  have hpurged := ((hleft.removeFrame (p := .bid) (by simp)).removeFrame (p := .lapse) (by simp)).reframe
    (p := fun _ => False) fun q hq hk => by
      obtain ⟨hq, hlapse⟩ := State.mem_removeFrame.1 hq
      obtain ⟨-, hbid⟩ := State.mem_removeFrame.1 hq
      obtain ⟨hoff, hp | hp⟩ := hk
      · rw [hbid hp] at hoff
        cases hoff
      · rw [hlapse hp] at hoff
        cases hoff
  obtain ⟨hreleased, hawaiting⟩ := hpurged.foldl_release _ (fun _ hr => hr) h.held.ids fun _ hr _ => hr
  exact (hreleased.settleAwaiting hawaiting).mono ⟨fun _ hf => hf, fun _ hf => hf, fun _ hf => hf, fun _ hf => hf, fun hf => hf⟩

/-- R150: entry to LEAVING, from ACTIVE. -/
theorem State.LawUpTo.enterLeaving {s : State} (h : s.LawUpTo .none) (hs : s.station = .active) :
    s.enterLeaving.LawUpTo .none := by
  rw [State.enterLeaving_eq]
  refine (State.LawUpTo.foldl_leave _ (h.leavingStarted hs) s.takesPosts_leavingStarted (fun _ hr => hr) ?_).testDrain
  rw [State.leavingStarted_origin]
  exact h.blocks.origin.2

theorem State.LawUpTo.answerLeave {s : State} (h : s.LawUpTo .none) : s.answerLeave.after.LawUpTo .none := by
  unfold State.answerLeave
  split
  · rename_i hs; exact h.enterLeaving hs
  · exact h

end Sys2Proof.Machine
end

section
/-! SUPPORT. The law at the remaining commands and at a bit time, and that every step keeps the whole law. -/

namespace Sys2Proof.Machine

/-! ### Configuration and station states -/

/-- R162, R164: in CONFIG the configuration is changed, within the range of its service slots. -/
theorem State.LawUpTo.setConfig {s : State} (h : s.LawUpTo .none) (hs : s.station = .config) {c : Configuration}
    (h1 : 1 ≤ c.slots) (h4 : c.slots ≤ 4) : State.LawUpTo .none { s with config := c } := by
  obtain ⟨htable, hheld, horigin, hnotices⟩ := h.control.config hs
  obtain ⟨hqueue, himage⟩ := h.quiet (.inl hs)
  refine ⟨h.blocks.of_keeps (s.keeps_config c hs).toKeepsBlocks, ⟨h1, h4, by simp [hheld], h.held.ids, by simp [hheld]⟩,
    ⟨by simp [htable], by simp [horigin], by simp [horigin], h.own.pending⟩,
    ⟨by simp [hnotices], by simp [horigin], h.notices.unread⟩,
    ⟨h.control.stage, h.control.draining, h.control.window, h.control.fresh, h.control.config, h.control.detached,
      h.control.leaving, fun hc => absurd hs hc, h.control.reset⟩, by simp [hqueue], ?_⟩
  have himage' := h.image
  simp only [State.imageMatches, State.frameOnLine, himage, hqueue] at himage' ⊢
  exact himage'

theorem setupOperands_slots {body : List Byte} {a : Address} {rate : BitVec 2} {slots : Nat}
    (h : setupOperands body = some (a, rate, slots)) : 1 ≤ slots ∧ slots ≤ 4 := by
  unfold setupOperands at h
  split at h
  · split at h
    · rename_i hrange
      simp only [Option.some.injEq, Prod.mk.injEq] at h
      omega
    · cases h
  · cases h

theorem State.LawUpTo.answerSetup {s : State} (h : s.LawUpTo .none) (body : List Byte) :
    (s.answerSetup body).after.LawUpTo .none := by
  unfold State.answerSetup
  split
  · rename_i hs
    split
    · rename_i hbody
      obtain ⟨h1, h4⟩ := setupOperands_slots hbody
      exact h.setConfig hs h1 h4
    · exact h
  · exact h

theorem State.LawUpTo.answerClass {s : State} (h : s.LawUpTo .none) (body : List Byte) :
    (s.answerClass body).after.LawUpTo .none := by
  unfold State.answerClass
  split
  · rename_i hs
    split
    · exact h.setConfig hs h.held.one_le h.held.le_four
    · exact h
  · exact h

/-- R143: entry to LISTEN, from a state in which the Frame Queue is empty. -/
theorem State.LawUpTo.toListen {s : State} (h : s.LawUpTo .none)
    (hs : s.station = .config ∨ s.station = .detached ∨ s.station = .mute) (hreset : s.inReset = false)
    (haddress : s.config.address.isSome = true) {fresh : Bool} (hfresh : fresh = true → ∀ r ∈ s.origin, r.isClosed = true)
    {l : Liu} (hb : s.KeepsBlocks { s with
      ctl := { s.ctl with state := .listen, freshOwed := fresh, joinStage := some .idleWait, draining := false }, liu := l }) :
    State.LawUpTo .none { s with
      ctl := { s.ctl with state := .listen, freshOwed := fresh, joinStage := some .idleWait, draining := false }, liu := l } := by
  obtain ⟨hqueue, -⟩ := h.quiet hs
  refine ⟨h.blocks.of_keeps hb, ⟨h.held.one_le, h.held.le_four, h.held.length_le, h.held.ids, h.held.claims⟩,
    ⟨h.own.entries, h.own.records, h.own.raises, h.own.pending⟩, ⟨h.notices.named, h.notices.finals, h.notices.unread⟩,
    ⟨by simp [State.station], by simp [State.station], by simp,
      fun hf => ⟨by simp [State.station], by simp [State.station], hfresh hf⟩, by simp [State.station],
      by simp [State.station], by simp [State.station], fun _ => haddress, fun hr => absurd hr (by simp [hreset])⟩,
    by simp [hqueue], h.image⟩

theorem State.LawUpTo.answerStart {s : State} (h : s.LawUpTo .none) (hreset : s.inReset = false) :
    s.answerStart.after.LawUpTo .none := by
  have hb := s.keeps_answerStart.toKeepsBlocks
  unfold State.answerStart at hb ⊢
  split at hb
  · rename_i hc
    rw [if_pos hc]
    exact h.toListen (.inl hc.1) hreset hc.2 (fun _ => by simp [(h.control.config hc.1).2.2.1]) hb
  · rename_i hc
    rw [if_neg hc]
    exact h

theorem State.LawUpTo.answerRejoin {s : State} (h : s.LawUpTo .none) : s.answerRejoin.after.LawUpTo .none := by
  have hnot : s.station ≠ .config → s.inReset = false := fun hs => by
    rw [← Bool.not_eq_true]
    exact fun hr => hs (h.control.reset hr)
  unfold State.answerRejoin
  split
  case h_1 hs =>
    have hctl := State.keeps_ctl { s with liu := { s.liu with failures := 0, startUpIdle := 0 } }
      { s.ctl with state := .listen, joinStage := some .idleWait, draining := false } (by simp)
      (.inr (.inr (by simp [Config.failureLimit]))) (by simp)
    have hliu : s.Keeps { s with liu := { s.liu with failures := 0, startUpIdle := 0 } } :=
      s.keeps_liu _ (.inr rfl) fun h => ⟨Nat.zero_le _, h.2.1, h.2.2.1, h.2.2.2⟩
    exact (h.toListen (.inr (.inr hs)) (hnot (by simp [hs])) (h.control.addressed (by simp [hs]))
      (fun hf => (h.control.fresh hf).2.2) (hliu.trans hctl).toKeepsBlocks).repostWithdraws
  case h_2 hs =>
    have hliu : s.Keeps { s with liu := { s.liu with failures := 0 }.release } :=
      s.keeps_liu _ (.inr rfl) fun _ => Liu.countsIn_release _
    exact h.toListen (.inr (.inl hs)) (hnot (by simp [hs])) (h.control.addressed (by simp [hs]))
      (fun _ => (h.control.detached hs).2.2)
      (hliu.trans (State.keeps_ctl _ _ (by simp) (.inr (.inr (by simp [Config.failureLimit]))) (by simp))).toKeepsBlocks
  all_goals exact h

theorem State.LawUpTo.processRestart {s : State} (h : s.LawUpTo .none) (body : List Byte) :
    (s.processRestart body).LawUpTo .none := by
  have hb := (s.keeps_processRestart body).toKeepsBlocks
  unfold State.processRestart at hb ⊢
  split at hb
  · rename_i hc
    rw [if_pos hc]
    exact h.complete _ _ _
  rename_i hc
  rw [if_neg hc]
  split at hb
  · rename_i himage
    rw [if_pos himage]
    exact h.restartNow hc
  · rename_i himage
    rw [if_neg himage]
    exact h.congr hb rfl rfl ⟨rfl, rfl, rfl, rfl⟩ rfl rfl rfl rfl rfl rfl

/-- R173, R174: a request keeps the law when its owner's answer does. -/
theorem State.LawUpTo.request {s : State} (h : s.LawUpTo .none) (code : Byte) (body : List Byte) {owner : State → Answer}
    (howner : s.inReset = false → (owner s).after.LawUpTo .none) : (s.request code body owner).LawUpTo .none := by
  unfold State.request
  split
  · rename_i hp
    split
    · exact (howner (by simpa [State.processes] using (of_decide_eq_true hp).1)).complete _ _ _
    · exact h.complete _ _ _
  · exact h

/-! ### Timers -/

theorem claimedBy_map {t : List Entry} {g : Entry → Entry} (hid : ∀ e, (g e).id = e.id)
    (hattempt : ∀ e, (g e).attempt = e.attempt) (hclaim : ∀ e, (g e).claim.map Claim.claimant = e.claim.map Claim.claimant)
    (id : Identity) (me : Address) (a : Attempt) : claimedBy (t.map g) id me a = claimedBy t id me a := by
  have hfind : findEntry (t.map g) id = (findEntry t id).map g := by
    simp only [findEntry, List.find?_map, Function.comp_def, hid]
  unfold claimedBy
  rw [hfind]
  cases findEntry t id <;> simp [hattempt, hclaim]

/-- R11: a change of timers and marks, entry by entry. -/
theorem State.LawUpTo.mapTable {s : State} (h : s.LawUpTo .none) {g : Entry → Entry} (hid : ∀ e, (g e).id = e.id)
    (hattempt : ∀ e, (g e).attempt = e.attempt) (hclaim : ∀ e, (g e).claim.map Claim.claimant = e.claim.map Claim.claimant)
    (hb : s.Keeps { s with table := s.table.map g }) : State.LawUpTo .none { s with table := s.table.map g } := by
  cases hs : s.liuHeld with
  | true =>
    have htable : s.table = [] := by
      simp only [State.liuHeld, decide_eq_true_eq] at hs
      rcases hs with hs | hs
      · exact (h.control.config hs).1
      · exact (h.control.detached hs).1
    exact h.congr hb.toKeepsBlocks rfl rfl ⟨rfl, rfl, rfl, rfl⟩ (by simp [htable]) rfl rfl rfl rfl rfl
  | false =>
    refine h.setTable _ hs hb.table (fun e he _ => .inr ?_) (fun _ e he _ => .inr ⟨g e, List.mem_map_of_mem he, hid e⟩)
      (fun id a hc => .inr (by rw [claimedBy_map hid hattempt hclaim]; exact hc)) Slack.Within.rfl
    obtain ⟨x, hx, rfl⟩ := List.mem_map.1 he
    exact ⟨x, hx, (hid x).symm⟩

theorem Entry.tick_attempt (me : Address) (e : Entry) : (e.tick me).attempt = e.attempt := by
  unfold Entry.tick
  split
  · rfl
  · split <;> rfl

theorem Entry.tick_claimant (me : Address) (e : Entry) : (e.tick me).claim.map Claim.claimant = e.claim.map Claim.claimant := by
  unfold Entry.tick
  split
  · rfl
  · rename_i c hc
    split <;> simp [hc]

theorem Entry.runOut_attempt (me : Address) (e : Entry) : (e.runOut me).attempt = e.attempt := by
  unfold Entry.runOut
  split <;> rfl

theorem Entry.runOut_claimant (me : Address) (e : Entry) :
    (e.runOut me).claim.map Claim.claimant = e.claim.map Claim.claimant := by
  unfold Entry.runOut
  split
  · rfl
  · rename_i c hc
    simp [hc]

theorem State.LawUpTo.foldl_expiry {k : Slack} (l : List Report) :
    ∀ {s : State}, s.LawUpTo k → (l.foldl State.deliverExpiry s).LawUpTo k := by
  induction l with
  | nil => exact fun h => h
  | cons r l ih =>
    intro s h
    refine ih ?_
    cases r with
    | expired id a => exact h.noticeDeadline id a
    | _ => exact h

theorem State.LawUpTo.deadlineTick {s : State} (h : s.LawUpTo .none) : s.deadlineTick.LawUpTo .none := by
  have htick : s.Keeps { s with table := s.table.map (Entry.tick s.address) } := by
    refine s.keeps_table _ fun ht => ⟨by simpa using ht.1, ?_⟩
    simpa [Function.comp_def] using ht.2
  have hticked := h.mapTable (Entry.tick_id s.address) (Entry.tick_attempt s.address) (Entry.tick_claimant s.address) htick
  have hzero : State.LawUpTo .none { s with table := s.table.map (Entry.tick s.address), divider := 0 } :=
    hticked.congr (State.keeps_rest _ _ _ 0 _ _ _ rfl).toKeepsBlocks rfl rfl ⟨rfl, rfl, rfl, rfl⟩ rfl rfl rfl rfl rfl rfl
  exact (hzero.foldl_expiry _).remakeLapse

theorem State.LawUpTo.runOutAt {s : State} (h : s.LawUpTo .none) (id : Identity) : (s.runOutAt id).LawUpTo .none := by
  refine h.mapTable (g := fun e => if e.id = id then e.runOut s.address else e) (fun e => ?_) (fun e => ?_) (fun e => ?_)
    (s.keeps_runOutAt id)
  · split
    · exact e.runOut_id _
    · rfl
  · split
    · exact e.runOut_attempt _
    · rfl
  · split
    · exact e.runOut_claimant _
    · rfl

theorem State.LawUpTo.setDivider {s : State} (h : s.LawUpTo .none) (d : Nat) : State.LawUpTo .none { s with divider := d } :=
  h.congr (s.keeps_rest _ _ d _ _ _ rfl).toKeepsBlocks rfl rfl ⟨rfl, rfl, rfl, rfl⟩ rfl rfl rfl rfl rfl rfl

theorem State.LawUpTo.advanceClock {s : State} (h : s.LawUpTo .none) : s.advanceClock.LawUpTo .none := by
  unfold State.advanceClock
  dsimp only
  split
  · exact h.deadlineTick.setDivider _
  · exact h.setDivider _

/-! ### A bit time -/

theorem State.LawUpTo.sendBit {s : State} (h : s.LawUpTo .none) : s.sendBit.LawUpTo .none := by
  unfold State.sendBit
  split
  · exact h
  split
  · exact h
  · rename_i b _
    have hsampled := h.sampleLine b
    dsimp only
    split
    · exact hsampled.setLiu (State.keeps_liu_of_failures (by rfl) fun h => Liu.countsIn_sent h _ _).toKeepsBlocks
    · exact hsampled

theorem State.LawUpTo.lineBit {s : State} (h : s.LawUpTo .none) : s.lineBit.LawUpTo .none := by
  unfold State.lineBit
  split
  · exact h
  split
  · exact h.quietSample
  · exact h.quietSample
  · exact h.quietSample
  · exact h.sendBit
  · exact h.sendBit
  · exact h
  · exact h

theorem State.LawUpTo.bitTime {s : State} (h : s.LawUpTo .none) : s.bitTime.LawUpTo .none := by
  unfold State.bitTime
  split
  · exact h
  split
  · rename_i hr; exact h.startFrame hr.2.2
  · exact h.advanceClock.lineBit

/-! ### Commands -/

theorem State.LawUpTo.setPort {s : State} (h : s.LawUpTo .none) {p : Port} (hb : s.Keeps { s with port := p }) :
    State.LawUpTo .none { s with port := p } :=
  h.congr hb.toKeepsBlocks rfl rfl ⟨rfl, rfl, rfl, rfl⟩ rfl rfl rfl rfl rfl rfl

theorem State.LawUpTo.spanNowhere {s : State} (h : s.LawUpTo .none) (bits : List Bool) (accept : Level) :
    (s.spanNowhere bits accept).LawUpTo .none := by
  have hedge : s.Keeps { s with liu := { s.liu.atEdge with phase := .receiving } } :=
    State.keeps_liu_of_failures rfl fun h => ⟨h.1, h.2.1, Nat.zero_le _, h.2.2.2⟩
  have hwatched := (h.setLiu hedge.toKeepsBlocks).watch bits
  unfold State.spanNowhere
  dsimp only
  split
  · exact hwatched
  · exact hwatched.peerNowhere _ _

theorem State.LawUpTo.peerRefused {s : State} (h : s.LawUpTo .none) : s.peerRefused.LawUpTo .none := by
  unfold State.peerRefused
  split
  · dsimp only
    split
    · exact h.meets
    · exact h.meets.objectedSlots _ _ _
  · exact h.watch _

theorem State.LawUpTo.startAlone {s : State} (h : s.LawUpTo .none) : s.startAlone.LawUpTo .none := by
  unfold State.startAlone
  split
  · rename_i hr; exact h.startFrame hr.2.2
  · exact h

/-- R175: an edge of SEL. -/
theorem State.LawUpTo.selFalling {s t : State} (h : s.LawUpTo .none) (ht : exec .selFallingEdge s = .next t) :
    t.LawUpTo .none := by
  cases ht
  split
  · exact h
  split
  · exact h.setPort (s.keeps_port _ fun hp => ⟨hp.1, fun _ => rfl⟩)
  · exact h.setPort (s.keeps_port _ fun hp => Port.fall_keeps hp.1)

/-- Every command but a pin reset keeps the agreement of the blocks. -/
theorem State.LawUpTo.exec {c : Instr} (hc : c ≠ .pinReset) {s t : State} (h : s.LawUpTo .none)
    (ht : Machine.exec c s = .next t) : t.LawUpTo .none := by
  cases c
  case selFallingEdge => exact h.selFalling ht
  all_goals cases ht
  case pinReset => exact absurd rfl hc
  case selRisingEdge bytes =>
    split
    · exact h.setPort (s.keeps_port _ fun hp => Port.rise_keeps hp.1 bytes)
    · exact h
  case malformed bytes =>
    split
    · split
      · exact h.complete _ _ _
      · exact h
    · exact h
  case nop body => exact h.request _ _ fun _ => h
  case setup body => exact h.request _ _ fun _ => h.answerSetup body
  case classPage body => exact h.request _ _ fun _ => h.answerClass body
  case start body => exact h.request _ _ h.answerStart
  case raiseRequest body => exact h.request _ _ fun _ => h.answerRaise body
  case withdrawRequest body => exact h.request _ _ fun _ => h.answerWithdraw body
  case take body => exact h.request _ _ fun _ => h.answerTake
  case finishRequest body => exact h.request _ _ fun _ => h.answerFinish body
  case releaseRequest body => exact h.request _ _ fun _ => h.answerRelease body
  case notice body => exact h.request _ _ fun _ => h.answerNotice
  case status body => exact h.request _ _ fun _ => h
  case lookup body =>
    refine h.request _ _ fun _ => ?_
    unfold State.answerLookup
    (repeat' split) <;> exact h
  case find body =>
    refine h.request _ _ fun _ => ?_
    unfold State.answerFind
    (repeat' split) <;> exact h
  case leave body => exact h.request _ _ fun _ => h.answerLeave
  case rejoin body => exact h.request _ _ fun _ => h.answerRejoin
  case restart body =>
    split
    · split
      · exact h.processRestart _
      · exact h.complete _ _ _
    · exact h
  case restartProceeds =>
    split
    · rename_i hr; exact h.restartNow hr.2.1
    · exact h
  case deadlineTick =>
    split
    · exact h
    · exact h.deadlineTick
  case claimantExpiry id =>
    split
    · exact h
    · split
      · exact (h.runOutAt id).noticeDeadline _ _
      · exact h
  case expiredMark id =>
    split
    · exact h
    · split
      · exact (h.runOutAt id).remakeLapse
      · exact h
  case frameStart edge =>
    split
    · exact h.startAlone
    · exact h.edge
  case raiseFrame => exact h.frame _ _
  case bidFrame => exact h.frame _ _
  case finishFrame => exact h.frame _ _
  case releaseFrame => exact h.frame _ _
  case lapseFrame => exact h.frame _ _
  case withdrawFrame => exact h.frame _ _
  case freshJoin => exact h.frame _ _
  case join => exact h.frame _ _
  case restateFrame => exact h.frame _ _
  case frameRefused =>
    split
    · exact h
    split
    · rename_i img himage
      exact h.ownObjected (by simp [himage]) _ _ _
    · exact h.peerRefused
  case frameCorrupted ending =>
    split
    · exact h
    · rename_i img himage
      split
      · exact h.ownObjected (by simp [himage]) _ _ _
      · exact h.ownRun (by simp [himage])
  case arbitrationLost =>
    split
    · rename_i hl; exact h.loseArbitration hl.2
    · exact h
  case stuckLine => exact h.stuckLine
  case recoveryComplete => exact h.recoveryComplete
  case spacingComplete => exact h.spacingComplete
  case startUpIdle =>
    split
    · exact (h.spacingComplete.setLiu (State.keeps_startUpIdle _).toKeepsBlocks).startUpReached
    · exact h
  case joinWindowEnd =>
    split
    · exact (h.spacingComplete.setLiu (State.keeps_idleFull _).toKeepsBlocks).idleReached
    · exact h
  case leaveDrainComplete => exact h.testDrain
  case frameTakenNowhere bits accept =>
    split
    · exact h
    split
    · dsimp only
      split
      · exact h.meets
      · exact h.meets.spanNowhere _ _
    · exact h.watch _
  case endOfPinReset =>
    split
    · have hcontrol := h.control
      exact ⟨h.blocks.of_keeps (s.keeps_rest _ _ _ _ _ _ rfl).toKeepsBlocks,
        ⟨h.held.one_le, h.held.le_four, h.held.length_le, h.held.ids, h.held.claims⟩,
        ⟨h.own.entries, h.own.records, h.own.raises, h.own.pending⟩,
        ⟨h.notices.named, h.notices.finals, h.notices.unread⟩,
        ⟨hcontrol.stage, hcontrol.draining, hcontrol.window, hcontrol.fresh, hcontrol.config, hcontrol.detached,
          hcontrol.leaving, hcontrol.addressed, by simp⟩, h.frames, h.image⟩
    · exact h

/-- Settles O56: no change of a step leaves the agreement of the blocks open at its end. -/
theorem stepKeepsWholeLaw : Obligations.StepKeepsWholeLaw := by
  intro s t hs hstep
  refine step_keeps (P := State.Lawful) (fun u rest hu => ?_) (fun u hu => ?_) (fun c u v hu hexec => ?_) hs hstep
  · exact State.LawUpTo.lawful (s := { u with pending := rest })
      (hu.lawUpTo.congr (u.keeps_rest rest _ _ _ _ _ rfl).toKeepsBlocks rfl rfl ⟨rfl, rfl, rfl, rfl⟩ rfl rfl rfl rfl rfl rfl)
      hu.2.2.1
  · exact hu.lawUpTo.bitTime.lawful (u.keeps_bitTime.standing hu.2.2.1)
  · by_cases hc : c = .pinReset
    · subst hc
      cases hexec
      exact u.lawful_pinReset
    · exact (hu.lawUpTo.exec hc hexec).lawful ((keeps_exec hc hexec).standing hu.2.2.1)

end Sys2Proof.Machine
end


section
/-! SUPPORT. The requests of the host that read a choice already made: TAKE (R107), START and REJOIN (R142, R153), and the
bounds that the law puts on the queues. -/

namespace Sys2Proof.Machine

/-! ### TAKE -/

theorem exec_take {s : State} {body : List Byte} (h : s.inProcessing 0x06 body) :
    exec (.take body) s = .next (s.answerTake.after.replied 0x06 s.answerTake.outcome s.answerTake.body) :=
  congrArg Host.Outcome.next (State.request_of_inProcessing h _)

theorem State.answerTake_of_config {s : State} (h : s.station = .config) : s.answerTake = s.answers .state :=
  if_pos h

theorem State.answerTake_of_no_offer {s : State} (h : s.station ≠ .config) (hoffer : s.offer = none) :
    s.answerTake = s.answers .empty := by
  simp only [State.answerTake, if_neg h, hoffer]

theorem State.answerTake_of_offer {s : State} {r : HeldRecord} {e : Entry} (h : s.station ≠ .config)
    (hoffer : s.offer = some r) (he : findEntry s.table r.id = some e) :
    s.answerTake =
      { after := (s.setHeld r.id fun r => { r with state := .inService }).remakeBid
        outcome := .ok, body := e.takeBytes } := by
  simp only [State.answerTake, if_neg h, hoffer, he]

/-- Settles O11. -/
theorem takeServesTheOffer : Obligations.TakeServesTheOffer := by
  unfold Obligations.TakeServesTheOffer
  intro s body h
  refine ⟨fun hs => ?_, fun hs hoffer => ?_, fun r e hs hoffer he => ?_⟩
  · rw [exec_take h, State.answerTake_of_config hs]
    rfl
  · rw [exec_take h, State.answerTake_of_no_offer hs hoffer]
    rfl
  · rw [exec_take h, State.answerTake_of_offer hs hoffer he]
    rfl

/-! ### START and REJOIN -/

theorem exec_start {s : State} {body : List Byte} (h : s.inProcessing 0x03 body) :
    exec (.start body) s = .next (s.answerStart.after.replied 0x03 s.answerStart.outcome s.answerStart.body) :=
  congrArg Host.Outcome.next (State.request_of_inProcessing h _)

theorem exec_rejoin {s : State} {body : List Byte} (h : s.inProcessing 0x0E body) :
    exec (.rejoin body) s = .next (s.answerRejoin.after.replied 0x0E s.answerRejoin.outcome s.answerRejoin.body) :=
  congrArg Host.Outcome.next (State.request_of_inProcessing h _)

theorem State.answerStart_of_not_ready {s : State} (h : s.station ≠ .config ∨ s.config.address = none) :
    s.answerStart = s.answers .state := by
  refine if_neg fun ⟨hs, haddress⟩ => ?_
  obtain hne | hnone := h
  · exact hne hs
  · simp [hnone] at haddress

theorem State.answerStart_of_ready {s : State} (h : s.station = .config) (haddress : s.config.address ≠ none) :
    s.answerStart = State.okAfter
      { s with
        ctl := { s.ctl with state := .listen, freshOwed := true, joinStage := some .idleWait, draining := false }
        liu := s.liu.release } :=
  if_pos ⟨h, Option.isSome_iff_ne_none.mpr haddress⟩

theorem State.answerRejoin_of_other {s : State} (hm : s.station ≠ .mute) (hd : s.station ≠ .detached) :
    s.answerRejoin = s.answers .state := by
  unfold State.answerRejoin
  split <;> simp_all

theorem State.answerRejoin_of_detached {s : State} (h : s.station = .detached) :
    s.answerRejoin = State.okAfter
      { s with
        ctl := { s.ctl with state := .listen, freshOwed := true, joinStage := some .idleWait, draining := false }
        liu := { s.liu with failures := 0 }.release } := by
  simp only [State.answerRejoin, h]

/-- One record of R138's posting of the WITHDRAWs owed. -/
def State.repostWithdraw (s : State) (r : OriginRecord) : State :=
  if r.state = .withdrawing ∧ framePlaced s.queue (.identity (s.ownId r.serial)) = none then s.postWithdraw r.serial
  else s

/-- The WITHDRAW of this station's event of a serial, at the priority of its entry (R132). -/
def State.withdrawOf (s : State) (n : Serial) : QueuedFrame :=
  { frame := .withdraw (s.ownId n) (((findEntry s.table (s.ownId n)).map Entry.priority).getD 0), onLine := false }

theorem State.repostWithdraw_of_owed {s : State} {r : OriginRecord} (ht : s.takesPosts = true)
    (hst : r.state = .withdrawing) (hp : framePlaced s.queue (.identity (s.ownId r.serial)) = none) :
    s.repostWithdraw r = { s with queue := s.queue ++ [s.withdrawOf r.serial] } := by
  rw [State.repostWithdraw, if_pos ⟨hst, hp⟩]
  exact State.post_of_empty ht hp

theorem State.repostWithdraw_of_other {s : State} {r : OriginRecord} (hst : r.state ≠ .withdrawing) :
    s.repostWithdraw r = s :=
  if_neg fun h => hst h.1

theorem framePlaced_append_of_ne {q : List QueuedFrame} {g : QueuedFrame} {p : Place}
    (hq : framePlaced q p = none) (hg : g.frame.place ≠ p) : framePlaced (q ++ [g]) p = none := by
  rw [framePlaced_none] at hq ⊢
  intro x hx
  obtain hx | hx := List.mem_append.mp hx
  · exact hq x hx
  · rwa [List.mem_singleton.mp hx]

theorem State.foldl_repostWithdraw (l : List OriginRecord) : ∀ {s : State}, s.takesPosts = true →
    (l.map OriginRecord.serial).Nodup →
    (∀ r ∈ l, framePlaced s.queue (.identity (s.ownId r.serial)) = none) →
    l.foldl State.repostWithdraw s =
      { s with queue := s.queue ++ (l.filter fun r => r.state = .withdrawing).map fun r => s.withdrawOf r.serial } := by
  induction l with
  | nil => simp
  | cons r l ih =>
    intro s ht hn hp
    obtain ⟨hfresh, hn⟩ := List.nodup_cons.mp hn
    by_cases hst : r.state = .withdrawing
    · rw [List.foldl_cons, State.repostWithdraw_of_owed ht hst (hp r List.mem_cons_self)]
      refine (ih (by exact ht) hn fun x hx => framePlaced_append_of_ne (hp x (List.mem_cons_of_mem _ hx)) ?_).trans ?_
      · intro heq
        exact hfresh (List.mem_map.mpr ⟨x, hx, (State.ownId_inj (Place.identity.inj heq)).symm⟩)
      · simp only [hst, decide_true, List.filter_cons_of_pos, List.map_cons, List.append_assoc,
          List.singleton_append]
        rfl
    · rw [List.foldl_cons, State.repostWithdraw_of_other hst, ih ht hn fun x hx => hp x (List.mem_cons_of_mem _ hx)]
      simp [hst]

theorem State.repostWithdraws_of_empty {s : State} (ht : s.takesPosts = true)
    (hn : (s.origin.map OriginRecord.serial).Nodup) (hq : s.queue = []) :
    s.repostWithdraws =
      { s with queue := (s.origin.filter fun r => r.state = .withdrawing).map fun r => s.withdrawOf r.serial } := by
  refine (State.foldl_repostWithdraw s.origin ht hn fun r _ => ?_).trans ?_
  · rw [hq]
    rfl
  · rw [hq, List.nil_append]

/-- R132: the WITHDRAW of a WITHDRAWING record carries the priority of its entry, which is present (R125). -/
theorem State.Lawful.withdrawOf_of_inPool {s : State} (h : s.Lawful) {r : OriginRecord} (hr : r ∈ s.origin)
    (hp : r.inPool = true) :
    ∃ e ∈ s.table, e.id = s.ownId r.serial ∧ s.withdrawOf r.serial = { frame := .withdraw e.id e.priority, onLine := false } := by
  obtain ⟨htable, -, -, -, -, ⟨-, hentries, -⟩, -⟩ := h
  obtain ⟨e, he, hid⟩ := hentries r hr hp
  exact ⟨e, he, hid, by simp [State.withdrawOf, ← hid, findEntry_of_mem htable.2 he]⟩

theorem State.answerRejoin_of_mute {s : State} (hlaw : s.Lawful) (h : s.station = .mute) :
    s.answerRejoin = State.okAfter
      { s with
        ctl := { s.ctl with state := .listen, joinStage := some .idleWait }
        liu := { s.liu with failures := 0, startUpIdle := 0 }
        queue := (s.origin.filter fun r => r.state = .withdrawing).map fun r => s.withdrawOf r.serial } := by
  obtain ⟨-, -, ⟨-, -, hquiet⟩, ⟨-, hserials⟩, -, -, -, ⟨-, hdraining, -⟩, -⟩ := hlaw
  have hdraining : s.ctl.draining = false := by simpa [h] using hdraining
  have hpost := State.repostWithdraws_of_empty (s := { s with liu := { s.liu with failures := 0 } }.enterListen) rfl
    hserials (hquiet (.inr (.inr h))).1
  simp only [State.answerRejoin, h]
  rw [hpost]
  simp only [State.enterListen, hdraining]
  rfl

/-- Settles O7. -/
theorem startAndRejoinEnterListen : Obligations.StartAndRejoinEnterListen := by
  unfold Obligations.StartAndRejoinEnterListen
  intro s body
  refine ⟨fun h => ⟨fun hs => ?_, fun hs haddress => ?_⟩, fun hlaw h => ⟨fun hm hd => ?_, fun hd => ?_, fun hm => ?_⟩⟩
  · rw [exec_start h, State.answerStart_of_not_ready hs]
    rfl
  · rw [exec_start h, State.answerStart_of_ready hs haddress]
    rfl
  · rw [exec_rejoin h, State.answerRejoin_of_other hm hd]
    rfl
  · have hdraining : s.ctl.draining = false := by
      obtain ⟨-, -, -, -, -, -, -, ⟨-, hdraining, -⟩, -⟩ := hlaw
      simpa [hd] using hdraining
    rw [exec_rejoin h, State.answerRejoin_of_detached hd]
    simp only [State.okAfter, hdraining]
    rfl
  · refine ⟨_, exec_rejoin h, ?_⟩
    rw [State.answerRejoin_of_mute hlaw hm]
    refine ⟨rfl, List.map_map, fun q hq => ?_⟩
    obtain ⟨r, hr, rfl⟩ := List.mem_map.mp hq
    obtain ⟨hr, hst⟩ := List.mem_filter.mp hr
    obtain ⟨e, he, -, heq⟩ := State.Lawful.withdrawOf_of_inPool hlaw hr
      (by simp [OriginRecord.inPool, of_decide_eq_true hst])
    exact ⟨e, he, congrArg QueuedFrame.frame heq⟩

end Sys2Proof.Machine
end


section
/-! SUPPORT. The requests that settle held records: NOTICE (R186), FINISH and RELEASE (R108, R109). -/

namespace Sys2Proof.Machine

/-! ### NOTICE -/

theorem exec_notice {s : State} {body : List Byte} (h : s.inProcessing 0x09 body) :
    exec (.notice body) s = .next (s.answerNotice.after.replied 0x09 s.answerNotice.outcome s.answerNotice.body) :=
  congrArg Host.Outcome.next (State.request_of_inProcessing h _)

theorem State.answerNotice_of_empty {s : State} (h : s.notices = []) : s.answerNotice = s.answers .empty := by
  simp only [State.answerNotice, h]

theorem State.answerNotice_of_cons {s : State} {n : Notice} {rest : List Notice} (h : s.notices = n :: rest) :
    s.answerNotice =
      { after := { s with notices := rest }.reportPop n, outcome := .ok, body := n.bytes s.station } := by
  simp only [State.answerNotice, h]

theorem State.reportPop_of_final {n : Notice} {id : Identity} (h : n.finalFor id = true) (s : State) :
    s.reportPop n = s.popOrigin id.serial := by
  cases n <;> simp [Notice.finalFor] at h <;> rw [← h] <;> rfl

theorem State.reportPop_of_held {n : Notice} {id : Identity} (h : n.deadlineFor id = true ∨ n.revokedFor id = true)
    (s : State) : s.reportPop n = s.popHeld id := by
  cases n <;> simp [Notice.deadlineFor, Notice.revokedFor] at h <;> rw [← h] <;> rfl

theorem State.heldRecord_setHeld (s : State) (id : Identity) {f : HeldRecord → HeldRecord}
    (hf : ∀ r, (f r).id = r.id) : (s.setHeld id f).heldRecord id = (s.heldRecord id).map f := by
  have htest : ((fun r : HeldRecord => decide (r.id = id)) ∘ fun r => if r.id = id then f r else r)
      = fun r => decide (r.id = id) := by
    funext r
    simp only [Function.comp_apply]
    split <;> simp [hf]
  simp only [State.heldRecord, State.setHeld, List.find?_map, htest]
  cases hr : s.held.find? fun r => decide (r.id = id) with
  | none => rfl
  | some r => simpa using fun hne => absurd (by simpa using List.find?_some hr) hne

theorem State.freeHeld_setHeld (s : State) (id : Identity) {f : HeldRecord → HeldRecord}
    (hf : ∀ r, (f r).id = r.id) : (s.setHeld id f).freeHeld id = s.freeHeld id := by
  simp only [State.freeHeld, State.setHeld, State.mk.injEq, and_true, true_and, List.filter_map]
  have htest : ((fun r : HeldRecord => decide ¬ r.id = id) ∘ fun r => if r.id = id then f r else r)
      = fun r => decide ¬ r.id = id := by
    funext r
    simp only [Function.comp_apply]
    split <;> simp [hf]
  rw [htest]
  refine (List.map_congr_left fun r hr => ?_).trans (List.map_id _)
  simpa using fun heq => absurd heq (by simpa using (List.mem_filter.mp hr).2)

/-- R117: a held record with one unread notice fewer. -/
abbrev readOne (r : HeldRecord) : HeldRecord := { r with unread := r.unread - 1 }

section
variable {s : State} {r : HeldRecord} (hn : (s.held.map HeldRecord.id).Nodup) (hr : r ∈ s.held)
include hn hr

/-- R117: the pop of the last unread notice of a CLOSED record frees its place. -/
theorem State.popHeld_of_last (hst : r.state = .closed) (hunread : r.unread = 1) :
    s.popHeld r.id = (s.freeHeld r.id).remakeBid := by
  simp only [State.popHeld, State.heldRecord_setHeld s r.id (f := readOne) fun _ => rfl,
    State.heldRecord_of_mem hn hr, Option.map_some, readOne, hst, hunread, and_self, if_true,
    State.freeHeld_setHeld s r.id (f := readOne) fun _ => rfl]

theorem State.popHeld_of_more (h : ¬ (r.state = .closed ∧ r.unread - 1 = 0)) :
    s.popHeld r.id = s.setHeld r.id fun x => { x with unread := x.unread - 1 } := by
  simp only [State.popHeld, State.heldRecord_setHeld s r.id (f := readOne) fun _ => rfl,
    State.heldRecord_of_mem hn hr, Option.map_some, readOne, if_neg h]

end

theorem State.Lawful.held_nodup {s : State} (h : s.Lawful) : (s.held.map HeldRecord.id).Nodup := by
  obtain ⟨-, -, -, -, ⟨-, -, -, hn, -⟩, -⟩ := h
  exact hn

theorem State.Lawful.unread_of_closed {s : State} (h : s.Lawful) {r : HeldRecord} (hr : r ∈ s.held)
    (hst : r.state = .closed) : 1 ≤ r.unread := by
  obtain ⟨-, -, -, -, -, -, ⟨-, -, -, hheld⟩, -⟩ := h
  exact (hheld r hr).2.2.2 hst

/-- Settles O13. -/
theorem noticePopsTheFront : Obligations.NoticePopsTheFront := by
  unfold Obligations.NoticePopsTheFront
  intro s body hlaw h named bytes
  have hn := State.Lawful.held_nodup hlaw
  have hbytes : ∀ n : Notice, bytes n = n.bytes s.station := by
    intro n
    cases n with
    | finished | abandoned | withdrawn | deadline => rfl
    | refused id cause => cases cause <;> rfl
    | revoked id cause => cases cause <;> rfl
    | station causes =>
      simp only [bytes, Notice.bytes]
      cases s.station <;> rfl
  simp only [hbytes]
  refine ⟨fun hempty => ?_, fun n rest id hns hfinal => ?_, fun n rest r hns hr hheld => ⟨fun hclosed => ?_, fun hmore => ?_⟩,
    fun causes rest hns => ?_⟩
  · rw [exec_notice h, State.answerNotice_of_empty hempty]
    rfl
  · rw [exec_notice h, State.answerNotice_of_cons hns, State.reportPop_of_final hfinal]
    simp [State.popOrigin]
  · obtain ⟨hst, hunread⟩ := hclosed
    rw [exec_notice h, State.answerNotice_of_cons hns, State.reportPop_of_held hheld,
      State.popHeld_of_last (s := { s with notices := rest }) hn hr hst hunread]
    simp [State.freeHeld]
  · have hmore : ¬ (r.state = .closed ∧ r.unread - 1 = 0) := by
      rintro ⟨hst, hunread⟩
      have hone := State.Lawful.unread_of_closed hlaw hr hst
      obtain hne | hne := hmore
      · exact hne hst
      · omega
    rw [exec_notice h, State.answerNotice_of_cons hns, State.reportPop_of_held hheld,
      State.popHeld_of_more (s := { s with notices := rest }) hn hr hmore]
    rfl
  · rw [exec_notice h, State.answerNotice_of_cons hns]
    rfl

/-! ### FINISH and RELEASE -/

theorem identityOperand_eq_some {origin serial : Byte} {id : Identity} :
    identityOperand origin serial = some id ↔ id.origin.setWidth 8 = origin ∧ id.serial = serial := by
  obtain ⟨o, n⟩ := id
  simp only [identityOperand]
  constructor
  · intro h
    split at h
    · rename_i hle
      obtain ⟨rfl, rfl⟩ := Identity.mk.inj (Option.some.inj h)
      exact ⟨((setWidth_six_eq_iff hle).mp rfl).symm, rfl⟩
    · cases h
  · rintro ⟨rfl, rfl⟩
    have hle : (o.setWidth 8).toNat ≤ 63 := by bv_omega
    rw [if_pos hle, (setWidth_six_eq_iff hle).mpr rfl]

/-- Two bytes that name no held record: they are no identity, or one without a record (log entry 16). -/
theorem identityOperand_of_unknown {s : State} {origin serial : Byte}
    (h : ∀ r ∈ s.held, ¬ (r.id.origin.setWidth 8 = origin ∧ r.id.serial = serial)) :
    identityOperand origin serial = none
      ∨ ∃ id, identityOperand origin serial = some id ∧ s.heldRecord id = none := by
  cases hid : identityOperand origin serial with
  | none => exact .inl rfl
  | some id =>
    refine .inr ⟨id, rfl, State.heldRecord_none.mpr fun r hr heq => h r hr ?_⟩
    exact identityOperand_eq_some.mp (heq ▸ hid)

theorem exec_finishRequest {s : State} {body : List Byte} (h : s.inProcessing 0x07 body) :
    exec (.finishRequest body) s =
      .next ((s.answerFinish body).after.replied 0x07 (s.answerFinish body).outcome (s.answerFinish body).body) :=
  congrArg Host.Outcome.next (State.request_of_inProcessing h _)

theorem exec_releaseRequest {s : State} {body : List Byte} (h : s.inProcessing 0x08 body) :
    exec (.releaseRequest body) s =
      .next ((s.answerRelease body).after.replied 0x08 (s.answerRelease body).outcome (s.answerRelease body).body) :=
  congrArg Host.Outcome.next (State.request_of_inProcessing h _)

theorem State.answerFinish_of_config {s : State} {body : List Byte} (h : s.station = .config) :
    s.answerFinish body = s.answers .state :=
  if_pos h

theorem State.answerFinish_of_no_operands {s : State} {body : List Byte} (h : s.station ≠ .config)
    (hbody : finishOperands body = none) : s.answerFinish body = s.answers .badArg := by
  simp only [State.answerFinish, if_neg h, hbody]

theorem finishOperands_of_length {body : List Byte} (h : body.length < 3) : finishOperands body = none := by
  match body, h with
  | [], _ | [_], _ | [_, _], _ => rfl

theorem finishOperands_cons (origin serial result : Byte) (payload : List Byte) :
    finishOperands (origin :: serial :: result :: payload) =
      if result.toNat ≤ 15 ∧ payload.length ≤ 4 then
        some (identityOperand origin serial, result.setWidth 4, payload)
      else none :=
  rfl

theorem State.answerFinish_of_unknown {s : State} {origin serial result : Byte} {payload : List Byte}
    (h : s.station ≠ .config) (hbody : result.toNat ≤ 15 ∧ payload.length ≤ 4)
    (hnone : ∀ r ∈ s.held, ¬ (r.id.origin.setWidth 8 = origin ∧ r.id.serial = serial)) :
    s.answerFinish (origin :: serial :: result :: payload) = s.answers .unknown := by
  simp only [State.answerFinish, if_neg h, finishOperands_cons, if_pos hbody]
  obtain hid | ⟨id, hid, hrec⟩ := identityOperand_of_unknown hnone
  · simp only [hid]
  · simp only [hid, State.finishRecord, hrec]

theorem State.answerRelease_of_config {s : State} {body : List Byte} (h : s.station = .config) :
    s.answerRelease body = s.answers .state :=
  if_pos h

theorem State.answerRelease_of_length {s : State} {body : List Byte} (h : s.station ≠ .config)
    (hbody : body.length ≠ 2) : s.answerRelease body = s.answers .badArg := by
  have hnone : releaseOperands body = none := by
    unfold releaseOperands
    split
    · exact absurd rfl hbody
    · rfl
  simp only [State.answerRelease, if_neg h, hnone]

theorem State.answerRelease_of_unknown {s : State} {origin serial : Byte} (h : s.station ≠ .config)
    (hnone : ∀ r ∈ s.held, ¬ (r.id.origin.setWidth 8 = origin ∧ r.id.serial = serial)) :
    s.answerRelease [origin, serial] = s.answers .unknown := by
  simp only [State.answerRelease, if_neg h, releaseOperands]
  obtain hid | ⟨id, hid, hrec⟩ := identityOperand_of_unknown hnone
  · simp only [hid]
  · simp only [hid, State.releaseRecord, hrec]

section
variable {s : State} {r : HeldRecord} (hn : (s.held.map HeldRecord.id).Nodup) (hr : r ∈ s.held)
include hn hr

theorem State.finishRecord_of_late (hst : r.state = .closed) (result : BitVec 4) (payload : List Byte) :
    s.finishRecord r.id result payload = s.answers .late := by
  simp only [State.finishRecord, State.heldRecord_of_mem hn hr, hst]

theorem State.finishRecord_of_state (hst : r.state = .awaiting ∨ r.state = .ending ∨ (r.state = .inService ∧ s.takesPosts = false))
    (result : BitVec 4) (payload : List Byte) : s.finishRecord r.id result payload = s.answers .state := by
  obtain hst | hst | ⟨hst, ht⟩ := hst
  · simp only [State.finishRecord, State.heldRecord_of_mem hn hr, hst]
  · simp only [State.finishRecord, State.heldRecord_of_mem hn hr, hst]
  · simp [State.finishRecord, State.heldRecord_of_mem hn hr, hst, ht]

theorem State.finishRecord_of_inService (hst : r.state = .inService) (ht : s.takesPosts = true) (result : BitVec 4)
    (payload : List Byte) :
    s.finishRecord r.id result payload = s.endClaim r (.finish r.id r.priority r.attempt result payload) := by
  simp only [State.finishRecord, State.heldRecord_of_mem hn hr, hst, ht, if_true]

theorem State.releaseRecord_of_late (hst : r.state = .closed) : s.releaseRecord r.id = s.answers .late := by
  simp only [State.releaseRecord, State.heldRecord_of_mem hn hr, hst]

theorem State.releaseRecord_of_state (hst : r.state = .ending ∨ (r.state ≠ .closed ∧ s.takesPosts = false)) :
    s.releaseRecord r.id = s.answers .state := by
  simp only [State.releaseRecord, State.heldRecord_of_mem hn hr]
  obtain hst | ⟨hst, ht⟩ := hst
  · simp only [hst]
  · cases hstate : r.state with
    | closed => exact absurd hstate hst
    | ending => rfl
    | awaiting | inService => simp [ht]

theorem State.releaseRecord_of_open (hst : r.state = .awaiting ∨ r.state = .inService) (ht : s.takesPosts = true) :
    s.releaseRecord r.id = s.endClaim r (.release r.id r.priority r.attempt) := by
  simp only [State.releaseRecord, State.heldRecord_of_mem hn hr]
  obtain hst | hst := hst <;> simp only [hst, ht, if_true]

end

theorem State.answerFinish_named {s : State} (h : s.station ≠ .config) (id : Identity) {result : Byte}
    {payload : List Byte} (hbody : result.toNat ≤ 15 ∧ payload.length ≤ 4) :
    s.answerFinish (id.origin.setWidth 8 :: id.serial :: result :: payload)
      = s.finishRecord id (result.setWidth 4) payload := by
  simp only [State.answerFinish, if_neg h, finishOperands_cons, if_pos hbody,
    (identityOperand_eq_some (id := id)).mpr ⟨rfl, rfl⟩]

theorem State.answerRelease_named {s : State} (h : s.station ≠ .config) (id : Identity) :
    s.answerRelease [id.origin.setWidth 8, id.serial] = s.releaseRecord id := by
  simp only [State.answerRelease, if_neg h, releaseOperands, (identityOperand_eq_some (id := id)).mpr ⟨rfl, rfl⟩]

/-- The held place of a record that is not ENDING is empty (R78, Table 4-1). -/
theorem State.Lawful.heldPlace_empty {s : State} (h : s.Lawful) {r : HeldRecord} (hr : r ∈ s.held)
    (hst : r.state ≠ .ending) : framePlaced s.queue (.held r.id) = none := by
  have hn := h.held_nodup
  obtain ⟨-, -, -, -, -, -, -, -, hstands, -⟩ := h
  rw [framePlaced_none]
  intro q hq hp
  obtain ⟨x, hx, hid, hbacks⟩ := (State.standsFor_held hp).mp (hstands q hq)
  exact hst (List.inj_on_of_nodup_map hn hx hr hid ▸ hbacks.1)

/-- R108, R109: a claim given up. -/
theorem State.Lawful.endClaim_eq {s : State} (h : s.Lawful) (ht : s.takesPosts = true) {r : HeldRecord}
    (hr : r ∈ s.held) (hst : r.state ≠ .ending) {q : Queued} (hp : q.place = .held r.id) :
    s.endClaim r q =
      State.okAfter (State.remakeBid { s with
        queue := s.queue ++ [{ frame := q, onLine := false }]
        held := s.held.map fun x => if x.id = r.id then { x with state := .ending } else x }) := by
  rw [State.endClaim, State.post_of_empty ht (hp ▸ h.heldPlace_empty hr hst)]
  rfl

/-- Settles O12. -/
theorem finishAndReleaseRequestsByRecord : Obligations.FinishAndReleaseRequestsByRecord := by
  unfold Obligations.FinishAndReleaseRequestsByRecord
  intro s body hlaw
  have hn := State.Lawful.held_nodup hlaw
  refine ⟨fun h => ⟨fun hs => ?_, fun hs hlen => ?_, ?_⟩, fun h => ⟨fun hs => ?_, fun hs hlen => ?_, fun hs hlen hnone => ?_, ?_⟩⟩
  · rw [exec_finishRequest h, State.answerFinish_of_config hs]
    rfl
  · rw [exec_finishRequest h, State.answerFinish_of_no_operands hs (finishOperands_of_length hlen)]
    rfl
  · rintro origin serial result payload rfl
    refine ⟨fun hs hbad => ?_, fun hs hresult hlen hnone => ?_, fun hs hresult hlen r hr horigin hserial => ?_⟩
    · rw [exec_finishRequest h, State.answerFinish_of_no_operands hs ((finishOperands_cons ..).trans (if_neg ?_))]
      · rfl
      · rintro ⟨hresult, hlen⟩
        omega
    · rw [exec_finishRequest h, State.answerFinish_of_unknown hs ⟨hresult, hlen⟩ hnone]
      rfl
    · subst horigin hserial
      rw [exec_finishRequest h, State.answerFinish_named hs r.id ⟨hresult, hlen⟩]
      refine ⟨fun hst => ?_, fun hst => ?_, fun hst ht => ?_⟩
      · rw [State.finishRecord_of_late hn hr hst]
        rfl
      · rw [State.finishRecord_of_state hn hr (hst.imp_right (Or.imp_right (And.imp_right fun hm => by
          simp [State.takesPosts, hm])))]
        rfl
      · rw [State.finishRecord_of_inService hn hr hst ht, State.Lawful.endClaim_eq hlaw ht hr (by simp [hst]) rfl]
        rfl
  · rw [exec_releaseRequest h, State.answerRelease_of_config hs]
    rfl
  · rw [exec_releaseRequest h, State.answerRelease_of_length hs hlen]
    rfl
  · obtain ⟨origin, serial, rfl⟩ := List.length_eq_two.mp hlen
    rw [exec_releaseRequest h, State.answerRelease_of_unknown hs fun r hr ⟨ho, hser⟩ => hnone r hr (by rw [ho, hser])]
    rfl
  · rintro hs r hr rfl
    rw [exec_releaseRequest h, State.answerRelease_named hs r.id]
    refine ⟨fun hst => ?_, fun hst => ?_, fun hst ht => ?_⟩
    · rw [State.releaseRecord_of_late hn hr hst]
      rfl
    · rw [State.releaseRecord_of_state hn hr (hst.imp_right fun ⟨hm, hst⟩ => ⟨hst, by simp [State.takesPosts, hm]⟩)]
      rfl
    · rw [State.releaseRecord_of_open hn hr hst ht, State.Lawful.endClaim_eq hlaw ht hr
        (by obtain hst | hst := hst <;> simp [hst]) rfl]
      rfl

end Sys2Proof.Machine
end


section
/-! SUPPORT. The bounds that the law puts on the two queues: each notice is the STATION notice or one that a record has
(R189), and each frame stands in a place that a record or the station has (R82). -/

namespace Sys2Proof.Machine

/-- A list whose every element passes one of the tests is no longer than what the tests select together. -/
theorem length_le_sum_filter {α : Type} (tests : List (α → Bool)) : ∀ {l : List α}, (∀ x ∈ l, ∃ p ∈ tests, p x = true) →
    l.length ≤ (tests.map fun p => (l.filter p).length).sum := by
  induction tests with
  | nil =>
    intro l h
    cases l with
    | nil => rfl
    | cons x l => obtain ⟨p, hp, -⟩ := h x List.mem_cons_self; cases hp
  | cons p tests ih =>
    intro l h
    have hrest := ih (l := l.filter fun x => !p x) fun x hx => by
      obtain ⟨hx, hp⟩ := List.mem_filter.mp hx
      obtain ⟨q, hq, hqx⟩ := h x hx
      obtain rfl | hq := List.mem_cons.mp hq
      · simp [hqx] at hp
      · exact ⟨q, hq, hqx⟩
    have hsum : (tests.map fun q => ((l.filter fun x => !p x).filter q).length).sum
        ≤ (tests.map fun q => (l.filter q).length).sum :=
      List.sum_le_sum fun q _ => (List.filter_sublist.filter q).length_le
    have hsplit := List.length_eq_length_filter_add (l := l) p
    rw [List.map_cons, List.sum_cons]
    omega

/-- Records each of which passes a bound on one test's selection. -/
theorem sum_filter_le {α β : Type} {l : List α} {records : List β} {test : β → α → Bool} {n : Nat}
    (h : ∀ r ∈ records, (l.filter (test r)).length ≤ n) :
    ((records.map test).map fun p => (l.filter p).length).sum ≤ records.length * n := by
  have hsum := List.sum_le_card_nsmul ((records.map test).map fun p => (l.filter p).length) n (by simpa using h)
  simpa using hsum

/-- The tests that tell whose a notice is: the STATION notice, a final notice of an Origin record, a DEADLINE or
REVOKED notice of a held record. -/
def State.noticeTests (s : State) : List (Notice → Bool) :=
  Notice.isStation :: (s.origin.map fun r => Notice.finalFor (s.ownId r.serial))
    ++ (s.held.map fun r => Notice.deadlineFor r.id) ++ s.held.map fun r => Notice.revokedFor r.id

theorem State.notices_le {s : State} (h : s.NoticeLaw) :
    s.notices.length ≤ 1 + s.origin.length + s.held.length + s.held.length := by
  obtain ⟨hstation, hwhose, hfinal, hheld⟩ := h
  have hlen := length_le_sum_filter s.noticeTests (l := s.notices) fun n hn => by
    simp only [State.noticeTests, List.mem_append, List.mem_cons, List.mem_map]
    obtain hs | ⟨r, hr, hf⟩ | ⟨r, hr, hd | hv⟩ := hwhose n hn
    · exact ⟨_, .inl (.inl (.inl rfl)), hs⟩
    · exact ⟨_, .inl (.inl (.inr ⟨r, hr, rfl⟩)), hf⟩
    · exact ⟨_, .inl (.inr ⟨r, hr, rfl⟩), hd⟩
    · exact ⟨_, .inr ⟨r, hr, rfl⟩, hv⟩
  have horigin := sum_filter_le (test := fun r => Notice.finalFor (s.ownId r.serial)) (n := 1) fun r hr =>
    (hfinal r hr).le.trans (by split <;> omega)
  have hdeadline := sum_filter_le (test := fun r : HeldRecord => Notice.deadlineFor r.id) (n := 1) fun r hr =>
    (hheld r hr).1.trans (by split <;> omega)
  have hrevoked := sum_filter_le (test := fun r : HeldRecord => Notice.revokedFor r.id) (n := 1) fun r hr =>
    (hheld r hr).2.1.trans (by split <;> omega)
  rw [State.noticeTests, List.map_append, List.map_append, List.map_cons, List.sum_append, List.sum_append,
    List.sum_cons] at hlen
  omega

/-- The places that records and the station have. -/
def State.places (s : State) : List Place :=
  (s.origin.map fun r => .identity (s.ownId r.serial)) ++ (s.held.map fun r => .held r.id) ++ [.bid, .lapse, .join]

theorem State.place_of_standsFor {s : State} {q : QueuedFrame} (h : s.standsFor q = true) : q.frame.place ∈ s.places := by
  simp only [State.places, List.mem_append, List.mem_map, List.mem_cons, List.not_mem_nil, or_false]
  cases hp : q.frame.place with
  | identity id =>
    obtain ⟨horigin, r, hr, hserial, -⟩ := (State.standsFor_identity hp).mp h
    exact .inl (.inl ⟨r, hr, by rw [hserial, State.ownId_of_origin horigin]⟩)
  | held id =>
    obtain ⟨r, hr, hid, -⟩ := (State.standsFor_held hp).mp h
    exact .inl (.inr ⟨r, hr, by rw [hid]⟩)
  | bid | lapse | join => simp

theorem State.queue_le {s : State} (hn : (s.queue.map fun q => q.frame.place).Nodup)
    (hstands : ∀ q ∈ s.queue, s.standsFor q = true) : s.queue.length ≤ s.origin.length + s.held.length + 3 := by
  have hsub : (s.queue.map fun q => q.frame.place) ⊆ s.places := fun p hp => by
    obtain ⟨q, hq, rfl⟩ := List.mem_map.mp hp
    exact State.place_of_standsFor (hstands q hq)
  simpa [State.places, Nat.add_assoc] using (hn.subperm hsub).length_le

/-- Settles O58. -/
theorem lawBoundsTheQueues : Obligations.LawBoundsTheQueues := by
  unfold Obligations.LawBoundsTheQueues
  rintro s ⟨-, ⟨hplaces, -⟩, -, ⟨horigin, -⟩, ⟨-, hslots, hheld, -⟩, -, hnotices, -, hstands, -⟩
  have hqueue := State.queue_le hplaces hstands
  have hnotices := State.notices_le hnotices
  simp only [Config.originCapacity] at horigin
  omega

end Sys2Proof.Machine
end


section
/-! SUPPORT. The station state over one command: every change that a command makes takes it along Figure 7-1. What happens
on the Line can take it along two of the figure's transitions in one command; the relation kept through that is the
figure's own, with what tells a join that began before the command from one that a restart has begun. -/

namespace Sys2Proof.Machine

/-- The station state of `u` is one that the state `a` may become in one step; a station in the join window was in LISTEN
before the step, and one whose LIU runs had it running then. -/
structure State.Follows (a : StationState) (u : State) : Prop where
  may : a.mayBecome u.station = true
  window : u.ctl.joinStage = some .window → a = .listen
  line : u.liuHeld = false → a ≠ .config ∧ a ≠ .detached

theorem State.liuHeld_eq_false_iff {s : State} : s.liuHeld = false ↔ s.station ≠ .config ∧ s.station ≠ .detached := by
  simp [State.liuHeld]

theorem State.liuHeld_congr {s t : State} (h : t.ctl.state = s.ctl.state) : t.liuHeld = s.liuHeld := by
  simp [State.liuHeld, State.station, h]

theorem StationState.mayBecome_refl (a : StationState) : a.mayBecome a = true := by
  cases a <;> rfl

theorem StationState.mayBecome_listen (a : StationState) : a.mayBecome .listen = true := by
  cases a <;> rfl

section
variable {a : StationState} {s t : State}

theorem State.LawUpTo.follows {k : Slack} (h : s.LawUpTo k) : s.Follows s.station where
  may := StationState.mayBecome_refl _
  window hj := h.control.stage.mp (by simp [hj])
  line := State.liuHeld_eq_false_iff.mp

theorem State.Follows.of_ctl (h : s.Follows a) (hc : t.ctl = s.ctl) : t.Follows a where
  may := by simpa [State.station, hc] using h.may
  window hj := h.window (hc ▸ hj)
  line hl := h.line (by simpa [State.liuHeld, State.station, hc] using hl)

theorem State.Follows.of_state (h : s.Follows a) (hc : t.ctl.state = s.ctl.state) (hj : t.ctl.joinStage ≠ some .window) :
    t.Follows a where
  may := by simpa [State.station, hc] using h.may
  window hw := absurd hw hj
  line hl := h.line (by simpa [State.liuHeld, State.station, hc] using hl)

theorem State.Follows.restartNow (h : s.Follows a) (hl : s.liuHeld = false) : s.restartNow.Follows a where
  may := StationState.mayBecome_listen a
  window hw := by simp [State.restartNow] at hw
  line _ := h.line hl

theorem State.Follows.toMute (h : s.Follows a) (hl : s.liuHeld = false) (ht : t.ctl.state = .mute)
    (hj : t.ctl.joinStage = none) : t.Follows a where
  may := by
    obtain ⟨hconfig, hdetached⟩ := h.line hl
    rw [State.station, ht]
    cases a with
    | config => exact absurd rfl hconfig
    | detached => exact absurd rfl hdetached
    | listen | active | leaving | mute => rfl
  window hw := by simp [hj] at hw
  line _ := h.line hl

theorem State.Follows.muteFailures (h : s.Follows a) : s.muteFailures.Follows a := by
  unfold State.muteFailures
  split
  · rename_i ht
    exact h.toMute (State.liuHeld_of_takesPosts ht.1) (by simp [State.toMute]) (by simp [State.toMute])
  · exact h

theorem State.Follows.addressClash (h : s.Follows a) (hl : s.liuHeld = false) : s.addressClash.Follows a := by
  unfold State.addressClash
  split
  · exact State.Follows.of_ctl (s := { s with ctl := { s.ctl with muteCause := .addressClash } })
      ⟨h.may, h.window, h.line⟩ (by simp)
  · exact h.toMute hl (by simp [State.toMute]) (by simp [State.toMute])

theorem State.enterDetached_ctl (s : State) : s.enterDetached.ctl = { s.ctl with state := .detached, draining := false } := by
  simp [State.enterDetached]

theorem State.Follows.testDrain (h : s.Follows a) : s.testDrain.Follows a := by
  unfold State.testDrain
  split
  · rename_i hd
    have hmay := h.may
    refine ⟨?_, fun hw => h.window (by simpa [State.enterDetached_ctl] using hw), fun hl => ?_⟩
    · rw [State.station, State.enterDetached_ctl]
      rw [hd.1] at hmay
      cases a <;> simp [StationState.mayBecome] at hmay ⊢
    · simp [State.liuHeld, State.station, State.enterDetached_ctl] at hl
  · exact h

theorem State.enterActive_ctl (s : State) : s.enterActive.ctl = { s.ctl with state := .active, joinStage := none } := by
  simp [State.enterActive]

theorem State.Follows.enterActive (h : s.Follows a) (hl : s.liuHeld = false) (ha : a = .listen) : s.enterActive.Follows a where
  may := by rw [ha, State.station, State.enterActive_ctl]; rfl
  window hw := by simp [State.enterActive_ctl] at hw
  line _ := h.line hl

theorem State.Follows.idleReached (h : s.Follows a) : s.idleReached.Follows a := by
  unfold State.idleReached
  split
  · rename_i hw
    exact h.enterActive (by simp [State.liuHeld, hw.1]) (h.window hw.2)
  · exact h

theorem State.Follows.startUpReached (h : s.Follows a) : s.startUpReached.Follows a := by
  unfold State.startUpReached
  split
  · exact h.of_state (by simp) (by simp)
  · exact h

theorem State.Follows.tellAlone (h : s.Follows a) (before : Bool) : (s.tellAlone before).Follows a :=
  h.of_ctl (by simp)

/-! ### The end of an own frame -/

theorem State.reportOutcome_ctl {o : FrameOutcome} (ho : o ≠ .taken) (accept : Level) :
    (s.reportOutcome o accept).ctl = s.ctl := by
  unfold State.reportOutcome
  split
  · rfl
  · cases o with
    | taken => exact absurd rfl ho
    | refused | corrupted | lost => simp

theorem State.Follows.ownEnds (h : s.Follows a) (hl : s.liuHeld = false) {o : FrameOutcome} (ho : o ≠ .taken)
    (accept : Level) : (s.ownEnds o accept).Follows a := by
  unfold State.ownEnds
  dsimp only
  split
  · exact State.Follows.restartNow (s := { s with liu := s.liu.outcome o }) (h.of_ctl rfl) hl
  · exact ((State.Follows.of_ctl h (State.reportOutcome_ctl (s := { s with liu := s.liu.outcome o }) ho accept)).tellAlone
      _).muteFailures.testDrain

theorem State.Follows.loseArbitration (h : s.Follows a) (hl : s.liuHeld = false) : s.loseArbitration.Follows a := by
  unfold State.loseArbitration
  exact State.Follows.ownEnds (by exact h.of_ctl rfl) (by exact hl) (by decide) _

theorem State.Follows.ownObjected (h : s.Follows a) (hl : s.liuHeld = false) (f : Frame) (accept : Level) (own : Bool) :
    (s.ownObjected f accept own).Follows a := by
  unfold State.ownObjected
  exact State.Follows.ownEnds (by exact h.of_ctl rfl) (by exact hl) (objectedOutcome_ne_taken _ _) _

theorem State.Follows.ownRun (h : s.Follows a) (hl : s.liuHeld = false) : s.ownRun.Follows a := by
  unfold State.ownRun
  exact State.Follows.ownEnds (by exact h.of_ctl rfl) (by exact hl) (by decide) _

/-! ### Samples -/

theorem State.Follows.stuckLine (h : s.Follows a) : s.stuckLine.Follows a := by
  unfold State.stuckLine
  split
  · exact h
  · rename_i hl
    simp only [not_or, Bool.not_eq_true] at hl
    have htold := State.Follows.of_ctl (t := ({ s with liu := s.liu.stick }.stuckFrame).raiseCause .lineFault) h (by simp)
    dsimp only
    split
    · exact htold.restartNow (by simpa [State.liuHeld, State.station] using hl.1)
    · exact htold.muteFailures.testDrain

theorem State.Follows.sampleLine (h : s.Follows a) (b : Bool) : (s.sampleLine b).Follows a := by
  have hsampled : State.Follows a { s with liu := s.liu.sample b } := h.of_ctl rfl
  unfold State.sampleLine
  dsimp only
  split
  · exact hsampled.stuckLine
  · exact hsampled

theorem State.Follows.dominantSample (h : s.Follows a) : s.dominantSample.Follows a := by
  unfold State.dominantSample
  split
  · split
    · exact h.of_ctl (by simp)
    · exact h.of_ctl rfl
  · exact h.sampleLine false

theorem State.Follows.recoveryComplete (h : s.Follows a) : s.recoveryComplete.Follows a := by
  unfold State.recoveryComplete
  split
  · exact State.Follows.startUpReached (h.of_ctl rfl)
  · exact h

/-- What every stage of a recessive sample keeps, the sample keeps. -/
theorem State.quietSample_keeps {P : State → Prop} (h : P { s with liu := s.liu.sample true })
    (hspaced : ∀ u, P u → P u.spacingComplete) (hrecovered : ∀ u, P u → P u.recoveryComplete)
    (hstarted : ∀ u, P u → P u.startUpReached) (hidle : ∀ u, P u → P u.idleReached) : P s.quietSample := by
  have hspacing : ∀ u : State, P u →
      P (if u.liu.phase = .spacing ∧ Config.spacingSamples ≤ u.liu.recessive then u.spacingComplete else u) := by
    intro u hu
    split
    · exact hspaced u hu
    · exact hu
  have hrecovery : ∀ u : State, P u →
      P (if u.liu.phase = .recovering ∧ Config.recoverySamples ≤ u.liu.recessive then u.recoveryComplete
        else if s.liu.startUpIdle < Config.startUpSamples ∧ u.liu.startUpIdle = Config.startUpSamples then
          u.startUpReached
        else u) := by
    intro u hu
    split
    · exact hrecovered u hu
    · split
      · exact hstarted u hu
      · exact hu
  have hended : ∀ u : State, P u →
      P (if s.liu.idle < Config.idleSamples ∧ u.liu.idle = Config.idleSamples then u.idleReached else u) := by
    intro u hu
    split
    · exact hidle u hu
    · exact hu
  exact hended _ (hrecovery _ (hspacing _ h))

theorem State.Follows.quietSample (h : s.Follows a) : s.quietSample.Follows a :=
  State.quietSample_keeps (h.of_ctl rfl) (fun _ hu => hu.of_ctl (by simp)) (fun _ hu => hu.recoveryComplete)
    (fun _ hu => hu.startUpReached) fun _ hu => hu.idleReached

theorem State.Follows.sendBit (h : s.Follows a) : s.sendBit.Follows a := by
  unfold State.sendBit
  split
  · exact h
  · split
    · exact h
    · rename_i b _
      have hsampled := h.sampleLine b
      dsimp only
      split
      · exact hsampled.of_ctl rfl
      · exact hsampled

theorem State.Follows.hear (h : s.Follows a) (b : Bool) : (s.hear b).Follows a := by
  unfold State.hear
  split
  · exact h
  · split
    · exact h.quietSample
    · exact h.dominantSample

theorem State.Follows.watch (h : s.Follows a) (bits : List Bool) : (s.watch bits).Follows a :=
  State.watch_keeps (P := State.Follows a) (fun _ b hs => hs.hear b) bits s h

theorem State.Follows.edge (h : s.Follows a) : s.edge.Follows a := by
  unfold State.edge
  split
  · exact h
  · exact State.Follows.dominantSample (h.of_ctl rfl)

/-! ### The frame on the Line -/

theorem State.Follows.peerTaken (h : s.Follows a) (hl : s.liuHeld = false) (f : Frame) : (s.peerTaken f).Follows a := by
  have htold : ((((s.endPeer f).handleTaken false f).tellAlone s.liu.alone)).Follows a :=
    h.of_ctl (by simp [State.endPeer])
  rw [State.peerTaken_eq]
  split
  · exact htold.addressClash (by simpa [State.liuHeld, State.station, State.endPeer] using hl)
  · exact htold.testDrain

theorem State.Follows.objectSlot (h : s.Follows a) (own object : Bool) : (s.objectSlot own object).Follows a := by
  have hsampled := State.Follows.sampleLine (s := { s with liu := s.liu.atObject object }) (h.of_ctl rfl) false
  unfold State.objectSlot
  dsimp only
  split
  · exact hsampled
  · exact hsampled.of_ctl rfl

theorem State.Follows.objectedSlots (h : s.Follows a) (accept : Level) (own object : Bool) :
    (s.objectedSlots accept own object).Follows a := by
  have hsampled := State.Follows.sampleLine (s := { s with liu := s.liu.atAccept own }) (h.of_ctl rfl) accept.bit
  unfold State.objectedSlots
  dsimp only
  split
  · exact hsampled
  · exact hsampled.objectSlot own object

theorem State.Follows.peerNowhere (h : s.Follows a) (accept : Level) (v : Verdict) : (s.peerNowhere accept v).Follows a := by
  cases v with
  | placeLost => exact h.of_ctl rfl
  | placeKept => exact h.objectedSlots accept false true
  | clean f => exact h.objectedSlots .dominant true _

theorem State.Follows.peerFrame (h : s.Follows a) (hl : s.liuHeld = false) (f : Frame) (accept : Level) :
    (s.peerFrame f accept).Follows a := by
  have hspan : ∀ g : Frame, (s.span g).Follows a := fun g => h.of_ctl rfl
  unfold State.peerFrame
  split
  · exact (hspan f).peerNowhere _ _
  · exact (hspan f).peerNowhere _ _
  · split
    · exact (hspan _).peerNowhere _ _
    · exact h.peerTaken hl _

theorem State.Follows.joinTaken (h : s.Follows a) (hl : s.liuHeld = false) (ha : a = .listen) (fresh : Bool)
    (accept : Level) : (s.joinTaken fresh accept).Follows a := by
  have hctl : ∀ c : Controller, c.state = s.ctl.state → State.Follows a { s with ctl := c } := fun c hc =>
    ⟨by simpa [State.station, hc] using h.may, fun _ => ha, fun _ => h.line hl⟩
  unfold State.joinTaken
  cases accept with
  | recessive =>
    cases fresh with
    | true => exact State.Follows.enterActive (hctl _ rfl) hl ha
    | false => exact h.enterActive hl ha
  | dominant => cases fresh <;> exact hctl _ rfl

theorem State.Follows.toldTaken (h : s.Follows a) (hl : s.liuHeld = false) {q : Queued}
    (ha : q.place = .join → a = .listen) (accept : Level) : (s.toldTaken accept q).Follows a := by
  cases q with
  | join fresh => exact h.joinTaken hl (ha rfl) fresh accept
  | raise | restate =>
    unfold State.toldTaken
    dsimp only
    split
    · exact h
    · split <;> exact h.of_ctl (by simp)
  | withdraw | bid | lapse | finish | release => exact h.of_ctl (by simp [State.toldTaken])

theorem Queued.eq_join_of_place {q : Queued} (h : q.place = .join) : ∃ fresh, q = .join fresh := by
  cases q <;> cases h
  exact ⟨_, rfl⟩

/-- The join of a station's own JOIN on the Line is one of LISTEN (R143). -/
theorem State.LawUpTo.listen_of_join {k : Slack} (h : s.LawUpTo k) {q : QueuedFrame} (hst : s.standsFor q = true)
    (hq : q.frame.place = .join) : s.station = .listen :=
  h.control.stage.mp (by simp [((State.standsFor_join hq).mp hst).1])

theorem State.LawUpTo.follows_ownTaken (h : s.LawUpTo .none) {img : TransmitImage} (himage : s.image = some img)
    (hstore : storageObjects s.address true s.table img.frame = false) (accept : Level) :
    (s.ownTaken img.frame accept).Follows s.station := by
  obtain ⟨q, hq, hsent⟩ := h.sending himage
  obtain ⟨hmem, honLine⟩ := State.frameOnLine_some hq
  have hst := h.standing hmem
  have hl := State.liuHeld_of_takesPosts (h.takesPosts_of_image (by simp [himage]))
  have hended := h.setLiu (s.keeps_endOwn img.frame accept).toKeepsBlocks
  have hlaw := State.LawUpTo.handleTaken (b := true) hended hl hstore fun _ => ⟨q, hmem, honLine, hsent, hst⟩
  have hctl : ((s.endOwn img.frame accept).handleTaken true img.frame).ctl = s.ctl := by simp [State.endOwn]
  have hhandled := h.follows.of_ctl hctl
  rw [State.ownTaken_eq]
  split
  · exact hhandled.restartNow ((State.liuHeld_congr (congrArg Controller.state hctl)).trans hl)
  · refine (State.Follows.tellAlone ?_ _).testDrain
    unfold State.reportOutcome
    split
    · exact hhandled.of_ctl rfl
    · rename_i g hg
      obtain ⟨g', hg', hsent'⟩ := hlaw.sending (img := img) (by simpa using himage)
      obtain rfl : g = g' := Option.some.inj (hg.symm.trans hg')
      refine State.Follows.toldTaken (s := State.dropFrame _) (hhandled.of_ctl (by simp))
        ((State.liuHeld_congr (congrArg Controller.state hctl)).trans hl) (fun hp => ?_) accept
      obtain ⟨fresh, hfresh⟩ := Queued.eq_join_of_place hp
      have hbody := Queued.join_of_sentAs hsent' hfresh
      exact h.listen_of_join hst (by rw [Queued.eq_join_of_sentAs hsent hbody]; rfl)

theorem State.LawUpTo.follows_ownFrame (h : s.LawUpTo .none) {img : TransmitImage} (himage : s.image = some img)
    (accept : Level) : (s.ownFrame img.frame accept).Follows s.station := by
  unfold State.ownFrame
  split
  · exact h.follows.ownObjected (State.liuHeld_of_takesPosts (h.takesPosts_of_image (by simp [himage]))) _ _ _
  · rename_i hstore
    exact h.follows_ownTaken himage (by simpa using hstore) accept

/-! ### The frame on the Line -/

theorem State.joins_ctl (s : State) : s.joins.ctl = s.ctl := by
  unfold State.joins
  split
  · simp
  · rfl

theorem State.LawUpTo.follows_frame (h : s.LawUpTo .none) (f : Frame) (accept : Level) :
    (s.frame f accept).Follows s.station := by
  have hjoins := h.joins
  have hstation : s.joins.station = s.station := congrArg Controller.state s.joins_ctl
  have hfollows : s.joins.Follows s.station := hstation ▸ hjoins.follows
  unfold State.frame
  dsimp only
  split
  · exact h.follows
  · rename_i hl
    have hl : s.joins.liuHeld = false := by simpa [State.liuHeld, hstation] using hl
    split
    · rename_i img himage
      split
      · rename_i hframe
        subst hframe
        exact hstation ▸ hjoins.follows_ownFrame himage accept
      · split
        · have hlost := hfollows.loseArbitration hl
          split
          · exact hlost
          · rename_i hheld
            exact hlost.peerFrame (by simpa using hheld) f accept
        · exact hfollows
    · split
      · exact hfollows.peerFrame hl f accept
      · exact hfollows.watch _

theorem State.Follows.meets (h : s.Follows a) (hl : s.liuHeld = false) : s.meets.Follows a := by
  unfold State.meets
  split
  · exact State.Follows.loseArbitration (by exact h.of_ctl (by simp)) (by simpa [State.liuHeld, State.station] using hl)
  · exact h

theorem State.Follows.peerRefused (h : s.Follows a) (hl : s.liuHeld = false) : s.peerRefused.Follows a := by
  unfold State.peerRefused
  split
  · dsimp only
    split
    · exact h.meets hl
    · exact (h.meets hl).objectedSlots _ _ _
  · exact h.watch _

theorem State.Follows.spanNowhere (h : s.Follows a) (bits : List Bool) (accept : Level) :
    (s.spanNowhere bits accept).Follows a := by
  have hwatch := State.Follows.watch (s := { s with liu := { s.liu.atEdge with phase := .receiving } }) (by exact h.of_ctl rfl) bits
  unfold State.spanNowhere
  dsimp only
  split
  · exact hwatch
  · exact hwatch.peerNowhere _ _

/-! ### Bit times -/

theorem State.Follows.lineBit (h : s.Follows a) : s.lineBit.Follows a := by
  unfold State.lineBit
  split
  · exact h
  · split
    · exact h.quietSample
    · exact h.quietSample
    · exact h.quietSample
    · exact h.sendBit
    · exact h.sendBit
    · exact h
    · exact h

end

/-! ### Requests -/

/-- A request changes the station state as its owner's answer does. -/
theorem State.request_station {s : State} {code : Byte} {body : List Byte} {owner : State → Answer}
    (h : s.station.mayBecome (owner s).after.station = true) :
    s.station.mayBecome (s.request code body owner).station = true := by
  unfold State.request
  split
  · split
    · simpa [State.station] using h
    · simpa [State.station] using StationState.mayBecome_refl _
  · exact StationState.mayBecome_refl _

theorem StationState.mayBecome_of_ctl {s t : State} (h : t.ctl = s.ctl) : s.station.mayBecome t.station = true := by
  rw [show t.station = s.station from congrArg Controller.state h]
  exact StationState.mayBecome_refl _

theorem State.withdrawQueued_ctl (s : State) (n : Serial) : (s.withdrawQueued n).ctl = s.ctl := by
  unfold State.withdrawQueued
  split
  · split <;> simp
  · simp

theorem State.LawUpTo.station_answerWithdraw {s : State} (h : s.LawUpTo .none) (body : List Byte) :
    s.station.mayBecome (s.answerWithdraw body).after.station = true := by
  unfold State.answerWithdraw
  split
  · exact StationState.mayBecome_refl _
  split
  · split
    · exact StationState.mayBecome_refl _
    · split
      · exact StationState.mayBecome_refl _
      · exact StationState.mayBecome_refl _
      · split
        · exact StationState.mayBecome_refl _
        · exact (State.Follows.testDrain (h.follows.of_ctl (s.withdrawQueued_ctl _))).may
      · split
        · exact StationState.mayBecome_of_ctl (by simp [State.okAfter])
        · exact StationState.mayBecome_refl _
  · exact StationState.mayBecome_refl _

theorem State.answerSetup_state (s : State) (body : List Byte) : (s.answerSetup body).after.ctl = s.ctl := by
  unfold State.answerSetup
  (repeat' split) <;> rfl

theorem State.answerClass_state (s : State) (body : List Byte) : (s.answerClass body).after.ctl = s.ctl := by
  unfold State.answerClass
  (repeat' split) <;> rfl

theorem State.answerRaise_ctl (s : State) (body : List Byte) : (s.answerRaise body).after.ctl = s.ctl := by
  unfold State.answerRaise
  (repeat' split) <;> simp [State.raiseEvent, State.answers]

theorem State.answerTake_ctl (s : State) : s.answerTake.after.ctl = s.ctl := by
  unfold State.answerTake
  (repeat' split) <;> simp [State.answers]

theorem State.answerFinish_ctl (s : State) (body : List Byte) : (s.answerFinish body).after.ctl = s.ctl := by
  unfold State.answerFinish State.finishRecord
  (repeat' split) <;> simp [State.answers, State.endClaim, State.okAfter]

theorem State.answerRelease_ctl (s : State) (body : List Byte) : (s.answerRelease body).after.ctl = s.ctl := by
  unfold State.answerRelease State.releaseRecord
  (repeat' split) <;> simp [State.answers, State.endClaim, State.okAfter]

theorem State.answerNotice_ctl (s : State) : s.answerNotice.after.ctl = s.ctl := by
  unfold State.answerNotice
  split
  · rfl
  · rename_i n rest _
    cases n <;> simp [State.reportPop]

theorem State.answerLookup_ctl (s : State) (body : List Byte) : (s.answerLookup body).after.ctl = s.ctl := by
  unfold State.answerLookup
  (repeat' split) <;> rfl

theorem State.answerFind_ctl (s : State) (body : List Byte) : (s.answerFind body).after.ctl = s.ctl := by
  unfold State.answerFind
  (repeat' split) <;> rfl

theorem State.station_answerStart (s : State) : s.station.mayBecome s.answerStart.after.station = true := by
  unfold State.answerStart
  split
  · exact StationState.mayBecome_listen _
  · exact StationState.mayBecome_refl _

theorem State.enterListen_repost_station (s : State) : s.enterListen.repostWithdraws.station = .listen := by
  simp [State.station, State.enterListen]

theorem State.station_answerRejoin (s : State) : s.station.mayBecome s.answerRejoin.after.station = true := by
  unfold State.answerRejoin
  split
  · exact (congrArg (fun b => s.station.mayBecome b = true) (State.enterListen_repost_station _)).mpr
      (StationState.mayBecome_listen _)
  · exact StationState.mayBecome_listen _
  · exact StationState.mayBecome_refl _
  · exact StationState.mayBecome_refl _
  · exact StationState.mayBecome_refl _
  · exact StationState.mayBecome_refl _

/-- R150: LEAVE takes ACTIVE to LEAVING, and on to DETACHED when there is nothing to drain. -/
theorem State.LawUpTo.station_answerLeave {s : State} (h : s.LawUpTo .none) :
    s.station.mayBecome s.answerLeave.after.station = true := by
  unfold State.answerLeave
  split
  · rename_i hs
    have hleaving : State.Follows s.station { s with ctl := { s.ctl with state := .leaving, draining := true } } :=
      ⟨by rw [hs]; rfl, fun hw => h.control.stage.mp (by simp [show s.ctl.joinStage = some .window from hw]),
        fun _ => by simp [hs]⟩
    unfold State.okAfter State.enterLeaving
    exact (State.Follows.testDrain (hleaving.of_ctl
      ((foldl_keeps State.ctl _ (fun s r => s.leaveRecord_ctl r) _ _).trans (by simp)))).may
  · exact StationState.mayBecome_refl _

theorem State.LawUpTo.station_exec {c : Instr} {s t : State} (h : s.LawUpTo .none) (ht : Machine.exec c s = .next t) :
    s.station.mayBecome t.station = true := by
  have hrefl := StationState.mayBecome_refl s.station
  have hf := h.follows
  have hsending : ∀ img, s.image = some img → s.liuHeld = false := fun img himage =>
    State.liuHeld_of_takesPosts (h.takesPosts_of_image (by simp [himage]))
  cases c <;> cases ht
  case pinReset =>
    rw [show s.pinReset.station = .config from rfl]
    cases s.station <;> rfl
  case selFallingEdge | selRisingEdge => (repeat' split) <;> exact hrefl
  case malformed bytes => (repeat' split) <;> exact hrefl
  case nop body => exact State.request_station hrefl
  case setup body => exact State.request_station (StationState.mayBecome_of_ctl (s.answerSetup_state body))
  case classPage body => exact State.request_station (StationState.mayBecome_of_ctl (s.answerClass_state body))
  case start body => exact State.request_station s.station_answerStart
  case raiseRequest body => exact State.request_station (StationState.mayBecome_of_ctl (s.answerRaise_ctl body))
  case withdrawRequest body => exact State.request_station (h.station_answerWithdraw body)
  case take body => exact State.request_station (StationState.mayBecome_of_ctl s.answerTake_ctl)
  case finishRequest body => exact State.request_station (StationState.mayBecome_of_ctl (s.answerFinish_ctl body))
  case releaseRequest body => exact State.request_station (StationState.mayBecome_of_ctl (s.answerRelease_ctl body))
  case notice body => exact State.request_station (StationState.mayBecome_of_ctl s.answerNotice_ctl)
  case status body => exact State.request_station hrefl
  case lookup body => exact State.request_station (StationState.mayBecome_of_ctl (s.answerLookup_ctl body))
  case find body => exact State.request_station (StationState.mayBecome_of_ctl (s.answerFind_ctl body))
  case leave body => exact State.request_station h.station_answerLeave
  case rejoin body => exact State.request_station s.station_answerRejoin
  case restart body =>
    unfold State.processRestart
    split
    · split
      · split
        · exact hrefl
        · split
          · exact StationState.mayBecome_listen _
          · exact hrefl
      · exact hrefl
    · exact hrefl
  case restartProceeds =>
    split
    · exact StationState.mayBecome_listen _
    · exact hrefl
  case deadlineTick =>
    split
    · exact hrefl
    · exact StationState.mayBecome_of_ctl (by simp)
  case claimantExpiry id => (repeat' split) <;> exact StationState.mayBecome_of_ctl (by simp)
  case expiredMark id => (repeat' split) <;> exact StationState.mayBecome_of_ctl (by simp)
  case frameStart edge =>
    split
    · unfold State.startAlone
      split <;> exact StationState.mayBecome_of_ctl (by simp)
    · exact hf.edge.may
  case raiseFrame => exact (h.follows_frame _ _).may
  case bidFrame => exact (h.follows_frame _ _).may
  case finishFrame => exact (h.follows_frame _ _).may
  case releaseFrame => exact (h.follows_frame _ _).may
  case lapseFrame => exact (h.follows_frame _ _).may
  case withdrawFrame => exact (h.follows_frame _ _).may
  case freshJoin => exact (h.follows_frame _ _).may
  case join => exact (h.follows_frame _ _).may
  case restateFrame => exact (h.follows_frame _ _).may
  case frameRefused =>
    split
    · exact hrefl
    · rename_i hl
      have hl : s.liuHeld = false := by simpa using hl
      split
      · exact (hf.ownObjected hl _ _ _).may
      · exact (hf.peerRefused hl).may
  case frameCorrupted ending =>
    split
    · exact hrefl
    · rename_i img himage
      split
      · exact (hf.ownObjected (hsending img himage) _ _ _).may
      · exact (hf.ownRun (hsending img himage)).may
  case arbitrationLost =>
    split
    · rename_i hl
      obtain ⟨img, himage⟩ := Option.isSome_iff_exists.mp hl.2
      exact (hf.loseArbitration (hsending img himage)).may
    · exact hrefl
  case stuckLine => exact hf.stuckLine.may
  case recoveryComplete => exact hf.recoveryComplete.may
  case spacingComplete => exact StationState.mayBecome_of_ctl (by simp)
  case startUpIdle =>
    split
    · exact (State.Follows.startUpReached (by exact hf.of_ctl (by simp))).may
    · exact hrefl
  case joinWindowEnd =>
    split
    · exact (State.Follows.idleReached (by exact hf.of_ctl (by simp))).may
    · exact hrefl
  case leaveDrainComplete => exact hf.testDrain.may
  case frameTakenNowhere bits accept =>
    split
    · exact hrefl
    · rename_i hl
      simp only [not_or, Bool.not_eq_true] at hl
      split
      · dsimp only
        split
        · exact (hf.meets hl.1).may
        · exact ((hf.meets hl.1).spanNowhere _ _).may
      · exact (hf.watch _).may
  case endOfPinReset => split <;> exact hrefl

theorem State.LawUpTo.station_bitTime {s : State} (h : s.LawUpTo .none) :
    s.station.mayBecome s.bitTime.station = true := by
  unfold State.bitTime
  split
  · exact StationState.mayBecome_refl _
  · split
    · exact StationState.mayBecome_of_ctl (by simp)
    · refine (State.Follows.lineBit (h.follows.of_ctl ?_)).may
      unfold State.advanceClock
      dsimp only
      split <;> simp

/-- Settles O59. -/
theorem stationStateFollowsFigure : Obligations.StationStateFollowsFigure := by
  unfold Obligations.StationStateFollowsFigure
  intro s t hlaw hstep
  cases hp : s.pending with
  | nil =>
    rw [step_of_empty hp] at hstep
    cases hstep
    exact hlaw.lawUpTo.station_bitTime
  | cons c rest =>
    rw [step_of_cons hp] at hstep
    exact State.LawUpTo.station_exec (s := { s with pending := rest }) (hlaw.lawUpTo.congr
      (s.keeps_rest rest _ _ _ _ _ rfl).toKeepsBlocks rfl rfl ⟨rfl, rfl, rfl, rfl⟩ rfl rfl rfl rfl rfl rfl) hstep

end Sys2Proof.Machine
end


section
/-! SUPPORT. The two choices re-made: what the BID place and the LAPSE place hold after it (R101, R102, R17), and that nothing
else of the state changes. -/

namespace Sys2Proof.Machine

/-! ### Only the queue changes -/

theorem State.post_eq (s : State) (f : Queued) : s.post f = { s with queue := (s.post f).queue } := by
  unfold State.post
  split <;> rfl

theorem State.remakeBid_eq (s : State) : s.remakeBid = { s with queue := s.remakeBid.queue } := by
  obtain h | ⟨-, h⟩ | ⟨e, -, h⟩ := s.remakeBid_cases
  · rw [h]
  · rw [h]
    rfl
  · rw [h]
    exact s.post_eq _

theorem State.remakeLapse_eq (s : State) : s.remakeLapse = { s with queue := s.remakeLapse.queue } := by
  obtain h | ⟨-, ⟨-, h⟩ | ⟨e, -, h⟩⟩ := s.remakeLapse_cases
  · rw [h]
  · rw [h]
    rfl
  · rw [h]
    exact s.post_eq _

theorem State.remakeLapse_of_not_active {s : State} (h : s.station ≠ .active) : s.remakeLapse = s :=
  if_neg h

theorem State.takesPosts_of_active {s : State} (h : s.station = .active) : s.takesPosts = true := by
  simp [State.takesPosts, h]

/-! ### One place of the queue -/

theorem mem_withoutPlace {q : List QueuedFrame} {p : Place} {g : QueuedFrame} :
    g ∈ withoutPlace q p ↔ g ∈ q ∧ g.frame.place ≠ p := by
  simp [withoutPlace]

theorem withoutPlace_append (q r : List QueuedFrame) (p : Place) :
    withoutPlace (q ++ r) p = withoutPlace q p ++ withoutPlace r p := by
  simp [withoutPlace]

theorem withoutPlace_twice (q : List QueuedFrame) (p : Place) : withoutPlace (withoutPlace q p) p = withoutPlace q p := by
  simp [withoutPlace]

theorem framePlaced_withoutPlace_self (q : List QueuedFrame) (p : Place) : framePlaced (withoutPlace q p) p = none :=
  framePlaced_none.mpr fun _ hg => (mem_withoutPlace.mp hg).2

theorem framePlaced_append_self {q : List QueuedFrame} {g : QueuedFrame} (hq : framePlaced q g.frame.place = none) :
    framePlaced (q ++ [g]) g.frame.place = some g := by
  rw [framePlaced, List.find?_append, show q.find? _ = none from hq]
  simp

/-- A place re-made: it ends empty, it keeps the frame it held, or it holds a new one at the end of the queue. -/
inductive PlaceRemade (q : List QueuedFrame) (p : Place) : Option Queued → List QueuedFrame → Prop where
  | emptied : PlaceRemade q p none (withoutPlace q p)
  | kept {g : QueuedFrame} {f : Queued} (h : framePlaced q p = some g) (hf : g.frame = f) : PlaceRemade q p (some f) q
  | filled {f : Queued} (h : f.place = p) : PlaceRemade q p (some f) (withoutPlace q p ++ [{ frame := f, onLine := false }])

section
variable {q q' : List QueuedFrame} {p : Place}

theorem PlaceRemade.others {f : Option Queued} (h : PlaceRemade q p f q') : withoutPlace q' p = withoutPlace q p := by
  cases h with
  | emptied => exact withoutPlace_twice q p
  | kept => rfl
  | filled hp => rw [withoutPlace_append, withoutPlace_twice]; simp [withoutPlace, hp]

theorem PlaceRemade.of_none (h : PlaceRemade q p none q') : framePlaced q' p = none := by
  cases h
  exact framePlaced_withoutPlace_self q p

theorem PlaceRemade.of_some {f : Queued} (h : PlaceRemade q p (some f) q') :
    ∃ g, framePlaced q' p = some g ∧ g.frame = f := by
  cases h with
  | kept hg hf => exact ⟨_, hg, hf⟩
  | filled hp =>
    subst hp
    exact ⟨_, framePlaced_append_self (g := ⟨f, false⟩) (framePlaced_withoutPlace_self q f.place), rfl⟩

theorem PlaceRemade.mem {f : Option Queued} (hn : (q.map fun g => g.frame.place).Nodup) (h : PlaceRemade q p f q')
    {g : QueuedFrame} (hg : g ∈ q') (hp : g.frame.place = p) : f = some g.frame := by
  cases h with
  | emptied => exact absurd hp (mem_withoutPlace.mp hg).2
  | kept hk hf => rw [eq_of_framePlaced hn hk hg hp, hf]
  | filled hf =>
    obtain hg | hg := List.mem_append.mp hg
    · exact absurd hp (mem_withoutPlace.mp hg).2
    · rw [List.mem_singleton.mp hg]

end

/-! ### The BID place -/

/-- The BID of the bid choice. -/
def State.bidWanted (s : State) : Option Queued := s.bidChoice.map fun e => .bid e.id e.priority e.attempt

theorem Queued.eq_bid_of_place {q : Queued} (h : q.place = .bid) : ∃ id p a, q = .bid id p a := by
  cases q <;> cases h
  exact ⟨_, _, _, rfl⟩

theorem Queued.eq_lapse_of_place {q : Queued} (h : q.place = .lapse) : ∃ id p a, q = .lapse id p a := by
  cases q <;> cases h
  exact ⟨_, _, _, rfl⟩

theorem State.eligible_of_active {s : State} (h : s.station = .active) (e : Entry) : s.eligible e = s.mayBid e := by
  simp [State.eligible, State.mayBid, h]

theorem State.removeFrame_of_off {s : State} {p : Place} (h : ∀ g ∈ s.queue, g.frame.place = p → g.onLine = false) :
    s.removeFrame p = { s with queue := withoutPlace s.queue p } := by
  simp only [State.removeFrame, withoutPlace, State.mk.injEq, true_and, and_true]
  refine List.filter_congr fun g hg => ?_
  by_cases hp : g.frame.place = p
  · simp [hp, h g hg hp]
  · simp [hp]

/-- R102: the BID place follows the bid choice, unless its frame is on the Line. -/
theorem State.remakeBid_remade {s : State} (ht : s.takesPosts = true)
    (hoff : ∀ g ∈ s.queue, g.frame.place = .bid → g.onLine = false) :
    PlaceRemade s.queue .bid s.bidWanted s.remakeBid.queue := by
  unfold State.remakeBid State.bidWanted
  split
  · rename_i hp
    have hwithout := withoutPlace_of_empty hp
    split
    · rename_i hc
      rw [hc]
      exact (congrArg _ hwithout.symm).mpr .emptied
    · rename_i e hc
      rw [hc, State.post_of_empty (f := .bid e.id e.priority e.attempt) ht hp]
      exact (congrArg (fun l => PlaceRemade s.queue .bid _ (l ++ _)) hwithout.symm).mpr (.filled rfl)
  · rename_i g hp
    obtain ⟨hmem, hplace⟩ := framePlaced_some hp
    have hg := hoff g hmem hplace
    rw [if_neg (by simp [hg])]
    split
    · rename_i hc
      rw [hc, State.removeFrame_of_off hoff]
      exact .emptied
    · rename_i e hc
      rw [hc]
      split
      · rename_i heq
        exact .kept hp heq
      · obtain ⟨i, p, a, hbid⟩ := Queued.eq_bid_of_place hplace
        rw [State.post_of_givesWay (f := .bid e.id e.priority e.attempt) ht hp hg (by rw [hbid]; rfl)]
        exact .filled rfl

theorem mem_of_mem_takeWhile_ne {α : Type} [DecidableEq α] {older younger : List α} {a x : α}
    (h : x ∈ (older ++ a :: younger).takeWhile fun y => y ≠ a) : x ∈ older := by
  induction older with
  | nil => simp at h
  | cons b older ih =>
    rw [List.cons_append, List.takeWhile_cons] at h
    split at h
    · obtain rfl | h := List.mem_cons.mp h
      · exact List.mem_cons_self
      · exact List.mem_cons_of_mem _ (ih h)
    · cases h

/-- R101: the bid choice in ACTIVE. -/
theorem State.bidChoice_some {s : State} (hs : s.station = .active) {e : Entry} (h : s.bidChoice = some e) :
    e ∈ s.table ∧ s.mayBid e = true ∧ (∀ x ∈ s.table, s.mayBid x = true → e.priority ≤ x.priority)
      ∧ ∀ x ∈ s.table.takeWhile (fun x => x ≠ e), s.mayBid x = true → e.priority < x.priority := by
  have hmay := State.eligible_of_active hs
  obtain ⟨older, younger, htable, he, hold, hyoung⟩ := pickLeast_filter_some h
  refine ⟨by simp [htable], hmay e ▸ he, fun x hx hxm => ?_, fun x hx hxm => ?_⟩
  · rw [htable] at hx
    obtain hx | hx := List.mem_append.mp hx
    · exact Nat.le_of_lt (hold x hx (hmay x ▸ hxm))
    · obtain rfl | hx := List.mem_cons.mp hx
      · exact Nat.le_refl _
      · exact hyoung x hx (hmay x ▸ hxm)
  · exact hold x (mem_of_mem_takeWhile_ne (htable ▸ hx)) (hmay x ▸ hxm)

theorem State.bidChoice_none {s : State} (hs : s.station = .active) :
    s.bidChoice = none ↔ ∀ e ∈ s.table, s.mayBid e = false := by
  simp [State.bidChoice, pickLeast_none, List.filter_eq_nil_iff, State.eligible_of_active hs]

/-- R101, R102: a place that holds what the bid choice wants follows it. -/
theorem State.bidPlaceFollows_of {s : State} (hs : s.station = .active)
    (hnone : s.bidWanted = none → framePlaced s.queue .bid = none)
    (hmem : ∀ q ∈ s.queue, q.frame.place = .bid → s.bidWanted = some q.frame)
    (hsome : s.bidWanted ≠ none → framePlaced s.queue .bid ≠ none) : s.BidPlaceFollows := by
  have hwanted : s.bidWanted = none ↔ ∀ e ∈ s.table, s.mayBid e = false := by
    rw [← State.bidChoice_none hs]
    simp [State.bidWanted]
  refine ⟨⟨fun hp => hwanted.mp (by_contra fun hne => hsome hne hp), fun hall => hnone (hwanted.mpr hall)⟩,
    fun q hq hp => ?_⟩
  obtain ⟨e, he, hframe⟩ := Option.map_eq_some_iff.mp (hmem q hq hp)
  obtain ⟨hin, hmay, hleast, hfirst⟩ := State.bidChoice_some hs he
  exact ⟨e, hin, hframe.symm, hmay, hleast, hfirst⟩

theorem State.bidWanted_congr {s t : State} (hc : t.config = s.config) (ht : t.table = s.table) (hh : t.held = s.held)
    (hs : t.ctl.state = s.ctl.state) : t.bidWanted = s.bidWanted := by
  have heligible : t.eligible = s.eligible := by
    funext e
    simp [State.eligible, State.station, State.address, hc, hh, hs]
  simp [State.bidWanted, State.bidChoice, heligible, ht]

theorem State.bidPlaceFollows_remakeBid {s : State} (hs : s.station = .active)
    (hn : (s.queue.map fun q => q.frame.place).Nodup)
    (hoff : ∀ g ∈ s.queue, g.frame.place = .bid → g.onLine = false) : s.remakeBid.BidPlaceFollows := by
  have hremade := State.remakeBid_remade (State.takesPosts_of_active hs) hoff
  have hwanted : s.remakeBid.bidWanted = s.bidWanted := State.bidWanted_congr (by simp) (by simp) (by simp) (by simp)
  refine State.bidPlaceFollows_of (by simpa [State.station] using hs) (fun h => ?_) (fun q hq hp => ?_) (fun h => ?_)
  · rw [hwanted] at h
    exact (h ▸ hremade).of_none
  · rw [hwanted]
    exact hremade.mem hn hq hp
  · obtain ⟨f, hf⟩ := Option.ne_none_iff_exists'.mp (hwanted ▸ h)
    obtain ⟨g, hg, -⟩ := (hf ▸ hremade).of_some
    simp [hg]

/-! ### The LAPSE place -/

theorem Entry.isExpired_eq (e : Entry) : e.isExpired = e.claim.any Claim.expired := by
  cases h : e.claim <;> simp [Entry.isExpired, h]

/-- R17: the LAPSE choice is the oldest entry whose expired mark is set. -/
theorem State.lapseChoice_some {s : State} {e : Entry} : s.lapseChoice = some e ↔ e ∈ s.table ∧ s.OldestExpired e := by
  simp only [State.lapseChoice, List.find?_eq_some_iff_append, State.OldestExpired, ← Entry.isExpired_eq]
  constructor
  · rintro ⟨he, older, younger, htable, hold⟩
    exact ⟨by simp [htable], he, fun x hx => by simpa using hold x (mem_of_mem_takeWhile_ne (htable ▸ hx))⟩
  · rintro ⟨hin, he, hold⟩
    obtain ⟨older, younger, htable, hnot⟩ := List.eq_append_cons_of_mem hin
    refine ⟨he, older, younger, htable, fun x hx => ?_⟩
    have hx : x ∈ s.table.takeWhile fun x => x ≠ e := by
      rw [htable, List.takeWhile_append_of_pos fun y hy => by simpa using fun heq : y = e => hnot (heq ▸ hy)]
      exact List.mem_append_left _ hx
    simp [hold x hx]

theorem State.lapseChoice_none {s : State} : s.lapseChoice = none ↔ ∀ e ∈ s.table, e.claim.any Claim.expired = false := by
  simp [State.lapseChoice, Entry.isExpired_eq]

/-- The LAPSE of an entry, as R17 has it posted. -/
def Entry.lapse (e : Entry) : Queued := .lapse e.id e.priority e.attempt

/-- What the LAPSE place is to hold in ACTIVE: the LAPSE in it, when that names the entry of the LAPSE choice, and otherwise
the LAPSE of that entry. -/
def State.lapseWanted (s : State) : Option Queued :=
  s.lapseChoice.map fun e =>
    match framePlaced s.queue .lapse with
    | some g => if g.frame.lapses e.id then g.frame else e.lapse
    | none => e.lapse

/-- R17: the LAPSE place follows the LAPSE choice, unless its frame is on the Line. -/
theorem State.remakeLapse_remade {s : State} (hs : s.station = .active)
    (hoff : ∀ g ∈ s.queue, g.frame.place = .lapse → g.onLine = false) :
    PlaceRemade s.queue .lapse s.lapseWanted s.remakeLapse.queue := by
  have ht := State.takesPosts_of_active hs
  unfold State.remakeLapse State.lapseWanted
  rw [if_pos hs]
  cases hp : framePlaced s.queue .lapse with
  | none =>
    have hwithout := withoutPlace_of_empty hp
    cases hc : s.lapseChoice with
    | none => exact (congrArg _ hwithout.symm).mpr .emptied
    | some e =>
      dsimp only
      rw [State.post_of_empty (f := .lapse e.id e.priority e.attempt) ht hp]
      exact (congrArg (fun l => PlaceRemade s.queue .lapse _ (l ++ _)) hwithout.symm).mpr (.filled rfl)
  | some g =>
    obtain ⟨hmem, hplace⟩ := framePlaced_some hp
    have hg := hoff g hmem hplace
    dsimp only
    rw [if_neg (by simp [hg])]
    cases hc : s.lapseChoice with
    | none =>
      dsimp only
      rw [State.removeFrame_of_off hoff]
      exact .emptied
    | some e =>
      dsimp only [Option.map_some]
      split
      · exact .kept hp rfl
      · obtain ⟨i, p, a, hlapse⟩ := Queued.eq_lapse_of_place hplace
        rw [State.post_of_givesWay (f := .lapse e.id e.priority e.attempt) ht hp hg (by rw [hlapse]; rfl)]
        exact .filled rfl

/-- R17: the frame of the LAPSE place while it is on the Line. -/
theorem State.remakeLapse_of_onLine {s : State} {g : QueuedFrame} (hp : framePlaced s.queue .lapse = some g)
    (hg : g.onLine = true) : s.remakeLapse = s := by
  unfold State.remakeLapse
  split
  · simp [hp, hg]
  · rfl

theorem State.lapseWanted_none {s : State} :
    s.lapseWanted = none ↔ ∀ e ∈ s.table, e.claim.any Claim.expired = false := by
  rw [← State.lapseChoice_none]
  simp [State.lapseWanted]

theorem State.lapseWanted_of_empty {s : State} (hp : framePlaced s.queue .lapse = none) :
    s.lapseWanted = s.lapseChoice.map Entry.lapse := by
  simp only [State.lapseWanted, hp]

theorem Queued.lapses_iff {q : Queued} {id : Identity} : q.lapses id = true ↔ ∃ p a, q = .lapse id p a := by
  cases q <;> simp [Queued.lapses]

/-- R17: the LAPSE that the place is to hold is one of the LAPSE choice. -/
theorem State.lapseWanted_some {s : State} {f : Queued} (h : s.lapseWanted = some f) :
    ∃ e, s.lapseChoice = some e ∧ (f = e.lapse ∨ ∃ g, framePlaced s.queue .lapse = some g ∧ f = g.frame ∧ g.frame.lapses e.id = true) := by
  obtain ⟨e, he, hf⟩ := Option.map_eq_some_iff.mp h
  refine ⟨e, he, ?_⟩
  cases hp : framePlaced s.queue .lapse with
  | none => exact .inl (by simpa [hp] using hf.symm)
  | some g =>
    simp only [hp] at hf
    split at hf
    · rename_i hl
      exact .inr ⟨g, rfl, hf.symm, hl⟩
    · exact .inl hf.symm

/-- R17: a place re-made to hold a LAPSE of the LAPSE choice at its attempt follows the choice. -/
theorem State.lapsePlaceFollows_remakeLapse {s : State} (hs : s.station = .active)
    (hn : (s.queue.map fun q => q.frame.place).Nodup)
    (hoff : ∀ g ∈ s.queue, g.frame.place = .lapse → g.onLine = false)
    (hattempt : ∀ g ∈ s.queue, ∀ e ∈ s.table, ∀ p a, g.frame = .lapse e.id p a → s.OldestExpired e → a = e.attempt) :
    s.remakeLapse.LapsePlaceFollows := by
  have hremade := State.remakeLapse_remade hs hoff
  have htable : s.remakeLapse.table = s.table := by simp
  simp only [State.LapsePlaceFollows, State.OldestExpired, htable]
  refine ⟨⟨fun hp => State.lapseWanted_none.mp (by_contra fun hne => ?_), fun hall => ?_⟩, fun q hq hp => ?_⟩
  · obtain ⟨f, hf⟩ := Option.ne_none_iff_exists'.mp hne
    obtain ⟨g, hg, -⟩ := (hf ▸ hremade).of_some
    simp [hg] at hp
  · exact (State.lapseWanted_none.mpr hall ▸ hremade).of_none
  · obtain ⟨e, he, hframe⟩ := State.lapseWanted_some (hremade.mem hn hq hp)
    obtain ⟨hin, hold⟩ := State.lapseChoice_some.mp he
    refine ⟨e, hin, hold, ?_⟩
    obtain hframe | ⟨g, hg, hframe, hl⟩ := hframe
    · exact ⟨_, hframe⟩
    · obtain ⟨p, a, hlapse⟩ := Queued.lapses_iff.mp hl
      have ha := hattempt g (framePlaced_some hg).1 e hin p a hlapse hold
      exact ⟨p, by rw [hframe, hlapse, ha]⟩

/-- R17: an empty LAPSE place is filled with the LAPSE of the LAPSE choice. -/
theorem State.remakeLapse_queue_of_empty {s : State} (hs : s.station = .active)
    (hp : framePlaced s.queue .lapse = none) {e : Entry} (he : s.lapseChoice = some e) :
    s.remakeLapse.queue = s.queue ++ [{ frame := e.lapse, onLine := false }] := by
  have hremade := State.remakeLapse_remade hs fun g hg hg' => absurd hg' (framePlaced_none.mp hp g hg)
  rw [State.lapseWanted_of_empty hp, he] at hremade
  generalize s.remakeLapse.queue = q' at hremade ⊢
  cases hremade with
  | kept h _ => simp [hp] at h
  | filled => rw [withoutPlace_of_empty hp]

theorem State.remakeLapse_of_empty_none {s : State} (hp : framePlaced s.queue .lapse = none) (he : s.lapseChoice = none) :
    s.remakeLapse = s := by
  unfold State.remakeLapse
  split
  · simp [hp, he]
  · rfl

/-- R17: the LAPSE place re-made over the place as it was, in a state with the same queue. -/
theorem State.lapsePlaceRemade_remakeLapse {s u : State} (hu : u.queue = s.queue) (hs : u.station = .active)
    (hn : (u.queue.map fun q => q.frame.place).Nodup) : s.LapsePlaceRemade u.remakeLapse := by
  have htable : u.remakeLapse.table = u.table := by simp
  have hold : ∀ e, u.remakeLapse.OldestExpired e ↔ u.OldestExpired e := fun e => by
    simp only [State.OldestExpired, htable]
  simp only [State.LapsePlaceRemade, ← hu, htable, hold]
  refine ⟨fun hp => ⟨?_, fun e he hlapse => ?_⟩, fun q hq => ⟨fun hline => ?_, fun hoff hall => ?_, fun hoff e he hlapse => ?_⟩⟩
  · have hnone := framePlaced_none.mp hp
    refine State.lapsePlaceFollows_remakeLapse hs hn (fun g hg hg' => absurd hg' (hnone g hg)) fun g hg e _ p a hf _ => ?_
    exact absurd (by rw [hf]; rfl) (hnone g hg)
  · exact State.remakeLapse_queue_of_empty hs hp (State.lapseChoice_some.mpr ⟨he, hlapse⟩)
  · rw [State.remakeLapse_of_onLine hq hline]
  · have hoff' : ∀ g ∈ u.queue, g.frame.place = .lapse → g.onLine = false := fun g hg hp =>
      eq_of_framePlaced hn hq hg hp ▸ hoff
    exact (State.lapseWanted_none.mpr hall ▸ State.remakeLapse_remade hs hoff').of_none
  · have hoff' : ∀ g ∈ u.queue, g.frame.place = .lapse → g.onLine = false := fun g hg hp =>
      eq_of_framePlaced hn hq hg hp ▸ hoff
    have hchoice := State.lapseChoice_some.mpr ⟨he, hlapse⟩
    have hremade := State.remakeLapse_remade hs hoff'
    refine ⟨fun hnames => ?_, fun hother => ?_⟩
    · unfold State.remakeLapse
      simp [hs, hq, hoff, hchoice, Queued.lapses_iff.mpr hnames]
    · have hl : q.frame.lapses e.id = false := by
        rw [← Bool.not_eq_true]
        exact fun hl => (Queued.lapses_iff.mp hl).elim fun p ⟨a, h⟩ => hother p a h
      have hwanted : u.lapseWanted = some e.lapse := by simp [State.lapseWanted, hchoice, hq, hl]
      rw [hwanted] at hremade
      generalize u.remakeLapse.queue = q' at hremade
      cases hremade with
      | kept h hf =>
        obtain rfl := Option.some.inj (hq.symm.trans h)
        exact absurd hf (hother e.priority e.attempt)
      | filled hp => exact framePlaced_append_self (framePlaced_withoutPlace_self _ _)

end Sys2Proof.Machine
end


section
/-! SUPPORT. The deadline timers (Section 1.3): an expiry at the claimant as one change of the Held List and the notices, and the
LAPSE choice re-made after a tick and after a mark. -/

namespace Sys2Proof.Machine

/-! ### The other places of the queue -/

theorem withoutPlace_filter {q : List QueuedFrame} {p : Place} {k : QueuedFrame → Bool}
    (h : ∀ g ∈ q, g.frame.place ≠ p → k g = true) : withoutPlace (q.filter k) p = withoutPlace q p := by
  simp only [withoutPlace, List.filter_filter]
  refine List.filter_congr fun g hg => ?_
  by_cases hp : g.frame.place = p
  · simp [hp]
  · simp [hp, h g hg hp]

theorem State.withoutPlace_post (s : State) (f : Queued) :
    withoutPlace (s.post f).queue f.place = withoutPlace s.queue f.place := by
  obtain h | ⟨-, h⟩ := s.post_cases f
  · rw [h]
  · rw [h, withoutPlace_append, withoutPlace_twice]
    simp [withoutPlace]

theorem State.withoutPlace_removeFrame (s : State) (p : Place) :
    withoutPlace (s.removeFrame p).queue p = withoutPlace s.queue p :=
  withoutPlace_filter fun g _ hp => by simp [hp]

theorem State.withoutPlace_remakeLapse (s : State) :
    withoutPlace s.remakeLapse.queue .lapse = withoutPlace s.queue .lapse := by
  obtain h | ⟨-, ⟨-, h⟩ | ⟨e, -, h⟩⟩ := s.remakeLapse_cases
  · rw [h]
  · rw [h, State.withoutPlace_removeFrame]
  · rw [h]
    exact s.withoutPlace_post (.lapse e.id e.priority e.attempt)

theorem State.withoutPlace_remakeBid (s : State) :
    withoutPlace s.remakeBid.queue .bid = withoutPlace s.queue .bid := by
  obtain h | ⟨-, h⟩ | ⟨e, -, h⟩ := s.remakeBid_cases
  · rw [h]
  · rw [h, State.withoutPlace_removeFrame]
  · rw [h]
    exact s.withoutPlace_post (.bid e.id e.priority e.attempt)

theorem withoutPlace_eq_filter (q : List QueuedFrame) (p : Place) :
    withoutPlace q p = q.filter fun g => g.frame.place ≠ p :=
  List.filter_congr fun g _ => by simp

/-! ### Expiries at the claimant -/

theorem overrunHeld_of_none {held : List HeldRecord} {id : Identity} {a : Attempt}
    (h : ∀ r ∈ held, r.overruns id a = false) : overrunHeld held id a = held :=
  (List.map_congr_left fun r hr => by rw [h r hr]; rfl).trans (List.map_id _)

theorem overrunNotice_of_none {held : List HeldRecord} {id : Identity} {a : Attempt}
    (h : ∀ r ∈ held, r.overruns id a = false) : overrunNotice held id a = [] :=
  if_neg (by simpa using h)

theorem HeldRecord.overruns_iff {r : HeldRecord} {id : Identity} {a : Attempt} :
    r.overruns id a = true ↔ r.id = id ∧ r.attempt = a ∧ r.state ≠ .closed ∧ r.deadlineNoticed = false := by
  simp [HeldRecord.overruns]

/-- R115: the report of an expiry at the claimant. -/
theorem State.noticeDeadline_eq {s : State} (hn : (s.held.map HeldRecord.id).Nodup) (id : Identity) (a : Attempt) :
    s.noticeDeadline id a =
      { s with held := overrunHeld s.held id a, notices := s.notices ++ overrunNotice s.held id a } := by
  have hquiet : (∀ r ∈ s.held, r.overruns id a = false) →
      s = { s with held := overrunHeld s.held id a, notices := s.notices ++ overrunNotice s.held id a } := fun h => by
    rw [overrunHeld_of_none h, overrunNotice_of_none h, List.append_nil]
  unfold State.noticeDeadline
  cases hrec : s.heldRecord id with
  | none =>
    refine hquiet fun r hr => ?_
    simp [HeldRecord.overruns, State.heldRecord_none.mp hrec r hr]
  | some r =>
    obtain ⟨hr, rfl⟩ := State.heldRecord_some hrec
    have hunique : ∀ x ∈ s.held, x.id = r.id → x = r := fun x hx hid => List.inj_on_of_nodup_map hn hx hr hid
    dsimp only
    split
    · rename_i h
      have hover : r.overruns r.id a = true := HeldRecord.overruns_iff.mpr ⟨rfl, h.1, h.2.1, by simpa using h.2.2⟩
      have hany : s.held.any (HeldRecord.overruns r.id a) = true := List.any_eq_true.mpr ⟨r, hr, hover⟩
      simp only [overrunNotice, hany, if_true, State.notify, State.setHeld, overrunHeld]
      rw [List.map_congr_left (g := fun x => if x.overruns r.id a = true then
        { x with deadlineNoticed := true, unread := x.unread + 1 } else x) fun x hx => ?_]
      by_cases hid : x.id = r.id
      · obtain rfl := hunique x hx hid
        simp [hover]
      · simp [hid, HeldRecord.overruns]
    · rename_i h
      refine hquiet fun x hx => ?_
      rw [← Bool.not_eq_true, HeldRecord.overruns_iff]
      rintro ⟨hid, ha, hst, hd⟩
      obtain rfl := hunique x hx hid
      exact h ⟨ha, hst, by simp [hd]⟩

/-- R13, R15: the timer of the entry reaches 0 at a tick, at its claimant. -/
def Entry.runsOutAt (me : Address) (e : Entry) : Bool := e.claim.any fun c => c.remaining = 1 ∧ c.claimant = me

theorem Entry.tickExpiry_eq (me : Address) (e : Entry) :
    e.tickExpiry me = if e.runsOutAt me then [.expired e.id e.attempt] else [] := by
  cases h : e.claim with
  | none => simp [Entry.tickExpiry, Entry.runsOutAt, h]
  | some c => simp [Entry.tickExpiry, Entry.runsOutAt, h]

/-- R115: the notices of the expiries of a row of entries, in their order. -/
def expiryNotices (me : Address) (held : List HeldRecord) (t : List Entry) : List Notice :=
  t.flatMap fun e => if e.runsOutAt me then overrunNotice held e.id e.attempt else []

/-- R115: the Held List after the expiries of a row of entries. -/
def expiryHeld (me : Address) (held : List HeldRecord) (t : List Entry) : List HeldRecord :=
  held.map fun r =>
    if t.any fun e => e.runsOutAt me = true ∧ r.overruns e.id e.attempt = true then
      { r with deadlineNoticed := true, unread := r.unread + 1 }
    else r

theorem overrunHeld_ids (held : List HeldRecord) (id : Identity) (a : Attempt) :
    (overrunHeld held id a).map HeldRecord.id = held.map HeldRecord.id := by
  simp only [overrunHeld, List.map_map]
  refine List.map_congr_left fun r _ => ?_
  simp only [Function.comp_apply]
  split <;> rfl

/-- An expiry of one entry leaves the records of the others as they were. -/
theorem overrunNotice_of_ne {held : List HeldRecord} {id i : Identity} (h : i ≠ id) (a b : Attempt) :
    overrunNotice (overrunHeld held id a) i b = overrunNotice held i b := by
  have hsame : ∀ r : HeldRecord, (if r.overruns id a then { r with deadlineNoticed := true, unread := r.unread + 1 } else r).overruns i b
      = r.overruns i b := fun r => by
    split
    · rename_i ho
      obtain ⟨hid, -⟩ := HeldRecord.overruns_iff.mp ho
      have hne : r.id ≠ i := fun hi => h (hi.symm.trans hid)
      simp [HeldRecord.overruns, hne]
    · rfl
  simp only [overrunNotice, overrunHeld, List.any_map]
  rw [show (HeldRecord.overruns i b ∘ fun r : HeldRecord =>
    if r.overruns id a then { r with deadlineNoticed := true, unread := r.unread + 1 } else r)
      = HeldRecord.overruns i b from funext hsame]

theorem expiryHeld_cons {me : Address} {held : List HeldRecord} {e : Entry} {t : List Entry} (he : e.runsOutAt me = true) :
    expiryHeld me (overrunHeld held e.id e.attempt) t = expiryHeld me held (e :: t) := by
  simp only [expiryHeld, overrunHeld, List.map_map]
  refine List.map_congr_left fun r _ => ?_
  simp only [Function.comp_apply, List.any_cons, he, true_and]
  by_cases ho : r.overruns e.id e.attempt = true
  · have hrest : ∀ x ∈ t, HeldRecord.overruns x.id x.attempt { r with deadlineNoticed := true, unread := r.unread + 1 } = false := by
      intro x _
      simp [HeldRecord.overruns]
    simp only [ho, if_true, decide_true, Bool.true_or]
    rw [if_neg]
    simpa using fun x hx _ => hrest x hx
  · simp [ho]

/-- R115, R183: the expiries of a row of entries with distinct identities, in their order. -/
theorem State.foldl_expiries (me : Address) (t : List Entry) : ∀ {s : State}, (t.map Entry.id).Nodup →
    (s.held.map HeldRecord.id).Nodup →
    (t.flatMap (Entry.tickExpiry me)).foldl State.deliverExpiry s =
      { s with held := expiryHeld me s.held t, notices := s.notices ++ expiryNotices me s.held t } := by
  induction t with
  | nil =>
    intro s _ _
    simp [expiryHeld, expiryNotices]
  | cons e t ih =>
    intro s ht hn
    obtain ⟨hfresh, ht⟩ := List.nodup_cons.mp ht
    have hne : ∀ x ∈ t, x.id ≠ e.id := fun x hx heq => hfresh (List.mem_map.mpr ⟨x, hx, heq⟩)
    rw [List.flatMap_cons, List.foldl_append, Entry.tickExpiry_eq]
    by_cases he : e.runsOutAt me = true
    · rw [if_pos he, List.foldl_cons, List.foldl_nil]
      rw [show s.deliverExpiry (.expired e.id e.attempt) = _ from State.noticeDeadline_eq hn e.id e.attempt]
      rw [ih ht (by rwa [overrunHeld_ids])]
      rw [expiryHeld_cons he]
      have hnotices : expiryNotices me (overrunHeld s.held e.id e.attempt) t = expiryNotices me s.held t :=
        List.flatMap_congr fun x hx => by rw [overrunNotice_of_ne (hne x hx)]
      have hcons : expiryNotices me s.held (e :: t) = overrunNotice s.held e.id e.attempt ++ expiryNotices me s.held t := by
        simp [expiryNotices, he]
      simp only [hnotices, hcons, List.append_assoc]
    · rw [if_neg he, List.foldl_nil, ih ht hn]
      simp [expiryHeld, expiryNotices, he]

/-! ### The tick -/

/-- R11: the state after a tick, before the LAPSE choice is re-made. -/
def State.ticked (s : State) : State :=
  { s with
    table := s.table.map (Entry.tick s.address), divider := 0
    held := expiryHeld s.address s.held s.table
    notices := s.notices ++ expiryNotices s.address s.held s.table }

theorem State.deadlineTick_eq {s : State} (ht : (s.table.map Entry.id).Nodup) (hn : (s.held.map HeldRecord.id).Nodup) :
    s.deadlineTick = s.ticked.remakeLapse := by
  unfold State.deadlineTick tickTable
  exact congrArg State.remakeLapse (State.foldl_expiries s.address s.table (s := { s with table := _, divider := 0 }) ht hn)

theorem Entry.tick_of_open (me : Address) {e : Entry} (h : e.claim = none) : e.tick me = e := by
  simp only [Entry.tick, h]

theorem Entry.tick_of_claimed (me : Address) {e : Entry} {c : Claim} (h : e.claim = some c) :
    e.tick me =
      if c.remaining = 0 then e
      else
        { e with claim := some { c with
            remaining := c.remaining - 1
            expired := c.expired || (c.remaining = 1 && c.claimant ≠ me) } } := by
  simp [Entry.tick, h]

/-- Settles O18. -/
theorem deadlineTickCountsDown : Obligations.DeadlineTickCountsDown := by
  unfold Obligations.DeadlineTickCountsDown
  intro s hlaw hreset
  have hn := State.Lawful.held_nodup hlaw
  obtain ⟨⟨-, ht⟩, ⟨hplaces, -⟩, -⟩ := hlaw
  have hexec : exec .deadlineTick s = .next s.ticked.remakeLapse := by
    rw [← State.deadlineTick_eq ht hn]
    exact congrArg Host.Outcome.next (if_neg (by simp [hreset]))
  refine ⟨_, hexec, ?_, ?_, fun hs => ?_, fun hs hp => ?_⟩
  · refine s.ticked.remakeLapse_eq.trans ?_
    simp only [State.ticked, State.mk.injEq, true_and, and_true]
    refine ⟨List.map_congr_left fun e _ => ?_, rfl, rfl⟩
    cases hc : e.claim with
    | none => exact Entry.tick_of_open _ hc
    | some c => exact Entry.tick_of_claimed _ hc
  · rw [← withoutPlace_eq_filter, ← withoutPlace_eq_filter, State.withoutPlace_remakeLapse]
    rfl
  · rw [State.remakeLapse_of_not_active (s := s.ticked) hs]
    rfl
  · exact (State.lapsePlaceRemade_remakeLapse (s := s) (u := s.ticked) rfl hs hplaces).1 hp

/-! ### One timer -/

theorem exec_claimantExpiry {s : State} {e : Entry} (he : findEntry s.table e.id = some e)
    (hc : e.claim.map Claim.claimant = some s.address) :
    exec (.claimantExpiry e.id) s = .next ((s.runOutAt e.id).noticeDeadline e.id e.attempt) := by
  simp only [exec, execClaimantExpiry, he, if_pos hc]

theorem exec_expiredMark {s : State} {e : Entry} (he : findEntry s.table e.id = some e) (hsome : e.claim.isSome = true)
    (hc : e.claim.map Claim.claimant ≠ some s.address) :
    exec (.expiredMark e.id) s = .next (s.runOutAt e.id).remakeLapse := by
  simp only [exec, execExpiredMark, he, if_pos (And.intro hsome hc)]

/-- R13: the entries of the table, the one whose timer has run out with its timer at 0. -/
theorem State.runOutAt_eq {s : State} {e : Entry} {c : Claim} (hn : (s.table.map Entry.id).Nodup) (he : e ∈ s.table)
    (hc : e.claim = some c) :
    s.runOutAt e.id =
      { s with table := s.table.map fun x =>
          if x.id = e.id then { x with claim := some { c with remaining := 0, expired := c.expired ∨ c.claimant ≠ s.address } }
          else x } := by
  simp only [State.runOutAt, updateEntry, State.mk.injEq, true_and, and_true]
  refine List.map_congr_left fun x hx => ?_
  split
  · rename_i hid
    obtain rfl : x = e := List.inj_on_of_nodup_map hn hx he hid
    simp only [Entry.runOut, hc]
  · rfl

/-- Settles O19. -/
theorem expiryActsByClaimant : Obligations.ExpiryActsByClaimant := by
  unfold Obligations.ExpiryActsByClaimant
  intro s e c hlaw he hc
  have hn := State.Lawful.held_nodup hlaw
  obtain ⟨⟨-, ht⟩, ⟨hplaces, -⟩, -⟩ := hlaw
  have hfind := findEntry_of_mem ht he
  refine ⟨fun hme => ?_, fun hother => ?_⟩
  · rw [exec_claimantExpiry hfind (by simp [hc, hme]), State.noticeDeadline_eq (s := s.runOutAt e.id) hn,
      State.runOutAt_eq ht he hc]
    simp [hme]
  · rw [exec_expiredMark hfind (by simp [hc]) (by simpa [hc] using hother)]
    have htable : (s.runOutAt e.id).table = s.table.map fun x =>
        if x.id = e.id then { x with claim := some { c with remaining := 0, expired := true } } else x := by
      rw [State.runOutAt_eq ht he hc]
      simp [hother]
    refine ⟨_, rfl, ?_, fun hs => ?_, fun hs => ⟨?_, ?_⟩, ?_⟩
    · refine (s.runOutAt e.id).remakeLapse_eq.trans ?_
      rw [← htable]
      rfl
    · rw [State.remakeLapse_of_not_active (s := s.runOutAt e.id) hs]
      rfl
    · by_contra hnone
      have hempty : framePlaced (s.runOutAt e.id).remakeLapse.queue .lapse = none :=
        framePlaced_none.mpr fun g hg hp => hnone ⟨g, hg, hp⟩
      by_cases hoff : ∀ g ∈ s.queue, g.frame.place = .lapse → g.onLine = false
      · have hremade := State.remakeLapse_remade (s := s.runOutAt e.id) hs hoff
        have hwanted : (s.runOutAt e.id).lapseWanted ≠ none := fun hw => by
          have hmark := State.lapseWanted_none.mp hw
          rw [htable] at hmark
          have := hmark _ (List.mem_map_of_mem he)
          simp at this
        obtain ⟨f, hf⟩ := Option.ne_none_iff_exists'.mp hwanted
        obtain ⟨g, hg, -⟩ := (hf ▸ hremade).of_some
        simp [hg] at hempty
      · push Not at hoff
        obtain ⟨g, hg, hp, hline⟩ := hoff
        have hfirst : framePlaced (s.runOutAt e.id).queue .lapse = some g := by
          cases hq : framePlaced s.queue .lapse with
          | none => exact absurd hp (framePlaced_none.mp hq g hg)
          | some x => exact (congrArg some (eq_of_framePlaced hplaces hq hg hp)).symm ▸ hq
        rw [State.remakeLapse_of_onLine hfirst (by simpa using hline)] at hnone
        exact hnone ⟨g, hg, hp⟩
    · exact State.lapsePlaceRemade_remakeLapse (s := s) (u := s.runOutAt e.id) rfl hs hplaces
    · rw [← withoutPlace_eq_filter, ← withoutPlace_eq_filter, State.withoutPlace_remakeLapse]
      rfl

end Sys2Proof.Machine
end


section
/-! SUPPORT. What a quiet Line brings about: the end of a spacing and of a recovery, the JOIN, the end of the join window; and
the end of the leave drain. -/

namespace Sys2Proof.Machine

/-! ### Causes -/

theorem State.raiseCause_eq (s : State) (c : StationCause) : s.raiseCause c = { s with notices := (s.raiseCause c).notices } := by
  unfold State.raiseCause
  split <;> rfl

theorem State.raiseCause_notices_congr {s t : State} (h : t.notices = s.notices) (c : StationCause) :
    (t.raiseCause c).notices = (s.raiseCause c).notices := by
  rw [State.raiseCause_notices, State.raiseCause_notices, h]

/-! ### The leave drain -/

theorem OriginRecord.unsettled_eq (r : OriginRecord) : r.unsettled = !r.isClosed := by
  unfold OriginRecord.unsettled OriginRecord.isClosed
  cases r.state <;> rfl

theorem State.enterDetached_eq (s : State) :
    s.enterDetached =
      { s with
        ctl := { s.ctl with state := .detached, draining := false }
        table := []
        notices := (s.raiseCause .detached).notices
        liu := s.liu.hold } := by
  unfold State.enterDetached
  rw [State.raiseCause_eq]
  simp only [State.mk.injEq, true_and, and_true]
  exact State.raiseCause_notices_congr (by rfl) _

/-- Settles O49. -/
theorem completeDrainDetaches : Obligations.CompleteDrainDetaches := by
  unfold Obligations.CompleteDrainDetaches
  intro s complete
  have hexec : exec .leaveDrainComplete s = .next s.testDrain := rfl
  have hcomplete : s.drainComplete = true ↔ complete := by
    simp [State.drainComplete_iff, complete, OriginRecord.unsettled_eq]
  refine ⟨fun hs hd hc => ?_, fun h => ?_⟩
  · rw [hexec, State.testDrain, if_pos ⟨hs, hd, hcomplete.mpr hc⟩, State.enterDetached_eq]
    rfl
  · rw [hexec, State.testDrain, if_neg]
    rintro ⟨hs, hd, hc⟩
    obtain hne | hne | hne := h
    · exact hne hs
    · simp [hd] at hne
    · exact hne (hcomplete.mp hc)

/-! ### Spacing and recovery -/

theorem State.spacingComplete_of_spacing {s : State} (hl : s.liuHeld = false) (hp : s.liu.phase = .spacing) :
    s.spacingComplete = { s with liu := s.liu.spaced } :=
  if_pos ⟨by simp [hl], hp⟩

theorem State.spacingComplete_of_other {s : State} (hp : s.liu.phase ≠ .spacing) : s.spacingComplete = s :=
  if_neg fun h => hp h.2

theorem State.startUpReached_of_other {s : State} (h : s.ctl.joinStage ≠ some .idleWait) : s.startUpReached = s :=
  if_neg h

/-- R143: the JOIN is posted into the empty JOIN place. -/
theorem State.startUpReached_of_idleWait {s : State} (h : s.ctl.joinStage = some .idleWait) (ht : s.takesPosts = true)
    (hp : framePlaced s.queue .join = none) :
    s.startUpReached =
      { s with
        ctl := { s.ctl with joinStage := some .joinSending }
        queue := s.queue ++ [{ frame := .join s.ctl.freshOwed, onLine := false }] } := by
  rw [State.startUpReached, if_pos h]
  exact State.post_of_empty (s := { s with ctl := { s.ctl with joinStage := some .joinSending } }) ht hp

theorem State.Lawful.listen_of_stage {s : State} (h : s.Lawful) {j : JoinStage} (hj : s.ctl.joinStage = some j) :
    s.station = .listen :=
  h.lawUpTo.control.stage.mp (by simp [hj])

theorem State.Lawful.joinPlace_empty {s : State} (h : s.Lawful) (hj : s.ctl.joinStage ≠ some .joinSending) :
    framePlaced s.queue .join = none :=
  framePlaced_none.mpr fun _ hq hp => hj ((State.standsFor_join hp).mp (h.lawUpTo.standing hq)).1

/-- R143: what the start-up count brings about, whatever has become of the LIU. -/
theorem State.Lawful.startUpReached_cases {s : State} (h : s.Lawful) (l : Liu) :
    (s.ctl.joinStage ≠ some .idleWait → { s with liu := l }.startUpReached = { s with liu := l })
      ∧ (s.ctl.joinStage = some .idleWait → { s with liu := l }.startUpReached =
          { s with
            liu := l
            ctl := { s.ctl with joinStage := some .joinSending }
            queue := s.queue ++ [{ frame := .join s.ctl.freshOwed, onLine := false }] }) :=
  ⟨fun hj => State.startUpReached_of_other (s := { s with liu := l }) hj, fun hj =>
    State.startUpReached_of_idleWait (s := { s with liu := l }) hj
      (by simp [State.takesPosts, show State.station { s with liu := l } = .listen from h.listen_of_stage hj])
      (h.joinPlace_empty (by simp [hj]))⟩

/-- R60: the LIU once a spacing that runs is complete; in any other phase it is unchanged. -/
def Liu.spacedFrom (l : Liu) : Liu := if l.phase = .spacing then l.spaced else l

theorem State.spacingComplete_eq {s : State} (hl : s.liuHeld = false) : s.spacingComplete = { s with liu := s.liu.spacedFrom } := by
  by_cases hp : s.liu.phase = .spacing
  · rw [State.spacingComplete_of_spacing hl hp, Liu.spacedFrom, if_pos hp]
  · rw [State.spacingComplete_of_other hp, Liu.spacedFrom, if_neg hp]

theorem Liu.spacedFrom_keeps (l : Liu) : l.spacedFrom.failures = l.failures ∧ l.spacedFrom.alone = l.alone := by
  unfold Liu.spacedFrom
  split <;> exact ⟨rfl, rfl⟩

theorem Liu.spacedFrom_idle {l : Liu} (h : l.phase = .idle ∨ l.phase = .spacing) : l.spacedFrom.phase = .idle := by
  unfold Liu.spacedFrom
  split
  · rfl
  · rename_i hp
    exact h.resolve_right hp

theorem Liu.quiet_iff {l : Liu} : l.quiet = true ↔ l.phase = .idle ∨ l.phase = .spacing ∨ l.phase = .recovering := by
  simp [Liu.quiet]

theorem exec_startUpIdle {s : State} (hl : s.liuHeld = false) (hq : s.liu.quiet = true) :
    exec .startUpIdle s = .next
      (State.startUpReached { s with liu := { s.liu.spacedFrom with startUpIdle := 16, dominant := 0 } }) := by
  simp only [exec, execStartUpIdle, if_pos (And.intro (by simp [hl] : ¬ s.liuHeld = true) hq), State.spacingComplete_eq hl]
  rfl

theorem exec_recoveryComplete {s : State} (hl : s.liuHeld = false) (hp : s.liu.phase = .recovering) :
    exec .recoveryComplete s = .next (State.startUpReached { s with liu := s.liu.recover }) :=
  congrArg Host.Outcome.next (if_pos ⟨by simp [hl], hp⟩)

/-- Settles O47. -/
theorem quietLineReturnsToIdle : Obligations.QuietLineReturnsToIdle := by
  unfold Obligations.QuietLineReturnsToIdle
  intro s hlaw hl
  have hposted := fun l => State.Lawful.startUpReached_cases hlaw l
  refine ⟨fun hp => ⟨_, congrArg Host.Outcome.next (State.spacingComplete_of_spacing hl hp), rfl, rfl, ?_, ?_⟩, ?_⟩
  · exact Nat.le_max_right _ _
  · exact Nat.le_max_right _ _
  · intro c hc
    obtain ⟨rfl, hp⟩ | ⟨rfl, hp⟩ := hc
    · obtain ⟨hother, hwait⟩ := hposted s.liu.recover
      refine ⟨_, exec_recoveryComplete hl hp, ?_⟩
      rw [State.startUpReached_liu]
      exact ⟨rfl, rfl, rfl, fun _ => rfl, hother, hwait⟩
    · obtain ⟨hother, hwait⟩ := hposted { s.liu.spacedFrom with startUpIdle := 16, dominant := 0 }
      obtain ⟨hfailures, halone⟩ := s.liu.spacedFrom_keeps
      refine ⟨_, exec_startUpIdle hl (Liu.quiet_iff.mpr hp), ?_⟩
      rw [State.startUpReached_liu]
      refine ⟨rfl, hfailures, halone, fun h => ?_, hother, hwait⟩
      have hne := h.resolve_left (by simp)
      exact Liu.spacedFrom_idle (hp.imp_right fun h => h.resolve_right hne)

/-! ### The join window -/

theorem framePlaced_withoutPlace {q : List QueuedFrame} {p p' : Place} (hp : p' ≠ p) :
    framePlaced (withoutPlace q p) p' = framePlaced q p' := by
  simp only [framePlaced, withoutPlace, List.find?_filter]
  congr 1
  funext g
  by_cases hg : g.frame.place = p' <;> simp [hg, hp]

/-- Queues that agree on the other places agree on the frame of each. -/
theorem framePlaced_of_others {q q' : List QueuedFrame} {p p' : Place} (h : withoutPlace q' p = withoutPlace q p)
    (hp : p' ≠ p) : framePlaced q' p' = framePlaced q p' := by
  rw [← framePlaced_withoutPlace hp, h, framePlaced_withoutPlace hp]

theorem mem_of_others {q q' : List QueuedFrame} {p : Place} (h : withoutPlace q' p = withoutPlace q p) {g : QueuedFrame}
    (hp : g.frame.place ≠ p) : g ∈ q' ↔ g ∈ q := by
  have hmem : g ∈ withoutPlace q' p ↔ g ∈ withoutPlace q p := by rw [h]
  simpa [mem_withoutPlace, hp] using hmem

theorem State.mayBid_iff {s : State} {e : Entry} :
    s.mayBid e = true ↔
      e.claim = none ∧ (ClassTable.entry s.config.classes e.cls).capable = true ∧ e.lastClaimant ≠ some s.address
        ∧ (∀ r ∈ s.held, r.id ≠ e.id) ∧ s.held.length < s.config.slots := by
  simp [State.mayBid]

/-- A state with the same BID place, and the same of what the choice is made from, follows the bid choice as well. -/
theorem State.BidPlaceFollows.congr {s t : State} (h : s.BidPlaceFollows) {p : Place}
    (hq : withoutPlace t.queue p = withoutPlace s.queue p) (hp : p ≠ .bid) (hc : t.config = s.config)
    (ht : t.table = s.table) (hh : t.held = s.held) : t.BidPlaceFollows := by
  have hmay : t.mayBid = s.mayBid := by
    funext e
    rw [Bool.eq_iff_iff]
    rw [State.mayBid_iff, State.mayBid_iff, State.address, State.address, hc, hh]
  unfold State.BidPlaceFollows
  rw [framePlaced_of_others hq hp.symm, ht, hmay]
  exact ⟨h.1, fun g hg hgp => h.2 g ((mem_of_others hq (by rw [hgp]; exact hp.symm)).mp hg) hgp⟩

theorem State.LapsePlaceFollows.congr {s t : State} (h : s.LapsePlaceFollows) {p : Place}
    (hq : withoutPlace t.queue p = withoutPlace s.queue p) (hp : p ≠ .lapse) (ht : t.table = s.table) :
    t.LapsePlaceFollows := by
  unfold State.LapsePlaceFollows State.OldestExpired
  rw [framePlaced_of_others hq hp.symm, ht]
  exact ⟨h.1, fun g hg hgp => h.2 g ((mem_of_others hq (by rw [hgp]; exact hp.symm)).mp hg) hgp⟩

/-- Outside ACTIVE and LEAVING no BID or LAPSE waits (R94). -/
theorem State.LawUpTo.choicePlaces_empty {s : State} (h : s.LawUpTo .none) (hs : s.station = .listen) :
    ∀ q ∈ s.queue, q.frame.place ≠ .bid ∧ q.frame.place ≠ .lapse := by
  intro q hq
  have hst := h.standing hq
  refine ⟨fun hp => ?_, fun hp => ?_⟩
  · have hactive := ((State.standsFor_bid hp).mp hst).1
    simp [hs] at hactive
  · have hactive := (State.standsFor_lapse hp).mp hst
    simp [hs] at hactive

theorem State.enterActive_eq (s : State) :
    s.enterActive =
      { s with
        ctl := { s.ctl with state := .active, joinStage := none }
        notices := (s.raiseCause .joined).notices
        queue := s.enterActive.queue } := by
  refine (State.remakeLapse_eq _).trans ?_
  simp [State.raiseCause_notices, State.enterActive]

/-- R148, R101, R17: what the first choices make of the two empty places at entry to ACTIVE. -/
theorem State.enterActive_choices {s : State} (hq : s.QueueLaw)
    (hempty : ∀ q ∈ s.queue, q.frame.place ≠ .bid ∧ q.frame.place ≠ .lapse) :
    withoutPlace (withoutPlace s.enterActive.queue .lapse) .bid = s.queue
      ∧ s.enterActive.BidPlaceFollows ∧ s.enterActive.LapsePlaceFollows
      ∧ ∀ e, s.enterActive.lapseChoice = some e →
          framePlaced s.enterActive.queue .lapse = some { frame := e.lapse, onLine := false } := by
  have hunfold : s.enterActive =
      (State.raiseCause { s with ctl := { s.ctl with state := .active, joinStage := none } } .joined).remakeBid.remakeLapse :=
    rfl
  rw [hunfold]
  generalize hv : State.raiseCause { s with ctl := { s.ctl with state := .active, joinStage := none } } .joined = v
  have hvq : v.queue = s.queue := by simp [← hv]
  have hvs : v.station = .active := by simp [← hv, State.station]
  have hlaw : v.QueueLaw := by
    subst hv
    exact (State.keeps_raiseCause _ _).queue hq
  have hlaw' := (State.keeps_remakeBid v).queue hlaw
  have hsame := State.withoutPlace_remakeLapse v.remakeBid
  have hsame' := State.withoutPlace_remakeBid v
  have hvs' : v.remakeBid.station = .active := by simpa [State.station] using hvs
  have hnolapse : framePlaced v.remakeBid.queue .lapse = none := by
    rw [framePlaced_of_others hsame' (by decide), hvq, framePlaced_none]
    exact fun g hg => (hempty g hg).2
  refine ⟨?_, ?_, ?_, fun e he => ?_⟩
  · rw [hsame, withoutPlace_of_empty hnolapse, hsame', hvq]
    exact List.filter_eq_self.mpr fun g hg => by simpa using (hempty g hg).1
  · exact (State.bidPlaceFollows_remakeBid hvs hlaw.1 fun g hg hp => absurd hp (hempty g (hvq ▸ hg)).1).congr hsame
      (by decide) (by simp) (by simp) (by simp)
  · exact ((State.lapsePlaceRemade_remakeLapse rfl hvs' hlaw'.1).1 hnolapse).1
  · have he : v.remakeBid.lapseChoice = some e := by simpa [State.lapseChoice] using he
    rw [State.remakeLapse_queue_of_empty hvs' hnolapse he]
    exact framePlaced_append_self (g := ⟨e.lapse, false⟩) hnolapse

theorem exec_joinWindowEnd {s : State} (hl : s.liuHeld = false) (hq : s.liu.quiet = true) :
    exec .joinWindowEnd s = .next
      (State.idleReached { s with liu := { s.liu.spacedFrom with idle := 32, dominant := 0 } }) := by
  simp only [exec, execJoinWindowEnd, if_pos (And.intro (by simp [hl] : ¬ s.liuHeld = true) hq), State.spacingComplete_eq hl]
  rfl

/-- Settles O48. -/
theorem joinWindowEndEntersActive : Obligations.JoinWindowEndEntersActive := by
  unfold Obligations.JoinWindowEndEntersActive
  intro s hlaw hl hp
  rw [exec_joinWindowEnd hl (Liu.quiet_iff.mpr hp)]
  obtain ⟨hfailures, halone⟩ := s.liu.spacedFrom_keeps
  generalize hliu : ({ s.liu.spacedFrom with idle := 32, dominant := 0 } : Liu) = l
  have hl' : l.idle = 32 ∧ l.failures = s.liu.failures ∧ l.alone = s.liu.alone := by
    rw [← hliu]
    exact ⟨rfl, hfailures, halone⟩
  refine ⟨_, rfl, ?_⟩
  by_cases hstage : s.ctl.joinStage = some .window
  · have hlisten := State.Lawful.listen_of_stage hlaw hstage
    have hqueue := hlaw.2.1
    have hreached : State.idleReached { s with liu := l } = State.enterActive { s with liu := l } :=
      if_pos ⟨hlisten, hstage⟩
    obtain ⟨hothers, hbid, hlapse, hfilled⟩ := State.enterActive_choices (s := { s with liu := l }) hqueue
      ((State.Lawful.lawUpTo hlaw).choicePlaces_empty hlisten)
    have heq := State.enterActive_eq { s with liu := l }
    rw [hreached]
    refine ⟨?_, ?_, ?_, fun h => absurd hstage h, fun _ => ⟨?_, ?_, hbid, hlapse, fun e he hold => ?_⟩⟩
    · exact (congrArg (fun u : State => u.liu.idle) heq).trans hl'.1
    · exact (congrArg (fun u : State => u.liu.failures) heq).trans hl'.2.1
    · exact (congrArg (fun u : State => u.liu.alone) heq).trans hl'.2.2
    · refine heq.trans ?_
      rw [State.raiseCause_notices_congr (s := s) (t := { s with liu := l }) (by rfl) .joined]
      simp only [State.mk.injEq, true_and, and_true]
      exact (congrArg State.liu heq).symm
    · refine Eq.trans ?_ hothers
      simp only [withoutPlace, List.filter_filter]
      exact List.filter_congr fun g _ => by simp
    · exact hfilled e (State.lapseChoice_some.mpr ⟨he, hold⟩)
  · have hreached : State.idleReached { s with liu := l } = { s with liu := l } := if_neg fun h => hstage h.2
    rw [hreached]
    exact ⟨hl'.1, hl'.2.1, hl'.2.2, fun _ => rfl, fun h => absurd h hstage⟩

end Sys2Proof.Machine
end


section
/-! SUPPORT. The order of arbitration fields (R54, R63), and edge insertion and removal (R57, R58). -/

namespace Sys2Proof.Machine

/-! ### Arbitration fields -/

theorem BitVec.lt_of_getMsbD {w : Nat} {x y : BitVec w} {i : Nat} (hi : i < w)
    (hbefore : ∀ j < i, x.getMsbD j = y.getMsbD j) (hx : x.getMsbD i = false) (hy : y.getMsbD i = true) : x < y := by
  have hmsb : ∀ (z : BitVec w) (j : Nat), j < w → z.getMsbD j = z.toNat.testBit (w - 1 - j) := fun z j hj => by
    rw [BitVec.getMsbD_eq_getLsbD, BitVec.getLsbD]
    simp [hj]
  rw [BitVec.lt_def]
  refine Nat.lt_of_testBit (w - 1 - i) (hmsb x i hi ▸ hx) (hmsb y i hi ▸ hy) fun j hj => ?_
  by_cases hw : j < w
  · have hbit := hbefore (w - 1 - j) (by omega)
    rwa [hmsb x _ (by omega), hmsb y _ (by omega), show w - 1 - (w - 1 - j) = j by omega] at hbit
  · have hlarge : ∀ z : BitVec w, z.toNat.testBit j = false := fun z =>
      Nat.testBit_lt_two_pow (z.isLt.trans_le (Nat.pow_le_pow_right (by omega) (by omega)))
    rw [hlarge x, hlarge y]

/-- R63: of two words the lower is dominant at the first bit in which they differ. -/
theorem BitVec.lt_iff_getMsbD {w : Nat} {x y : BitVec w} :
    x < y ↔ ∃ i < w, (∀ j < i, x.getMsbD j = y.getMsbD j) ∧ x.getMsbD i = false ∧ y.getMsbD i = true := by
  refine ⟨fun h => ?_, fun ⟨i, hi, hbefore, hx, hy⟩ => BitVec.lt_of_getMsbD hi hbefore hx hy⟩
  have hdiffer : ∃ i, i < w ∧ x.getMsbD i ≠ y.getMsbD i := by
    by_contra hsame
    push Not at hsame
    exact absurd h (BitVec.eq_of_getMsbD_eq hsame ▸ BitVec.lt_irrefl y)
  obtain ⟨hi, hne⟩ := Nat.find_spec hdiffer
  have hbefore : ∀ j < Nat.find hdiffer, x.getMsbD j = y.getMsbD j := fun j hj => by
    have hmin := Nat.find_min hdiffer hj
    push Not at hmin
    exact hmin (hj.trans hi)
  refine ⟨_, hi, hbefore, ?_⟩
  cases hx : x.getMsbD (Nat.find hdiffer) <;> cases hy : y.getMsbD (Nat.find hdiffer)
  · simp [hx, hy] at hne
  · exact ⟨rfl, rfl⟩
  · exact absurd h (BitVec.not_lt.mpr (BitVec.le_of_lt (BitVec.lt_of_getMsbD hi (fun j hj => (hbefore j hj).symm) hy hx)))
  · simp [hx, hy] at hne

theorem BitVec.toNat_append_eq {m n : Nat} (x : BitVec m) (y : BitVec n) : (x ++ y).toNat = x.toNat * 2 ^ n + y.toNat := by
  rw [BitVec.toNat_append, ← Nat.shiftLeft_add_eq_or_of_lt y.isLt, Nat.shiftLeft_eq]

/-- R54: the arbitration field as a number. -/
theorem Frame.arbitrationField_toNat (f : Frame) :
    f.arbitrationField.toNat =
      f.body.eventTraffic.toNat * 32768 + f.head.priority.toNat * 4096 + f.body.kind.toNat * 512
        + f.head.load.toNat * 64 + f.head.sender.toNat := by
  simp only [Frame.arbitrationField, BitVec.toNat_append_eq, BitVec.toNat_ofBool]
  omega

/-- Settles O53. -/
theorem lowestArbitrationFieldWins : Obligations.LowestArbitrationFieldWins := by
  unfold Obligations.LowestArbitrationFieldWins
  intro f g
  refine ⟨BitVec.lt_iff_getMsbD, ?_⟩
  have hbounds : ∀ h : Frame, h.body.eventTraffic.toNat ≤ 1 ∧ h.head.priority.toNat < 8 ∧ h.body.kind.toNat < 8
      ∧ h.head.load.toNat < 8 ∧ h.head.sender.toNat < 64 := fun h =>
    ⟨Bool.toNat_le _, h.head.priority.isLt, h.body.kind.isLt, h.head.load.isLt, h.head.sender.isLt⟩
  have hf := hbounds f
  have hg := hbounds g
  simp only [BitVec.lt_def, Frame.arbitrationField_toNat, Prod.Lex.toLex_lt_toLex]
  omega

/-! ### Edge insertion -/

/-- R57: the run that a further bit of the span begins or continues. -/
def runAfter (last : Bool) (run : Nat) (b : Bool) : Nat := if b = last then run + 1 else 1

theorem runAfter_le {last b : Bool} {run : Nat} (h : run ≤ 5) : runAfter last run b ≤ 6 := by
  unfold runAfter
  split <;> omega

theorem insertEdgesFrom_full (last b : Bool) (rest : List Bool) :
    insertEdgesFrom last 6 (b :: rest) = (!last) :: b :: insertEdgesFrom b (runAfter (!last) 1 b) rest :=
  if_pos rfl

theorem insertEdgesFrom_short {last b : Bool} {run : Nat} (h : run ≠ 6) (rest : List Bool) :
    insertEdgesFrom last run (b :: rest) = b :: insertEdgesFrom b (runAfter last run b) rest :=
  if_neg h

theorem removeEdgesFrom_short {last b : Bool} {run : Nat} (h : run ≠ 6) (rest : List Bool) :
    removeEdgesFrom last run (b :: rest) =
      (b :: (removeEdgesFrom b (runAfter last run b) rest).1, (removeEdgesFrom b (runAfter last run b) rest).2) :=
  if_neg h

theorem removeEdgesFrom_inserted (last : Bool) (rest : List Bool) :
    removeEdgesFrom last 6 ((!last) :: rest) = removeEdgesFrom (!last) 1 rest := by
  simp [removeEdgesFrom, Config.edgeRun]

/-- R58: removal undoes insertion, from any run that no edge error has ended. -/
theorem removeEdgesFrom_insertEdgesFrom (l : List Bool) : ∀ {last : Bool} {run : Nat}, run ≤ 6 →
    removeEdgesFrom last run (insertEdgesFrom last run l) = (l, false) := by
  induction l with
  | nil => intro last run _; rfl
  | cons b rest ih =>
    intro last run hrun
    by_cases h : run = 6
    · subst h
      rw [insertEdgesFrom_full, removeEdgesFrom_inserted, removeEdgesFrom_short (by omega), ih (runAfter_le (by omega))]
    · rw [insertEdgesFrom_short h, removeEdgesFrom_short h, ih (runAfter_le (by omega))]

/-- R58: the bits of a span as sent give back the span, without an edge error. -/
theorem removeEdges_insertEdges (span : List Bool) : removeEdges (insertEdges span) = (span, false) := by
  cases span with
  | nil => rfl
  | cons b rest => simp only [insertEdges, removeEdges, removeEdgesFrom_insertEdgesFrom rest (last := b) (run := 1) (by omega)]

/-- No run of more than six equal bits, in bits that follow a run of `run` bits `last`. -/
def ShortRuns (last : Bool) (run : Nat) : List Bool → Prop
  | [] => True
  | b :: rest => runAfter last run b ≤ 6 ∧ ShortRuns b (runAfter last run b) rest

/-- R57: no seven bits in a row are equal. -/
theorem shortRuns_insertEdgesFrom (l : List Bool) : ∀ {last : Bool} {run : Nat}, run ≤ 6 →
    ShortRuns last run (insertEdgesFrom last run l) := by
  induction l with
  | nil => intro last run _; trivial
  | cons b rest ih =>
    intro last run hrun
    by_cases h : run = 6
    · subst h
      have hnew : runAfter last 6 (!last) = 1 := by simp [runAfter]
      rw [insertEdgesFrom_full]
      refine ⟨by omega, ?_⟩
      rw [hnew]
      exact ⟨runAfter_le (by omega), ih (runAfter_le (by omega))⟩
    · rw [insertEdgesFrom_short h]
      exact ⟨runAfter_le (by omega), ih (runAfter_le (by omega))⟩

theorem ShortRuns.replicate_le {n : Nat} {last b : Bool} {run : Nat} {after : List Bool} (hrun : run ≤ 6)
    (h : ShortRuns last run (List.replicate n b ++ after)) : n ≤ 6 ∧ (b = last → run + n ≤ 6) := by
  induction n generalizing last run with
  | zero => exact ⟨by omega, fun _ => hrun⟩
  | succ n ih =>
    obtain ⟨hle, hrest⟩ := h
    have hlater := (ih hle hrest).2 rfl
    unfold runAfter at hle hlater
    split at hlater
    · exact ⟨by omega, fun _ => by omega⟩
    · rename_i hne
      exact ⟨by omega, fun heq => absurd heq hne⟩

theorem ShortRuns.run_le {n : Nat} {b : Bool} {before after : List Bool} :
    ∀ {last : Bool} {run : Nat}, run ≤ 6 → ShortRuns last run (before ++ List.replicate n b ++ after) → n ≤ 6 := by
  induction before with
  | nil => exact fun hrun h => (ShortRuns.replicate_le hrun h).1
  | cons c before ih => exact fun _ h => ih h.1 h.2

/-- R57, Section 3.10: the bits that a run of `run` bits and a row of `l` take at most. -/
theorem length_insertEdgesFrom_le (l : List Bool) : ∀ {last : Bool} {run : Nat}, run ≤ 6 →
    (insertEdgesFrom last run l).length
      ≤ l.length + (if run + l.length < 7 then 0 else (run + l.length - 7) / 5 + 1) := by
  induction l with
  | nil => intro last run _; exact Nat.zero_le _
  | cons b rest ih =>
    intro last run hrun
    by_cases h : run = 6
    · subst h
      have hafter : runAfter (!last) 1 b ≤ 2 := by unfold runAfter; split <;> omega
      have hrest := ih (last := b) (run := runAfter (!last) 1 b) (by omega)
      rw [insertEdgesFrom_full, List.length_cons, List.length_cons, List.length_cons]
      split at hrest <;> split <;> omega
    · have hafter : runAfter last run b ≤ run + 1 := by unfold runAfter; split <;> omega
      have hrest := ih (last := b) (run := runAfter last run b) (by omega)
      rw [insertEdgesFrom_short h, List.length_cons, List.length_cons]
      split at hrest <;> split <;> omega

/-- Settles O52. -/
theorem edgeInsertionKeepsTheSpan : Obligations.EdgeInsertionKeepsTheSpan := by
  unfold Obligations.EdgeInsertionKeepsTheSpan
  intro span
  refine ⟨removeEdges_insertEdges span, fun before after b heq => ?_, ?_⟩
  · have hruns : ∃ last, ShortRuns last 0 (insertEdges span) := by
      cases span with
      | nil => exact ⟨true, trivial⟩
      | cons c rest =>
        have hone : runAfter c 0 c = 1 := by simp [runAfter]
        refine ⟨c, by omega, ?_⟩
        rw [hone]
        exact shortRuns_insertEdgesFrom rest (by omega)
    obtain ⟨last, hruns⟩ := hruns
    rw [heq] at hruns
    have hle := hruns.run_le (by omega)
    omega
  · cases span with
    | nil => exact Nat.zero_le _
    | cons c rest =>
      have hle := length_insertEdgesFrom_le rest (last := c) (run := 1) (by omega)
      simp only [insertEdges, List.length_cons]
      rw [Nat.add_comm 1] at hle
      omega

end Sys2Proof.Machine
end


section
/-! SUPPORT. What a receiver reads out of a frame's bits (R54 to R59, R65): each field in its place, the body of each kind, the
payload and the check field. -/

namespace Sys2Proof.Machine

/-! ### Fields -/

@[simp] theorem length_bitsOf (n : Nat) (x : BitVec n) : (bitsOf n x).length = n := by
  simp [bitsOf]

theorem bitsOf_append {m n : Nat} (x : BitVec m) (y : BitVec n) : bitsOf (m + n) (x ++ y) = bitsOf m x ++ bitsOf n y := by
  simp only [bitsOf, List.range_add, List.map_append, List.map_map]
  congr 1
  · refine List.map_congr_left fun i hi => ?_
    simp [BitVec.getMsbD_append, List.mem_range.mp hi]
  · refine List.map_congr_left fun i _ => ?_
    simp [BitVec.getMsbD_append]

theorem bitsOf_ofBool (b : Bool) : bitsOf 1 (BitVec.ofBool b) = [b] := by
  cases b <;> rfl

theorem natOfBits_append (l : List Bool) (b : Bool) : natOfBits (l ++ [b]) = 2 * natOfBits l + b.toNat := by
  simp [natOfBits]

/-- The bits of a field spell its number (R54). -/
theorem natOfBits_bitsOf {n : Nat} (x : BitVec n) : natOfBits (bitsOf n x) = x.toNat := by
  have hprefix : ∀ k ≤ n, natOfBits ((List.range k).map fun i => x.getMsbD i) = x.toNat / 2 ^ (n - k) := by
    intro k
    induction k with
    | zero => intro _; simp [natOfBits, Nat.div_eq_of_lt x.isLt]
    | succ k ih =>
      intro hk
      rw [List.range_succ, List.map_append, List.map_singleton, natOfBits_append, ih (by omega)]
      have hbit : x.getMsbD k = (x.toNat.testBit (n - (k + 1))) := by
        rw [BitVec.getMsbD_eq_getLsbD, BitVec.getLsbD, show n - 1 - k = n - (k + 1) by omega]
        simp [show k < n by omega]
      rw [hbit, show n - k = n - (k + 1) + 1 by omega, pow_succ, ← Nat.div_div_eq_div_mul,
        Nat.testBit_eq_decide_div_mod_eq]
      generalize x.toNat / 2 ^ (n - (k + 1)) = d
      obtain h | h := Nat.mod_two_eq_zero_or_one d <;> simp [h] <;> omega
  simpa [bitsOf] using hprefix n (Nat.le_refl n)

theorem fieldAt_here {n : Nat} (x : BitVec n) (l : List Bool) : fieldAt (bitsOf n x ++ l) 0 n = x := by
  rw [fieldAt, List.drop_zero, List.take_left' (length_bitsOf n x), natOfBits_bitsOf, BitVec.ofNat_toNat]
  simp

theorem fieldAt_later {a n : Nat} {first : List Bool} (l : List Bool) (h : first.length ≤ a) :
    fieldAt (first ++ l) a n = fieldAt l (a - first.length) n := by
  simp only [fieldAt, List.drop_append, List.drop_eq_nil_of_le h, List.nil_append]

theorem fieldAt_cons {a n : Nat} (b : Bool) (l : List Bool) (h : 0 < a) : fieldAt (b :: l) a n = fieldAt l (a - 1) n :=
  fieldAt_later (first := [b]) l h

/-- A field of the bits of a frame, after the fields before it. -/
theorem fieldAt_of_length {a n : Nat} {first : List Bool} (x : BitVec n) (l : List Bool) (h : first.length = a) :
    fieldAt (first ++ (bitsOf n x ++ l)) a n = x := by
  rw [fieldAt_later _ h.le, h, Nat.sub_self, fieldAt_here]

/-! ### The fields of a frame -/

/-- Positions 0 to 16: the start bit and the arbitration field (R54). -/
def arbitrationBits (f : Frame) : List Bool :=
  [false] ++ ([f.body.eventTraffic] ++ (bitsOf 3 f.head.priority ++ (bitsOf 3 f.body.kind ++ (bitsOf 3 f.head.load
    ++ bitsOf 6 f.head.sender))))

/-- Positions 17 to 37: the identity, the attempt and the payload's length. -/
def headBits (f : Frame) : List Bool :=
  bitsOf 6 f.head.id.origin ++ (bitsOf 8 f.head.id.serial ++ (bitsOf 3 f.head.attempt
    ++ bitsOf 4 (BitVec.ofNat 4 f.head.payload.length)))

/-- The check field of a frame (R59). -/
def checkBits (f : Frame) : List Bool := bitsOf 16 (crc16 f.coveredBits)

theorem bitsOf_arbitrationField (f : Frame) : [false] ++ bitsOf 16 f.arbitrationField = arbitrationBits f := by
  have happend : bitsOf 16 f.arbitrationField = bitsOf (1 + 3 + 3 + 3 + 6)
      (BitVec.ofBool f.body.eventTraffic ++ f.head.priority ++ f.body.kind ++ f.head.load ++ f.head.sender) := rfl
  rw [happend]
  simp only [bitsOf_append, bitsOf_ofBool, arbitrationBits, List.append_assoc]

@[simp] theorem length_arbitrationBits (f : Frame) : (arbitrationBits f).length = 17 := by
  simp [arbitrationBits]

@[simp] theorem length_headBits (f : Frame) : (headBits f).length = 21 := by
  simp [headBits]

@[simp] theorem length_checkBits (f : Frame) : (checkBits f).length = 16 := by
  simp [checkBits]

theorem length_payloadBits (payload : List Byte) : (payloadBits payload).length = 8 * payload.length := by
  induction payload with
  | nil => rfl
  | cons b payload ih =>
    have hcons : payloadBits (b :: payload) = bitsOf 8 b ++ payloadBits payload := rfl
    rw [hcons, List.length_append, length_bitsOf, ih, List.length_cons]
    omega

theorem coveredBits_eq (f : Frame) :
    [false] ++ f.coveredBits = arbitrationBits f ++ (headBits f ++ (f.body.bits ++ payloadBits f.head.payload)) := by
  rw [← bitsOf_arbitrationField]
  simp only [Frame.coveredBits, headBits, List.append_assoc]

/-- R54: the span of a frame, field by field. -/
theorem spanBits_eq (f : Frame) :
    f.spanBits = arbitrationBits f ++ (headBits f ++ (f.body.bits ++ (payloadBits f.head.payload ++ checkBits f))) := by
  have hspan : f.spanBits = ([false] ++ f.coveredBits) ++ checkBits f := rfl
  rw [hspan, coveredBits_eq]
  simp only [List.append_assoc]

/-- Table 3-4: the length of a frame's body is that of its kind. -/
theorem bodyLength_eq (b : Body) : bodyLength b.eventTraffic b.kind = some b.bits.length := by
  cases b <;> simp [bodyLength, Body.eventTraffic, Body.kind, Body.bits]

/-- Table 3-4: the body that a frame's bits spell, by the kind of the frame. -/
theorem bodyOfBits_eq (b : Body) {first later : List Bool} (h : first.length = 38) :
    bodyOfBits b.eventTraffic b.kind (first ++ (b.bits ++ later)) = some b := by
  have hfield : ∀ (a n : Nat) (l : List Bool), 38 ≤ a → fieldAt (first ++ l) a n = fieldAt l (a - 38) n :=
    fun a n l ha => h ▸ fieldAt_later l (h ▸ ha)
  have hbit : ∀ (a : Nat) (l : List Bool), 38 ≤ a → (first ++ l)[a]? = l[a - 38]? :=
    fun a l ha => h ▸ List.getElem?_append_right (h ▸ ha)
  cases b with
  | withdraw | lapse | bid => rfl
  | join fresh => simp [bodyOfBits, Body.eventTraffic, Body.kind, hbit, Body.bits]
  | finish result => simp [bodyOfBits, Body.eventTraffic, Body.kind, hfield, Body.bits, fieldAt_here]
  | release reserved => simp [bodyOfBits, Body.eventTraffic, Body.kind, hfield, Body.bits, fieldAt_here]
  | raise cls limit deadline =>
    simp [bodyOfBits, Body.eventTraffic, Body.kind, hfield, Body.bits, fieldAt_here, fieldAt_later]
  | restate cls limit deadline claimed station remaining =>
    simp [bodyOfBits, Body.eventTraffic, Body.kind, hfield, hbit, Body.bits, fieldAt_here, fieldAt_later, fieldAt_cons,
      List.getElem?_append_right]

/-- The bytes of a payload, from where its bits begin. -/
theorem payloadOfBits_eq (payload : List Byte) : ∀ {first later : List Bool} {a : Nat}, first.length = a →
    payloadOfBits (first ++ (payloadBits payload ++ later)) a payload.length = payload := by
  induction payload with
  | nil => intro _ _ _ _; rfl
  | cons b payload ih =>
    intro first later a h
    have hcons : payloadBits (b :: payload) ++ later = bitsOf 8 b ++ (payloadBits payload ++ later) :=
      List.append_assoc ..
    rw [List.length_cons, payloadOfBits, hcons, fieldAt_of_length b _ h, ← List.append_assoc,
      ih (by rw [List.length_append, h, length_bitsOf])]

/-! ### The checks of Table 3-6 -/

theorem length_spanBits (f : Frame) :
    f.spanBits.length = 38 + f.body.bits.length + 8 * f.head.payload.length + 16 := by
  simp [spanBits_eq f, length_payloadBits]
  omega

/-- Table 3-3: the fields of positions 1 to 16 in the bits of a span. -/
theorem spanBits_arbitration (f : Frame) :
    f.spanBits.getD 1 false = f.body.eventTraffic ∧ fieldAt f.spanBits 2 3 = f.head.priority
      ∧ fieldAt f.spanBits 5 3 = f.body.kind ∧ fieldAt f.spanBits 8 3 = f.head.load
      ∧ fieldAt f.spanBits 11 6 = f.head.sender := by
  simp [spanBits_eq f, arbitrationBits, fieldAt_later, fieldAt_here, fieldAt_cons]

/-- Table 3-3: the fields of positions 17 to 37 in the bits of a span. -/
theorem spanBits_head (f : Frame) :
    fieldAt f.spanBits 17 6 = f.head.id.origin ∧ fieldAt f.spanBits 23 8 = f.head.id.serial
      ∧ fieldAt f.spanBits 31 3 = f.head.attempt
      ∧ fieldAt f.spanBits 34 4 = BitVec.ofNat 4 f.head.payload.length := by
  simp [spanBits_eq f, headBits, fieldAt_later, fieldAt_here]

theorem spanBits_body (f : Frame) : bodyOfBits f.body.eventTraffic f.body.kind f.spanBits = some f.body := by
  rw [spanBits_eq f, ← List.append_assoc]
  exact bodyOfBits_eq f.body (by simp)

theorem spanBits_payload (f : Frame) :
    payloadOfBits f.spanBits (38 + f.body.bits.length) f.head.payload.length = f.head.payload := by
  rw [spanBits_eq f, ← List.append_assoc, ← List.append_assoc]
  exact payloadOfBits_eq f.head.payload (by simp; omega)

/-- R54: the check field covers the bits between the start bit and it. -/
theorem spanBits_covered (f : Frame) :
    (f.spanBits.take (38 + f.body.bits.length + 8 * f.head.payload.length)).drop 1 = f.coveredBits := by
  have hcut : f.spanBits = ([false] ++ f.coveredBits) ++ checkBits f := rfl
  have hcount : ([false] ++ f.coveredBits).length = 38 + f.body.bits.length + 8 * f.head.payload.length := by
    rw [coveredBits_eq]
    simp [length_payloadBits]
    omega
  rw [hcut, List.take_left' hcount]
  rfl

theorem spanBits_check (f : Frame) :
    fieldAt f.spanBits (38 + f.body.bits.length + 8 * f.head.payload.length) 16 = crc16 f.coveredBits := by
  rw [spanBits_eq f, ← List.append_assoc, ← List.append_assoc, ← List.append_assoc, ← List.append_nil (checkBits f)]
  exact fieldAt_of_length (crc16 f.coveredBits) [] (by simp [length_payloadBits]; omega)

/-- R65: the checks over the span of a frame find the error that its fields have, or the frame. -/
theorem checkSpan_spanBits {f : Frame} (h : f.head.payload.length ≤ 8) : checkSpan f.spanBits = f.formatVerdict := by
  obtain ⟨hevent, hpriority, hkind, hload, hsender⟩ := spanBits_arbitration f
  obtain ⟨horigin, hserial, hattempt, hlen⟩ := spanBits_head f
  have hlen' : (BitVec.ofNat 4 f.head.payload.length).toNat = f.head.payload.length := by
    rw [BitVec.toNat_ofNat]
    omega
  have hshort : ¬ 8 < f.head.payload.length := by omega
  unfold checkSpan Frame.formatVerdict
  simp only [hevent, hkind, bodyLength_eq, spanBits_body, hpriority, hload, hsender, horigin, hserial, hattempt, hlen,
    hlen', spanBits_payload, spanBits_covered, spanBits_check, length_spanBits, if_neg hshort]
  rw [if_neg (by omega)]
  split
  · rfl
  · rw [if_neg (by omega), if_neg (by omega)]
    split
    · rfl
    · rw [if_neg (by omega), if_pos trivial]

/-- Settles O51: removal undoes insertion, and the checks read the span's own fields. -/
theorem receivedFrameIsTheSentFrame : Obligations.ReceivedFrameIsTheSentFrame := by
  unfold Obligations.ReceivedFrameIsTheSentFrame
  intro f hwf
  have hremoved : (removeEdges f.wireBits).1 = f.spanBits := congrArg Prod.fst (removeEdges_insertEdges f.spanBits)
  rw [receive, hremoved]
  exact checkSpan_spanBits (by simpa [Frame.wf, Header.wf] using hwf)

end Sys2Proof.Machine
end


section
/-! SUPPORT. The start of a frame: which frame it is (R84), what it makes of the LIU (R62), and how it is composed (R43, R79). -/

namespace Sys2Proof.Machine

/-! ### The start edge -/

theorem Liu.seesStartEdge_iff {l : Liu} :
    l.seesStartEdge = true ↔ l.phase = .idle ∨ (l.phase = .spacing ∧ l.firstSpacing = false ∧ 7 ≤ l.recessive) := by
  simp [Liu.seesStartEdge, Config.earlyEdgeSamples]

theorem State.selected_none {s : State} : s.selected = none ↔ s.candidates = [] :=
  pickLeast_none _ _

theorem State.readyToStart_eq_false {s : State}
    (h : s.takesPosts = false ∨ s.liu.startUpIdle ≠ 16 ∨ s.frameOnLine ≠ none ∨ s.candidates = []) :
    s.readyToStart = false := by
  rw [← Bool.not_eq_true, State.readyToStart_iff]
  rintro ⟨ht, hcount, hline, -, q, f, hselected⟩
  obtain h | h | h | h := h
  · simp [ht] at h
  · exact h hcount
  · exact h hline
  · simp [State.selected_none.mpr h] at hselected

theorem State.startFrame_of_selected {s : State} {q : QueuedFrame} {f : Frame} (h : s.selected = some (q, f)) :
    s.startFrame =
      { s with
        queue := s.queue.map fun g => if g.frame.place = q.frame.place then { g with onLine := true } else g
        image := some { frame := f, bits := f.wireBits }
        liu := { s.liu with phase := .arbitrating, dominant := 0, txSent := 0 } } := by
  simp only [State.startFrame, h]

/-- R62: a start at an edge is the start that the station would make alone. -/
theorem State.startFrame_atEdge {s : State} (h : s.readyToStart = true) :
    State.startFrame { s with liu := s.liu.atEdge } = s.startFrame := by
  obtain ⟨-, -, -, -, q, f, hselected⟩ := State.readyToStart_iff.mp h
  rw [State.startFrame_of_selected hselected, State.startFrame_of_selected (s := { s with liu := s.liu.atEdge }) hselected]
  rfl

section
variable {s : State} (hl : s.liuHeld = false) (himage : s.image = none)
include hl himage

theorem State.edge_eq : s.edge = State.dominantSample { s with liu := s.liu.atEdge } :=
  if_neg (by simp [hl, himage])

theorem State.edge_of_ready (hsees : s.liu.seesStartEdge = true) (hready : s.readyToStart = true) : s.edge = s.startFrame := by
  rw [State.edge_eq hl himage, State.dominantSample, if_pos (by exact hsees), if_pos (by exact hready),
    State.startFrame_atEdge hready]

theorem State.edge_of_unready (hsees : s.liu.seesStartEdge = true) (hready : s.readyToStart = false) :
    s.edge = { s with liu := { s.liu with
      phase := .receiving, recessive := 0, idle := 0, dominant := 1
      startUpIdle := if s.liu.startUpIdle = 16 then 16 else 0 } } := by
  have hphase : s.liu.phase ≠ .recovering := by
    obtain h | ⟨h, -⟩ := Liu.seesStartEdge_iff.mp hsees <;> simp [h]
  rw [State.edge_eq hl himage, State.dominantSample, if_pos (by exact hsees)]
  rw [if_neg (by exact fun h => Bool.false_ne_true (hready.symm.trans h))]
  by_cases hcount : s.liu.startUpIdle = 16 <;>
    simp [Liu.atEdge, Liu.sample, hphase, hcount, Config.stuckSamples, Config.startUpSamples]

theorem State.edge_of_early (hphase : s.liu.phase = .spacing) (hearly : s.liu.firstSpacing = true ∨ s.liu.recessive < 7) :
    s.edge = { s with liu := { s.liu with
      recessive := 0, idle := 0, dominant := 1
      startUpIdle := if s.liu.startUpIdle = 16 then 16 else 0 } } := by
  have hsees : ¬ s.liu.atEdge.seesStartEdge = true := by
    rw [Liu.seesStartEdge_iff]
    rintro (h | ⟨-, hfirst, hlate⟩)
    · simp [Liu.atEdge, hphase] at h
    · obtain h | h := hearly
      · exact Bool.false_ne_true (hfirst.symm.trans h)
      · exact absurd hlate (by simpa [Liu.atEdge] using h)
  rw [State.edge_eq hl himage, State.dominantSample, if_neg (by exact hsees), State.sampleLine_of_lt]
  · by_cases hcount : s.liu.startUpIdle = 16 <;>
      simp [Liu.atEdge, Liu.sample, hphase, hcount, Config.stuckSamples, Config.startUpSamples]
  · simp [Liu.atEdge, Liu.sample, hphase, Config.stuckSamples]

end

theorem State.startAlone_of_ready {s : State} (hl : s.liuHeld = false) (hphase : s.liu.phase = .idle)
    (hready : s.readyToStart = true) : s.startAlone = s.startFrame :=
  if_pos ⟨by simp [hl], hphase, hready⟩

/-- Settles O22. -/
theorem frameStartSelectsLowestKey : Obligations.FrameStartSelectsLowestKey := by
  unfold Obligations.FrameStartSelectsLowestKey
  intro s edge hl startEdge
  have hsees : startEdge → s.liu.seesStartEdge = true := fun h =>
    Liu.seesStartEdge_iff.mpr (h.imp_right fun ⟨_, hspacing⟩ => hspacing)
  refine ⟨fun hedge ht hcount hline himage hcandidates => ?_, ?_, ?_⟩
  · obtain ⟨⟨q, f⟩, hselected⟩ := Option.ne_none_iff_exists'.mp (mt State.selected_none.mp hcandidates)
    have hready : s.readyToStart = true := State.readyToStart_iff.mpr ⟨ht, hcount, hline, himage, q, f, hselected⟩
    obtain ⟨older, younger, hsplit, hold, hyoung⟩ := pickLeast_some _ _ _ hselected
    refine ⟨(q, f), pickLeast_mem _ _ _ hselected, fun x hx => hold x (mem_of_mem_takeWhile_ne (hsplit ▸ hx)),
      fun x hx => pickLeast_le (key := fun c : QueuedFrame × Frame => c.2.arbitrationField.toNat) hselected hx, ?_⟩
    rw [← State.startFrame_of_selected hselected]
    cases edge with
    | alone =>
      have hphase : s.liu.phase = .idle := hedge.resolve_right (by simp)
      exact congrArg Host.Outcome.next (State.startAlone_of_ready hl hphase hready)
    | peerEdge => exact congrArg Host.Outcome.next (State.edge_of_ready hl himage (hsees hedge) hready)
  · rintro rfl hedge himage hnot
    exact congrArg Host.Outcome.next (State.edge_of_unready hl himage (hsees hedge) (State.readyToStart_eq_false hnot))
  · rintro rfl hphase himage hearly
    exact congrArg Host.Outcome.next (State.edge_of_early hl himage hphase hearly)

/-! ### The frame that is started -/

/-- R43: the entry of a queued RESTATE is present. -/
theorem State.Lawful.entry_of_restate {s : State} (h : s.Lawful) {q : QueuedFrame} (hq : q ∈ s.queue) {id : Identity}
    (hf : q.frame = .restate id) : id.origin = s.address ∧ ∃ e, findEntry s.table id = some e := by
  obtain ⟨ho, r, hr, hserial, hb⟩ := (State.standsFor_identity (id := id) (by rw [hf]; rfl)).mp (h.lawUpTo.standing hq)
  have hp : r.inPool = true := by
    simp only [OriginRecord.backs, hf] at hb
    obtain hst | ⟨hst, -⟩ := hb <;> simp [OriginRecord.inPool, hst]
  obtain ⟨e, he, hid⟩ := h.lawUpTo.entry_of_inPool hr hp
  refine ⟨ho, e, ?_⟩
  rw [← State.ownId_of_origin ho, ← hserial, ← hid]
  exact findEntry_of_mem h.1.2 he

/-- R43: every queued frame of a lawful state can be composed. -/
theorem State.Lawful.compose_isSome {s : State} (h : s.Lawful) {q : QueuedFrame} (hq : q ∈ s.queue) :
    (s.compose q.frame).isSome = true := by
  cases hf : q.frame with
  | restate id =>
    obtain ⟨-, e, he⟩ := h.entry_of_restate hq hf
    simp [State.compose, he]
  | raise | withdraw | bid | lapse | finish | release | join => rfl

theorem filterMap_fst_of_isSome {α β : Type} {g : α → Option β} {l : List α} (h : ∀ a ∈ l, (g a).isSome = true) :
    (l.filterMap fun a => (g a).map fun b => (a, b)).map Prod.fst = l := by
  induction l with
  | nil => rfl
  | cons a l ih =>
    obtain ⟨b, hb⟩ := Option.isSome_iff_exists.mp (h a List.mem_cons_self)
    simp [hb, ih fun x hx => h x (List.mem_cons_of_mem _ hx)]

theorem State.candidates_places {s : State} (h : s.Lawful) : s.candidates.map Prod.fst = s.queue :=
  filterMap_fst_of_isSome (g := fun q : QueuedFrame => s.compose q.frame) fun _ hq => h.compose_isSome hq

theorem State.mem_candidates {s : State} {c : QueuedFrame × Frame} (h : c ∈ s.candidates) :
    c.1 ∈ s.queue ∧ s.compose c.1.frame = some c.2 := by
  obtain ⟨q, hq, hc⟩ := List.mem_filterMap.mp h
  obtain ⟨f, hf, rfl⟩ := Option.map_eq_some_iff.mp hc
  exact ⟨hq, hf⟩

/-- Settles O23. -/
theorem startedFrameIsComposed : Obligations.StartedFrameIsComposed := by
  unfold Obligations.StartedFrameIsComposed
  refine ⟨fun s hlaw => ⟨State.candidates_places hlaw, fun c hc => ?_⟩, fun f => ?_, rfl, fun covered b => ?_⟩
  · obtain ⟨hq, hcomposed⟩ := State.mem_candidates hc
    have hst := (State.Lawful.lawUpTo hlaw).standing hq
    cases hf : c.1.frame with
    | withdraw | lapse | finish | release | join =>
      rw [hf] at hcomposed
      exact (Option.some.inj hcomposed).symm
    | raise id =>
      rw [hf] at hcomposed
      exact ⟨((State.standsFor_identity (id := id) (by rw [hf]; rfl)).mp hst).1, (Option.some.inj hcomposed).symm⟩
    | bid =>
      rw [hf] at hcomposed
      have hroom := ((State.standsFor_bid (by rw [hf]; rfl)).mp hst).2.1
      have hslots := (State.Lawful.lawUpTo hlaw).held.le_four
      exact ⟨(Option.some.inj hcomposed).symm, by omega⟩
    | restate id =>
      obtain ⟨ho, e, he⟩ := State.Lawful.entry_of_restate hlaw hq hf
      obtain ⟨hmem, hid⟩ := findEntry_some he
      refine ⟨e, hmem, hid, ho, ?_⟩
      rw [hf] at hcomposed
      simp only [State.compose, he, Option.some.injEq] at hcomposed
      rw [← hcomposed]
      cases hclaim : e.claim with
      | none => cases hlast : e.lastClaimant <;> rfl
      | some k => rfl
  · intro classAndKind body covered
    have hclass : classAndKind = (f.body.eventTraffic, f.body.kind) := by
      simp only [classAndKind]
      cases f.body <;> rfl
    have hbody : body = f.body.bits := by
      simp only [body]
      cases f.body <;> rfl
    have hcovered : covered = f.coveredBits := by
      have h := coveredBits_eq f
      simp only [List.cons_append, List.nil_append, arbitrationBits, headBits, List.cons.injEq, true_and] at h
      simp only [covered, hclass, hbody, h, payloadBits, List.append_assoc, List.cons_append]
    rw [hcovered]
    rfl
  · simp only [crc16, List.foldl_append, List.foldl_cons, List.foldl_nil]
    rfl

/-! ### Contention -/

theorem exec_frameCommand (f : Frame) (accept : Level) (s : State) : exec (frameCommand f accept) s = .next (s.frame f accept) := by
  obtain ⟨head, body⟩ := f
  cases body with
  | join fresh => cases fresh <;> rfl
  | raise | bid | finish | release | lapse | withdraw | restate => rfl

theorem State.startFrame_of_ready {s : State} (h : s.readyToStart = true) :
    s.startFrame.liu.phase = .arbitrating ∧ ∃ own, s.startFrame.image = some own := by
  obtain ⟨-, -, -, -, q, f, hselected⟩ := State.readyToStart_iff.mp h
  rw [State.startFrame_of_selected hselected]
  exact ⟨rfl, _, rfl⟩

theorem State.joins_of_unseen {s : State} (h : s.liu.seesStartEdge = false) : s.joins = s :=
  if_neg (by simp [h])

theorem State.meets_of_unseen {s : State} (h : s.liu.seesStartEdge = false) : s.meets = s :=
  if_neg (by simp [h])

theorem Liu.seesStartEdge_of_phase {l : Liu} (hi : l.phase ≠ .idle) (hs : l.phase ≠ .spacing) : l.seesStartEdge = false := by
  simp [Liu.seesStartEdge, hi, hs]

theorem State.restartNow_phase {s : State} (hl : s.liuHeld = false) : s.restartNow.liu.phase = s.liu.phase := by
  have hs : s.station ≠ .detached := (State.liuHeld_eq_false_iff.mp hl).2
  simp [State.restartNow, hs]

/-- R60: the end of an own frame that is not taken leaves the phase that the LIU has entered, unless the drain ends too. -/
theorem State.ownEnds_phase {s : State} (hl : s.liuHeld = false) (o : FrameOutcome) (accept : Level) :
    (s.ownEnds o accept).liuHeld = true ∨ (s.ownEnds o accept).liu.phase = s.liu.phase := by
  have houtcome : (s.liu.outcome o).phase = s.liu.phase := by cases o <;> rfl
  unfold State.ownEnds
  dsimp only
  split
  · exact .inr ((State.restartNow_phase (by exact hl)).trans houtcome)
  · obtain h | ⟨-, -, -, h⟩ := State.testDrain_cases
      (((State.reportOutcome { s with liu := s.liu.outcome o } o accept).tellAlone s.liu.alone).muteFailures)
    · rw [h]
      exact .inr (by simpa using houtcome)
    · rw [h]
      exact .inl (by simp [State.liuHeld, State.station, State.enterDetached_ctl])

theorem State.loseArbitration_phase {s : State} (hl : s.liuHeld = false) :
    s.loseArbitration.liuHeld = true ∨ s.loseArbitration.liu.phase = .receiving := by
  unfold State.loseArbitration
  exact State.ownEnds_phase (by exact hl) _ _

/-- R62: what a peer's whole frame finds at a station that sees its start edge and is ready. -/
theorem State.frame_of_joined {s : State} (hl : s.liuHeld = false) (hsees : s.liu.seesStartEdge = true)
    (hready : s.readyToStart = true) (f : Frame) (accept : Level) : s.frame f accept = s.startFrame.frame f accept := by
  obtain ⟨hphase, -⟩ := State.startFrame_of_ready hready
  have hjoins : s.joins = s.startFrame := if_pos ⟨hsees, hready⟩
  have hjoined : s.startFrame.joins = s.startFrame :=
    State.joins_of_unseen (Liu.seesStartEdge_of_phase (by simp [hphase]) (by simp [hphase]))
  have hheld : s.startFrame.liuHeld = false := (State.liuHeld_congr (by simp)).trans hl
  simp only [State.frame, hl, hheld, hjoins, hjoined, Bool.false_eq_true, if_false]

/-- R63: a frame met after arbitration was lost is received as by any receiver. -/
theorem State.frame_of_receiving {w : State} (himage : w.image = none) (hw : w.liuHeld = true ∨ w.liu.phase = .receiving)
    (f : Frame) (accept : Level) : w.frame f accept = if w.liuHeld then w else w.peerFrame f accept := by
  unfold State.frame
  split
  · rfl
  · rename_i hl
    have hphase := hw.resolve_left hl
    rw [State.joins_of_unseen (Liu.seesStartEdge_of_phase (by simp [hphase]) (by simp [hphase]))]
    simp [himage, Liu.receivesFrame, hphase]

/-- R26: a station that receives contends with nothing. -/
theorem State.meets_of_receiving {w : State} (h : w.liu.phase = .receiving) :
    w.meets = w ∧ w.liu.receivesFrame = true :=
  ⟨State.meets_of_unseen (Liu.seesStartEdge_of_phase (by simp [h]) (by simp [h])), by simp [Liu.receivesFrame, h]⟩

/-- Settles O24. -/
theorem joinedStartIsContended : Obligations.JoinedStartIsContended := by
  unfold Obligations.JoinedStartIsContended
  intro s hl hsees hready
  obtain ⟨hphase, img, himg⟩ := State.startFrame_of_ready hready
  obtain ⟨-, -, -, himage, -⟩ := State.readyToStart_iff.mp hready
  have hheld : s.startFrame.liuHeld = false := (State.liuHeld_congr (by simp)).trans hl
  have hjoined : s.startFrame.joins = s.startFrame :=
    State.joins_of_unseen (Liu.seesStartEdge_of_phase (by simp [hphase]) (by simp [hphase]))
  have hmeets : s.meets = s.startFrame.loseArbitration := if_pos ⟨hsees, hready⟩
  have hlost := s.startFrame.loseArbitration_image
  have hreceiving := State.loseArbitration_phase hheld
  have hreceives : s.liu.receivesFrame = true := by simp [Liu.receivesFrame, hsees]
  refine ⟨s.startFrame, s.startFrame.loseArbitration, img.frame,
    congrArg Host.Outcome.next (State.edge_of_ready hl himage hsees hready),
    congrArg Host.Outcome.next (if_pos ⟨hphase, by simp [himg]⟩), by simp [himg], hlost, fun accept => ?_,
    fun f accept hlt => ?_, fun f accept hne hle => ?_, ?_, fun bits accept => ?_⟩
  · rw [exec_frameCommand, exec_frameCommand, State.frame_of_joined hl hsees hready]
  · rw [exec_frameCommand, exec_frameCommand, State.frame_of_joined hl hsees hready,
      State.frame_of_receiving hlost hreceiving]
    have hne : ¬ img.frame = f := fun h => by simp [h] at hlt
    simp [State.frame, hheld, hjoined, himg, hphase, hlt, hne]
  · rw [exec_frameCommand, State.frame_of_joined hl hsees hready]
    simp [State.frame, hheld, hjoined, himg, BitVec.not_lt.mpr hle, Ne.symm hne]
  · generalize s.startFrame.loseArbitration = w at hlost hreceiving hmeets
    by_cases hw : w.liuHeld = true
    · simp [exec, execFrameRefused, State.peerRefused, hl, himage, hreceives, hmeets, hw]
    · obtain ⟨hlate, hreceives'⟩ := State.meets_of_receiving (hreceiving.resolve_left hw)
      simp [exec, execFrameRefused, State.peerRefused, hl, himage, hreceives, hmeets, hw, hlost, hlate, hreceives']
  · generalize s.startFrame.loseArbitration = w at hlost hreceiving hmeets
    by_cases hw : w.liuHeld = true
    · simp [exec, execFrameTakenNowhere, hl, himage, hreceives, hmeets, hw]
    · obtain ⟨hlate, hreceives'⟩ := State.meets_of_receiving (hreceiving.resolve_left hw)
      simp [exec, execFrameTakenNowhere, hl, himage, hreceives, hmeets, hw, hlost, hlate, hreceives']

end Sys2Proof.Machine
end

section
/-! SUPPORT. Entry to LEAVING (R150, R118, R137): the AWAITING claims are released and the Origin records leave one by one,
as one equation for the lists, the queue and the notices. -/

namespace Sys2Proof.Machine

/-! ### The AWAITING claims -/

/-- R118: the RELEASE of a claim that the host never took. -/
def HeldRecord.releaseFrame (r : HeldRecord) : QueuedFrame :=
  { frame := .release r.id r.priority r.attempt, onLine := false }

/-- R118: one record at entry to LEAVING. -/
def State.releaseClaim (s : State) (r : HeldRecord) : State :=
  if r.state = .awaiting then
    (s.post (.release r.id r.priority r.attempt)).setHeld r.id fun r => { r with state := .ending }
  else s

theorem State.releaseClaim_of_awaiting {s : State} {r : HeldRecord} (ht : s.takesPosts = true)
    (hst : r.state = .awaiting) (hp : framePlaced s.queue (.held r.id) = none) :
    s.releaseClaim r =
      { s with
        queue := s.queue ++ [r.releaseFrame]
        held := s.held.map fun x => if x.id = r.id then { x with state := .ending } else x } := by
  rw [State.releaseClaim, if_pos hst, State.post_of_empty (f := .release r.id r.priority r.attempt) ht hp]
  rfl

/-- R118: the record of an identity that is among those released. -/
def HeldRecord.givenUp (l : List HeldRecord) (x : HeldRecord) : HeldRecord :=
  if l.any fun r => r.state = .awaiting ∧ r.id = x.id then { x with state := .ending } else x

theorem State.foldl_releaseClaim (l : List HeldRecord) : ∀ {s : State}, s.takesPosts = true →
    (l.map HeldRecord.id).Nodup → (∀ r ∈ l, r.state = .awaiting → framePlaced s.queue (.held r.id) = none) →
    l.foldl State.releaseClaim s =
      { s with
        queue := s.queue ++ (l.filter fun r => r.state = .awaiting).map HeldRecord.releaseFrame
        held := s.held.map (HeldRecord.givenUp l) } := by
  induction l with
  | nil =>
    intro s _ _ _
    have hnil : HeldRecord.givenUp [] = id := by
      funext x
      simp [HeldRecord.givenUp]
    simp [hnil]
  | cons r l ih =>
    intro s ht hn hp
    obtain ⟨hfresh, hn⟩ := List.nodup_cons.mp hn
    by_cases hst : r.state = .awaiting
    · rw [List.foldl_cons, State.releaseClaim_of_awaiting ht hst (hp r List.mem_cons_self hst)]
      refine (ih (by exact ht) hn fun x hx hxs => ?_).trans ?_
      · exact framePlaced_append_of_ne (hp x (List.mem_cons_of_mem _ hx) hxs) fun heq =>
          hfresh (Place.held.inj heq ▸ List.mem_map_of_mem hx)
      · simp only [State.mk.injEq, true_and, and_true]
        refine ⟨by simp [hst], ?_⟩
        rw [List.map_map]
        refine List.map_congr_left fun x _ => ?_
        by_cases hx : x.id = r.id
        · simp [HeldRecord.givenUp, hx, hst]
        · simp [HeldRecord.givenUp, hx, hst, Ne.symm hx]
    · rw [List.foldl_cons, State.releaseClaim, if_neg hst, ih ht hn fun x hx => hp x (List.mem_cons_of_mem _ hx)]
      simp only [State.mk.injEq, true_and, and_true]
      exact ⟨by simp [hst], List.map_congr_left fun x _ => by simp [HeldRecord.givenUp, hst]⟩

/-- R118: at entry to LEAVING every AWAITING record becomes ENDING, and its RELEASE is posted. -/
theorem State.releaseAwaiting_eq {s : State} (ht : s.takesPosts = true) (hn : (s.held.map HeldRecord.id).Nodup)
    (hp : ∀ r ∈ s.held, r.state = .awaiting → framePlaced s.queue (.held r.id) = none) :
    s.releaseAwaiting =
      { s with
        queue := s.queue ++ (s.held.filter fun r => r.state = .awaiting).map HeldRecord.releaseFrame
        held := s.held.map fun r => if r.state = .awaiting then { r with state := .ending } else r } := by
  refine (State.foldl_releaseClaim s.held ht hn hp).trans ?_
  simp only [State.mk.injEq, true_and, and_true]
  refine List.map_congr_left fun x hx => ?_
  have hiff : (s.held.any fun r => r.state = .awaiting ∧ r.id = x.id) = true ↔ x.state = .awaiting := by
    simp only [List.any_eq_true, decide_eq_true_eq]
    exact ⟨fun ⟨r, hr, hst, hid⟩ => List.inj_on_of_nodup_map hn hr hx hid ▸ hst, fun hst => ⟨x, hx, hst, rfl⟩⟩
  simp only [HeldRecord.givenUp, hiff]

/-- R150, R94, R118: LEAVING before the Origin records leave. -/
theorem State.Lawful.leavingStarted_eq {s : State} (h : s.Lawful) :
    s.leavingStarted =
      { s with
        ctl := { s.ctl with state := .leaving, draining := true }
        queue := (s.queue.filter fun q => q.frame.place = .bid ∨ q.frame.place = .lapse → q.onLine = true)
          ++ (s.held.filter fun r => r.state = .awaiting).map HeldRecord.releaseFrame
        held := s.held.map fun r => if r.state = .awaiting then { r with state := .ending } else r } := by
  have hn := h.held_nodup
  unfold State.leavingStarted
  rw [State.releaseAwaiting_eq]
  · simp only [State.removeFrame, List.filter_filter, State.mk.injEq, true_and, and_true]
    congr 1
    refine List.filter_congr fun q _ => ?_
    cases q.onLine <;> simp [Bool.and_comm]
  · rfl
  · exact hn
  · intro r hr hst
    refine framePlaced_none.mpr fun q hq => framePlaced_none.mp (h.heldPlace_empty hr (by simp [hst])) q ?_
    exact (List.mem_filter.mp (List.mem_filter.mp hq).1).1

/-! ### The Origin records -/

/-- R137: an Origin record at entry to LEAVING. -/
def State.leftRecord (s : State) (r : OriginRecord) : OriginRecord :=
  match r.state with
  | .queued =>
    if s.ownOnLine r.serial then { r with withdrawPending := true } else { r with state := .closed .withdrawn }
  | .live => { r with state := .withdrawing }
  | .withdrawing => r
  | .closed _ => r

@[simp] theorem State.leftRecord_serial (s : State) (r : OriginRecord) : (s.leftRecord r).serial = r.serial := by
  unfold State.leftRecord
  repeat' split
  all_goals rfl

/-- R137: the record's own frame, not on the Line, leaves its place. -/
def State.vacates (s : State) (r : OriginRecord) : Bool :=
  (r.state = .queued ∨ r.state = .live) ∧ s.ownOnLine r.serial = false

/-- R137: the queue once these records have left. -/
def State.queueLeft (s : State) (l : List OriginRecord) : List QueuedFrame :=
  (s.queue.filter fun q => ∀ r ∈ l, s.vacates r = true → q.frame.place ≠ .identity (s.ownId r.serial))
    ++ (l.filter fun r => r.state = .live ∧ s.ownOnLine r.serial = false).map fun r => s.withdrawOf r.serial

/-- R137: the final notices once these records have left. -/
def State.noticesLeft (s : State) (l : List OriginRecord) : List Notice :=
  s.notices ++ (l.filter fun r => r.state = .queued ∧ ¬ s.ownOnLine r.serial).map
    fun r => .withdrawn (s.ownId r.serial)

/-- The frames on the Line settle which own frames are on the Line. -/
theorem State.ownOnLine_congr {s t : State} (hconfig : t.config = s.config)
    (hq : ∀ q, q.onLine = true → (q ∈ t.queue ↔ q ∈ s.queue)) : t.ownOnLine = s.ownOnLine := by
  have hid : t.ownId = s.ownId := by
    funext n
    simp only [State.ownId, State.address, hconfig]
  funext n
  rw [Bool.eq_iff_iff]
  simp only [State.ownOnLine, hid, List.any_eq_true, decide_eq_true_eq]
  exact ⟨fun ⟨q, hmem, hon, hp⟩ => ⟨q, (hq q hon).mp hmem, hon, hp⟩,
    fun ⟨q, hmem, hon, hp⟩ => ⟨q, (hq q hon).mpr hmem, hon, hp⟩⟩

theorem State.place_of_onLine {s : State} {n : Serial} (h : s.ownOnLine n = false) {q : QueuedFrame} (hq : q ∈ s.queue)
    (hon : q.onLine = true) : q.frame.place ≠ .identity (s.ownId n) := fun hp => by
  simpa [hon, hp] using List.any_eq_false.mp h q hq

theorem State.mem_queueLeft_of_onLine {s : State} {l : List OriginRecord} {q : QueuedFrame} (hon : q.onLine = true) :
    q ∈ s.queueLeft l ↔ q ∈ s.queue := by
  constructor
  · intro hq
    obtain hq | hq := List.mem_append.mp hq
    · exact (List.mem_filter.mp hq).1
    · obtain ⟨r, -, rfl⟩ := List.mem_map.mp hq
      cases hon
  · intro hq
    refine List.mem_append_left _ (List.mem_filter.mpr ⟨hq, ?_⟩)
    simp only [decide_eq_true_eq, State.vacates]
    exact fun r _ hv => State.place_of_onLine hv.2 hq hon

/-- R137: one record leaves. -/
theorem State.Lawful.leaveRecord_eq {s : State} (h : s.Lawful) (ht : s.takesPosts = true) {r : OriginRecord}
    (hr : r ∈ s.origin) :
    s.leaveRecord r =
      { s.setOrigin r.serial s.leftRecord with queue := s.queueLeft [r], notices := s.noticesLeft [r] } := by
  have ⟨_, ⟨hplaces, _⟩, _, ⟨_, hserials⟩, _, hown, _⟩ := h
  have hpending := State.withdrawPending_of_not_queued h.lawUpTo hr
  have hkeep : ∀ q ∈ s.queue, s.vacates r = false →
      (decide (∀ x ∈ [r], s.vacates x = true → q.frame.place ≠ .identity (s.ownId x.serial))) = true := by
    intro q _ hv
    simp [hv]
  by_cases hq : r.state = .queued
  · rw [State.leaveRecord_of_queued hq]
    cases honLine : s.ownOnLine r.serial with
    | true =>
      rw [State.withdrawQueued_of_onLine hplaces honLine,
        State.setOrigin_congr (g := s.leftRecord) hserials hr (by simp [State.leftRecord, hq, honLine])]
      simp [State.queueLeft, State.noticesLeft, State.vacates, honLine, hq, State.setOrigin]
    | false =>
      have hclosed : r.withdrawPending = false := by
        cases hw : r.withdrawPending with
        | false => rfl
        | true =>
          obtain ⟨q, hqm, hraise⟩ := (h.lawUpTo.own.raises r hr hq).resolve_left id
          have hp := Queued.place_of_raisesEvent hraise
          obtain ⟨-, x, hx, hserial, hb⟩ := (State.standsFor_identity hp).mp (h.lawUpTo.standing hqm)
          have hxr : x = r := List.inj_on_of_nodup_map hserials hx hr hserial
          subst hxr
          have hon : q.onLine = true := by
            obtain ⟨frame, onLine⟩ := q
            cases frame with
            | raise => exact hb.2 hw
            | restate | withdraw | bid | lapse | finish | release | join => cases hraise
          exact absurd hp (State.place_of_onLine honLine hqm hon)
      rw [State.withdrawQueued_of_not_onLine hplaces honLine,
        State.closeOrigin_of_unmarked (by exact hserials) (by exact hr) hclosed]
      have hset := State.setOrigin_congr (s := s) (f := fun x => { x with state := .closed .withdrawn })
        (g := s.leftRecord) hserials hr (by simp [State.leftRecord, hq, honLine])
      simp only [State.setOrigin, State.mk.injEq, true_and, and_true] at hset
      simp [State.queueLeft, State.noticesLeft, State.vacates, honLine, hq, State.setOrigin, State.notify, withoutPlace, hset]
  · by_cases hlive : r.state = .live
    · obtain ⟨e, he, hid, hw⟩ := h.withdrawOf_of_inPool hr (by simp [OriginRecord.inPool, hlive])
      rw [State.leaveRecord_of_live hlive, State.beginWithdraw_of_live h ht hr hlive he hid,
        State.setOrigin_congr (g := s.leftRecord) hserials hr (by simp [State.leftRecord, hlive]), ← hid, ← hw]
      cases honLine : s.ownOnLine r.serial <;>
        simp [State.queueLeft, State.noticesLeft, State.vacates, honLine, hlive, State.setOrigin, withoutPlace, hid]
    · have hset := State.setOrigin_congr (s := s) (f := id) (g := s.leftRecord) hserials hr (by
        cases hst : r.state <;> simp_all [State.leftRecord])
      rw [State.leaveRecord_of_other hq hlive, ← hset]
      simp [State.queueLeft, State.noticesLeft, State.vacates, hlive, hq, State.setOrigin]

theorem State.ownOnLine_leaveRecord {s : State} (h : s.Lawful) (ht : s.takesPosts = true) {r : OriginRecord}
    (hr : r ∈ s.origin) : (s.leaveRecord r).ownOnLine = s.ownOnLine := by
  rw [h.leaveRecord_eq ht hr]
  exact State.ownOnLine_congr rfl fun q hon => State.mem_queueLeft_of_onLine hon

theorem State.withdrawOf_congr {s t : State} (hconfig : t.config = s.config) (htable : t.table = s.table) :
    t.withdrawOf = s.withdrawOf := by
  funext n
  simp only [State.withdrawOf, State.ownId, State.address, hconfig, htable]

theorem State.leftRecord_congr {s t : State} (h : t.ownOnLine = s.ownOnLine) : t.leftRecord = s.leftRecord := by
  funext r
  simp only [State.leftRecord, h]

theorem State.vacates_congr {s t : State} (h : t.ownOnLine = s.ownOnLine) : t.vacates = s.vacates := by
  funext r
  simp only [State.vacates, h]

/-- R137: the Origin records leave one by one, each as the state before found it. -/
theorem State.foldl_leaveRecord (l : List OriginRecord) : ∀ {s : State}, s.LawUpTo .none → s.takesPosts = true →
    s.liu.failures < Config.failureLimit → (∀ r ∈ l, r ∈ s.origin) → (l.map OriginRecord.serial).Nodup →
    l.foldl State.leaveRecord s =
      { s with
        origin := s.origin.map fun x => if l.any fun r => r.serial = x.serial then s.leftRecord x else x
        queue := s.queueLeft l
        notices := s.noticesLeft l } := by
  induction l with
  | nil =>
    intro s _ _ _ _ _
    simp [State.queueLeft, State.noticesLeft]
  | cons r l ih =>
    intro s h ht hfail hl hn
    have hlaw : s.Lawful := h.lawful ⟨hfail.le, fun he => absurd he hfail.ne, fun hs => by
      have hposts := State.takesPosts_iff.mp ht
      rcases hs with hs | hs | hs <;> simp [hs] at hposts⟩
    obtain ⟨hfresh, hnl⟩ := List.nodup_cons.mp hn
    have hr := hl r List.mem_cons_self
    have hon := State.ownOnLine_leaveRecord hlaw ht hr
    have hone := State.LawUpTo.foldl_leave [r] h ht (fun x hx => List.mem_singleton.mp hx ▸ hr) (by simp)
    rw [List.foldl_cons, ih (by exact hone) ((State.takesPosts_congr (by simp)).trans ht) (by simpa using hfail)
      (fun x hx => State.mem_leaveRecord_of_ne (hl x (List.mem_cons_of_mem _ hx)) fun he =>
        hfresh (he ▸ List.mem_map_of_mem hx)) hnl]
    have hid : (s.leaveRecord r).ownId = s.ownId := by
      funext n
      simp [State.ownId]
    simp only [State.queueLeft, State.noticesLeft, State.leftRecord_congr hon, State.vacates_congr hon, hon, hid,
      State.withdrawOf_congr (State.leaveRecord_config s r) (State.leaveRecord_table s r)]
    rw [hlaw.leaveRecord_eq ht hr]
    simp only [State.mk.injEq, true_and, and_true, State.setOrigin, State.queueLeft, State.noticesLeft]
    refine ⟨?queue, ?origin, ?notices⟩
    case notices => rw [List.append_assoc, ← List.map_append, ← List.filter_append, List.singleton_append]
    case origin =>
      rw [List.map_map]
      refine List.map_congr_left fun x _ => ?_
      by_cases hx : x.serial = r.serial
      · have hnone : ∀ y ∈ l, y.serial ≠ r.serial := fun y hy he => hfresh (List.mem_map.mpr ⟨y, hy, he⟩)
        simpa [hx] using fun y hy he => absurd he (hnone y hy)
      · simp [hx, Ne.symm hx]
    case queue =>
      have hother : ∀ y ∈ l, s.ownId r.serial ≠ s.ownId y.serial := fun y hy he =>
        hfresh (List.mem_map.mpr ⟨y, hy, (State.ownId_inj he).symm⟩)
      have hnew : ((if r.state = .live ∧ s.ownOnLine r.serial = false then [s.withdrawOf r.serial] else []).filter
          fun q => ∀ x ∈ l, s.vacates x = true → q.frame.place ≠ .identity (s.ownId x.serial))
          = if r.state = .live ∧ s.ownOnLine r.serial = false then [s.withdrawOf r.serial] else [] := by
        refine List.filter_eq_self.mpr fun q hq => ?_
        split at hq
        · rw [List.mem_singleton.mp hq]
          simpa [State.withdrawOf, Queued.place] using fun y hy _ => hother y hy
        · cases hq
      have hsplit : ∀ k : List OriginRecord,
          ((r :: k).filter fun x => x.state = .live ∧ s.ownOnLine x.serial = false).map (fun x => s.withdrawOf x.serial)
          = (if r.state = .live ∧ s.ownOnLine r.serial = false then [s.withdrawOf r.serial] else [])
            ++ (k.filter fun x => x.state = .live ∧ s.ownOnLine x.serial = false).map fun x => s.withdrawOf x.serial := by
        intro k
        by_cases hv : r.state = .live ∧ s.ownOnLine r.serial = false <;> simp [hv]
      rw [hsplit, hsplit, List.filter_append, List.filter_append, hnew, List.filter_filter, List.append_assoc]
      congr 1
      · refine List.filter_congr fun q _ => ?_
        simp [Bool.and_comm]
      · simp

/-- R150: LEAVE in ACTIVE, before the drain test it ends with. -/
def State.left (s : State) : State := s.leavingStarted.origin.foldl State.leaveRecord s.leavingStarted

theorem State.Lawful.ownOnLine_leavingStarted {s : State} (h : s.Lawful) : s.leavingStarted.ownOnLine = s.ownOnLine := by
  rw [h.leavingStarted_eq]
  refine State.ownOnLine_congr rfl fun q hon => ?_
  rw [List.mem_append, List.mem_filter, List.mem_map]
  refine ⟨fun hq => ?_, fun hq => .inl ⟨hq, by simp [hon]⟩⟩
  obtain hq | ⟨r, -, rfl⟩ := hq
  · exact hq.1
  · cases hon

theorem State.Lawful.left_eq {s : State} (h : s.Lawful) (hs : s.station = .active) :
    s.left =
      { s with
        ctl := { s.ctl with state := .leaving, draining := true }
        held := s.held.map fun r => if r.state = .awaiting then { r with state := .ending } else r
        origin := s.origin.map s.leftRecord
        notices := s.noticesLeft s.origin
        queue := s.leavingStarted.queueLeft s.origin } := by
  have hn : (s.origin.map OriginRecord.serial).Nodup := h.lawUpTo.blocks.origin.2
  have hfail : s.liu.failures < Config.failureLimit := by
    obtain ⟨-, -, ⟨hle, hmute, -⟩, -⟩ := h
    exact lt_of_le_of_ne hle fun he => by simp [hmute he] at hs
  have hliu : s.leavingStarted.liu = s.liu := by
    rw [h.leavingStarted_eq]
  unfold State.left
  rw [State.foldl_leaveRecord _ (h.lawUpTo.leavingStarted hs) s.takesPosts_leavingStarted (hliu ▸ hfail) (fun _ hr => hr)
    (s.leavingStarted_origin ▸ hn), s.leavingStarted_origin]
  have hid : s.leavingStarted.ownId = s.ownId := by
    rw [h.leavingStarted_eq]
    rfl
  have hnotices : s.leavingStarted.notices = s.notices := by
    rw [h.leavingStarted_eq]
  simp only [State.noticesLeft, hid, hnotices, State.leftRecord_congr h.ownOnLine_leavingStarted, h.ownOnLine_leavingStarted]
  have horigin : (s.origin.map fun x => if s.origin.any fun r => r.serial = x.serial then s.leftRecord x else x)
      = s.origin.map s.leftRecord :=
    List.map_congr_left fun x hx => if_pos (List.any_eq_true.mpr ⟨x, hx, by simp⟩)
  rw [horigin]
  generalize hq : s.leavingStarted.queueLeft s.origin = queue
  rw [h.leavingStarted_eq]

theorem exec_leave {s : State} {body : List Byte} (h : s.inProcessing 0x0D body) :
    exec (.leave body) s =
      .next (s.answerLeave.after.replied 0x0D s.answerLeave.outcome s.answerLeave.body) :=
  congrArg Host.Outcome.next (State.request_of_inProcessing h _)

section
variable {s : State}

/-- R150: the queue after LEAVE: what was in it, the RELEASEs of the AWAITING claims, and the WITHDRAWs of the LIVE
events whose place was not on the Line. -/
theorem State.Lawful.mem_queueLeft (h : s.Lawful) {q : QueuedFrame} :
    q ∈ s.leavingStarted.queueLeft s.origin ↔
      ((q ∈ s.queue ∧ (q.frame.place = .bid ∨ q.frame.place = .lapse → q.onLine = true)
          ∨ ∃ r ∈ s.held, r.state = .awaiting ∧ r.releaseFrame = q)
        ∧ ∀ r ∈ s.origin, s.vacates r = true → q.frame.place ≠ .identity (s.ownId r.serial))
      ∨ ∃ r ∈ s.origin, (r.state = .live ∧ s.ownOnLine r.serial = false) ∧ s.withdrawOf r.serial = q := by
  have hid : s.leavingStarted.ownId = s.ownId := by
    rw [h.leavingStarted_eq]
    rfl
  have hw : s.leavingStarted.withdrawOf = s.withdrawOf := by
    rw [h.leavingStarted_eq]
    exact State.withdrawOf_congr rfl rfl
  have hqueue : s.leavingStarted.queue
      = (s.queue.filter fun q => q.frame.place = .bid ∨ q.frame.place = .lapse → q.onLine = true)
        ++ (s.held.filter fun r => r.state = .awaiting).map HeldRecord.releaseFrame := by
    rw [h.leavingStarted_eq]
  simp only [State.queueLeft, hid, hw, hqueue, h.ownOnLine_leavingStarted,
    State.vacates_congr h.ownOnLine_leavingStarted, List.mem_append, List.mem_filter, List.mem_map, decide_eq_true_eq,
    and_assoc]

/-- A frame that was queued in another place than those of the choices and of the records that leave stays. -/
theorem State.Lawful.mem_queueLeft_of_queue (h : s.Lawful) {q : QueuedFrame} (hq : q ∈ s.queue)
    (hchoice : q.frame.place = .bid ∨ q.frame.place = .lapse → q.onLine = true)
    (hplace : ∀ r ∈ s.origin, s.vacates r = true → q.frame.place ≠ .identity (s.ownId r.serial)) :
    q ∈ s.leavingStarted.queueLeft s.origin :=
  h.mem_queueLeft.mpr (.inl ⟨.inl ⟨hq, hchoice⟩, hplace⟩)

theorem State.vacates_iff {r : OriginRecord} :
    s.vacates r = true ↔ (r.state = .queued ∨ r.state = .live) ∧ s.ownOnLine r.serial = false := by
  simp [State.vacates]

/-- A WITHDRAW in the place of a record stands for a WITHDRAWING one, which stays. -/
theorem State.Lawful.place_of_withdraw (h : s.Lawful) {q : QueuedFrame} (hq : q ∈ s.queue)
    (hw : q.frame.isWithdraw = true) {r : OriginRecord} (hr : r ∈ s.origin) (hv : s.vacates r = true) :
    q.frame.place ≠ .identity (s.ownId r.serial) := by
  intro hp
  obtain ⟨-, x, hx, hserial, hb⟩ := (State.standsFor_identity hp).mp (h.lawUpTo.standing hq)
  rw [List.inj_on_of_nodup_map h.lawUpTo.blocks.origin.2 hx hr hserial] at hb
  obtain ⟨frame, onLine⟩ := q
  cases frame with
  | withdraw id priority =>
    have hst : r.state = .withdrawing := hb
    simp [State.vacates, hst] at hv
  | raise | restate | bid | lapse | finish | release | join => cases hw

end

/-- Settles O16: each clause on the queue from its members after LEAVE. -/
theorem leaveStartsTheDrain : Obligations.LeaveStartsTheDrain := by
  unfold Obligations.LeaveStartsTheDrain
  intro s body hlaw h
  rw [exec_leave h]
  refine ⟨fun hs => ?_, fun hs => ⟨s.left, ?_, ?equation, ?choices, ?onLine, ?released, ?kept, ?withdrawn, ?vacated⟩⟩
  · rw [State.answerLeave, if_neg hs]
    rfl
  · rw [State.answerLeave, if_pos hs]
    rfl
  all_goals rw [hlaw.left_eq hs]
  case equation =>
    simp only [State.mk.injEq, true_and, and_true]
    exact ⟨rfl, rfl⟩
  case choices =>
    intro q hq hp
    obtain ⟨⟨-, hchoice⟩ | ⟨r, -, -, rfl⟩, -⟩ | ⟨r, -, -, rfl⟩ := hlaw.mem_queueLeft.mp hq
    · exact hchoice hp
    · obtain hp | hp := hp <;> cases hp
    · obtain hp | hp := hp <;> cases hp
  case onLine =>
    exact fun q hq hon => hlaw.mem_queueLeft_of_queue hq (fun _ => hon) fun r _ hv =>
      State.place_of_onLine (State.vacates_iff.mp hv).2 hq hon
  case released =>
    exact fun r hr hst => hlaw.mem_queueLeft.mpr (.inl ⟨.inr ⟨r, hr, hst, rfl⟩, fun _ _ _ hp => by cases hp⟩)
  case kept =>
    rintro q hq (⟨id, hp⟩ | hw)
    · exact hlaw.mem_queueLeft_of_queue hq (by simp [hp]) (by simp [hp])
    · refine hlaw.mem_queueLeft_of_queue hq (fun hp => ?_) fun r hr hv => hlaw.place_of_withdraw hq hw hr hv
      obtain ⟨frame, onLine⟩ := q
      cases frame with
      | withdraw id priority => simp [Queued.place] at hp
      | raise | restate | bid | lapse | finish | release | join => cases hw
  case withdrawn =>
    intro r hr hlive hon
    obtain ⟨e, he, hid, hw⟩ := hlaw.withdrawOf_of_inPool hr (by simp [OriginRecord.inPool, hlive])
    refine ⟨e, he, hid, hw ▸ hlaw.mem_queueLeft.mpr (.inr ⟨r, hr, ⟨hlive, hon⟩, rfl⟩), fun q hq hp => ?_⟩
    obtain ⟨-, hplace⟩ | ⟨x, -, -, rfl⟩ := hlaw.mem_queueLeft.mp hq
    · exact absurd (hp.trans (congrArg _ hid)) (hplace r hr (State.vacates_iff.mpr ⟨.inr hlive, hon⟩))
    · rfl
  case vacated =>
    intro r hr hqueued hon q hq hp
    obtain ⟨-, hplace⟩ | ⟨x, hx, ⟨hlive, -⟩, rfl⟩ := hlaw.mem_queueLeft.mp hq
    · exact hplace r hr (State.vacates_iff.mpr ⟨.inl hqueued, hon⟩) hp
    · have hxr : x = r :=
        List.inj_on_of_nodup_map hlaw.lawUpTo.blocks.origin.2 hx hr (State.ownId_inj (Place.identity.inj hp))
      rw [hxr, hqueued] at hlive
      cases hlive

end Sys2Proof.Machine
end

section
/-! SUPPORT. One bit time in which no command waits (R11, R51, R57, R60, R61, R75, R143, R147): the clock, the bit that
this station sends, and the sample of a quiet Line with what it brings about. -/

namespace Sys2Proof.Machine

/-! ### The clock -/

/-- Table 3-1: the CLK periods of one bit. -/
theorem clkPerBit_eq (rate : BitVec 2) : Config.clkPerBit rate = 320 >>> rate.toNat := by
  revert rate
  decide

theorem State.advanceClock_of_lt {s : State} (h : s.divider + Config.clkPerBit s.config.rate < Config.clkPerTick) :
    s.advanceClock = { s with divider := s.divider + Config.clkPerBit s.config.rate } := by
  rw [State.advanceClock]
  exact if_neg (Nat.not_le.mpr h)

theorem State.advanceClock_of_le {s : State} (h : Config.clkPerTick ≤ s.divider + Config.clkPerBit s.config.rate) :
    s.advanceClock =
      { s.deadlineTick with divider := s.divider + Config.clkPerBit s.config.rate - Config.clkPerTick } := by
  rw [State.advanceClock]
  exact if_pos h

/-- The clock leaves the LIU, the Station Controller, the configuration and the transmit image. -/
theorem State.advanceClock_keeps (s : State) :
    s.advanceClock.liu = s.liu ∧ s.advanceClock.ctl = s.ctl ∧ s.advanceClock.image = s.image
      ∧ s.advanceClock.config = s.config := by
  by_cases h : Config.clkPerTick ≤ s.divider + Config.clkPerBit s.config.rate
  · rw [State.advanceClock_of_le h]
    simp
  · rw [State.advanceClock_of_lt (Nat.not_le.mp h)]
    simp

theorem State.Lawful.advanceClock {s : State} (h : s.Lawful) : s.advanceClock.Lawful :=
  h.lawUpTo.advanceClock.lawful (s.keeps_advanceClock.standing h.2.2.1)

/-! ### A bit of the transmit image -/

theorem State.sampleLine_of_free {s : State} {b : Bool} (h : b = true ∨ s.liu.dominant < 11)
    (hp : s.liu.phase = .arbitrating ∨ s.liu.phase = .sending) :
    s.sampleLine b = { s with liu := s.liu.sample b } := by
  refine if_neg fun ⟨_, hstuck⟩ => ?_
  cases b with
  | true => cases hstuck
  | false =>
    have hlt := h.resolve_left (by simp)
    have hphase : s.liu.phase ≠ .recovering := by rintro he; simp [he] at hp
    simp only [Liu.sample, Bool.false_eq_true, if_false, if_neg hphase, Config.stuckSamples] at hstuck
    omega

/-- R60, R74: the counts after a bit that this station sends, sampled as sent. -/
theorem Liu.sent_fields {l : Liu} {img : TransmitImage} {b : Bool} (h : b = true ∨ l.dominant < 11)
    (hp : l.phase ≠ .recovering) (n : Nat) :
    ((l.sample b).sent img n).failures = l.failures ∧ ((l.sample b).sent img n).alone = l.alone
      ∧ ((l.sample b).sent img n).dominant = (if b then 0 else l.dominant + 1)
      ∧ ((l.sample b).sent img n).recessive = (if b then min (l.recessive + 1) 16 else 0)
      ∧ ((l.sample b).sent img n).idle =
          (if ((l.sample b).sent img n).phase = .slots ∨ b = false then 0 else min (l.idle + 1) 32) := by
  cases b with
  | true => exact ⟨rfl, rfl, rfl, rfl, by simp [Liu.sent, Liu.sample, Config.idleSamples]⟩
  | false =>
    have hlt := h.resolve_left (by simp)
    have hdominant : min (l.dominant + 1) Config.stuckSamples = l.dominant + 1 := by
      simp only [Config.stuckSamples]
      omega
    exact ⟨rfl, rfl, by simp [Liu.sent, Liu.sample, hp, hdominant], rfl, by simp [Liu.sent, Liu.sample]⟩

/-- R57: the next bit is sent, and sampled as sent. -/
theorem State.sendBit_of_free {s : State} {img : TransmitImage} {b : Bool} (himage : s.image = some img)
    (hb : img.bits[s.liu.txSent]? = some b) (h : b = true ∨ s.liu.dominant < 11)
    (hp : s.liu.phase = .arbitrating ∨ s.liu.phase = .sending) :
    s.sendBit = { s with liu := (s.liu.sample b).sent img (s.liu.txSent + 1) } := by
  simp only [State.sendBit, himage, hb, State.sampleLine_of_free h hp, Option.isSome_some, if_true]

/-! ### A sample of a quiet Line -/

/-- R75: a recovery ends with this sample. -/
def Liu.recovers (l : Liu) : Bool := l.phase = .recovering ∧ 15 ≤ l.recessive

/-- R60: a spacing ends with this sample. -/
def Liu.spaces (l : Liu) : Bool := l.phase = .spacing ∧ 7 ≤ l.recessive

/-- R143: the start-up idle count reaches 16 with this sample. -/
def Liu.startsUp (l : Liu) : Bool := l.recovers ∨ l.startUpIdle = 15

/-- R60, R61, R75: the LIU after one recessive sample outside any frame. -/
def Liu.quieted (l : Liu) : Liu :=
  if l.recovers then (l.sample true).recover
  else if l.spaces then (l.sample true).spaced
  else l.sample true

/-- R60: the LIU after the sample, with the spacing complete at its eighth. -/
def Liu.sampledQuiet (l : Liu) : Liu :=
  if l.spaces then (l.sample true).spaced else l.sample true

theorem Liu.spaces_iff (l : Liu) :
    (l.sample true).phase = .spacing ∧ Config.spacingSamples ≤ (l.sample true).recessive ↔ l.spaces = true := by
  simp only [Liu.spaces, Liu.sample, Config.spacingSamples, Config.recoverySamples, if_true, decide_eq_true_eq]
  exact and_congr_right fun _ => by omega

/-- R60: the first step of a recessive sample. -/
def State.endsSpacing (s : State) : State :=
  if s.liu.phase = .spacing ∧ Config.spacingSamples ≤ s.liu.recessive then s.spacingComplete else s

/-- R75, R143: the second step of a recessive sample, after which the counts stood as in `before`. -/
def State.endsRecovery (s : State) (before : Liu) : State :=
  if s.liu.phase = .recovering ∧ Config.recoverySamples ≤ s.liu.recessive then s.recoveryComplete
  else if before.startUpIdle < Config.startUpSamples ∧ s.liu.startUpIdle = Config.startUpSamples then s.startUpReached
  else s

/-- R147: the third step of a recessive sample. -/
def State.endsWindow (s : State) (before : Liu) : State :=
  if before.idle < Config.idleSamples ∧ s.liu.idle = Config.idleSamples then s.idleReached else s

theorem State.quietSample_steps (s : State) :
    s.quietSample = ((State.endsSpacing { s with liu := s.liu.sample true }).endsRecovery s.liu).endsWindow s.liu :=
  rfl

theorem State.endsSpacing_eq {s : State} (hl : s.liuHeld = false) :
    State.endsSpacing { s with liu := s.liu.sample true } = { s with liu := s.liu.sampledQuiet } := by
  unfold State.endsSpacing Liu.sampledQuiet
  by_cases hs : s.liu.spaces = true
  · have hp := s.liu.spaces_iff.mpr hs
    rw [if_pos hs, if_pos (by exact hp)]
    exact State.spacingComplete_of_spacing (s := { s with liu := s.liu.sample true }) hl hp.1
  · rw [if_neg hs, if_neg (by exact fun hp => hs (s.liu.spaces_iff.mp hp))]

/-- R60, R75: the end of a recovery, or of a spacing, or neither. -/
theorem Liu.sampledQuiet_cases (l : Liu) (hrec : l.recessive ≤ 16) :
    (l.recovers = true ∧ l.sampledQuiet = l.sample true ∧ l.quieted = (l.sample true).recover)
      ∨ (l.recovers = false ∧ l.quieted = l.sampledQuiet
          ∧ ¬ (l.sampledQuiet.phase = .recovering ∧ Config.recoverySamples ≤ l.sampledQuiet.recessive)) := by
  cases hr : l.recovers with
  | true =>
    have hp : l.phase = .recovering := by
      simp only [Liu.recovers, decide_eq_true_eq] at hr
      exact hr.1
    have hs : l.spaces = false := by simp [Liu.spaces, hp]
    exact .inl ⟨rfl, if_neg (by simp [hs]), if_pos hr⟩
  | false =>
    have hquieted : l.quieted = l.sampledQuiet := by
      simp only [Liu.quieted, Liu.sampledQuiet, hr, Bool.false_eq_true, if_false]
    refine .inr ⟨rfl, hquieted, fun ⟨hp, hle⟩ => ?_⟩
    unfold Liu.sampledQuiet at hp hle
    split at hp
    · cases hp
    · rename_i hns
      rw [if_neg hns] at hle
      have hp : l.phase = .recovering := hp
      have hfull : l.recovers = true := by
        simp only [Liu.recovers, decide_eq_true_eq]
        simp only [Liu.sample, if_true, Config.recoverySamples] at hle
        exact ⟨hp, by omega⟩
      rw [hr] at hfull
      cases hfull

theorem Liu.sampledQuiet_startUpIdle (l : Liu) : l.sampledQuiet.startUpIdle = min (l.startUpIdle + 1) 16 := by
  unfold Liu.sampledQuiet
  split <;> rfl

theorem State.endsRecovery_eq {s : State} (hl : s.liuHeld = false) (hcount : s.CountLaw) :
    State.endsRecovery { s with liu := s.liu.sampledQuiet } s.liu =
      if s.liu.startsUp then State.startUpReached { s with liu := s.liu.quieted } else { s with liu := s.liu.quieted } := by
  obtain ⟨hstart, hrec, -, -⟩ := hcount
  simp only [Config.startUpSamples, Config.recoverySamples] at hstart hrec
  unfold State.endsRecovery
  obtain ⟨hr, hsampled, hquieted⟩ | ⟨hr, hquieted, hnot⟩ := s.liu.sampledQuiet_cases hrec
  · have hends : (s.liu.sample true).phase = .recovering ∧ Config.recoverySamples ≤ (s.liu.sample true).recessive := by
      simp only [Liu.recovers, decide_eq_true_eq] at hr
      exact ⟨hr.1, by simp only [Liu.sample, if_true, Config.recoverySamples]; omega⟩
    have hstarts : s.liu.startsUp = true := by simp [Liu.startsUp, hr]
    rw [if_pos hstarts, hsampled, hquieted, if_pos (by exact hends)]
    exact if_pos ⟨by simpa [State.liuHeld] using hl, hends.1⟩
  · rw [if_neg (by exact hnot), hquieted]
    have hiff : (s.liu.startUpIdle < Config.startUpSamples ∧ s.liu.sampledQuiet.startUpIdle = Config.startUpSamples)
        ↔ s.liu.startsUp = true := by
      rw [Liu.sampledQuiet_startUpIdle]
      simp only [Liu.startsUp, hr, Config.startUpSamples, Bool.false_eq_true, false_or, decide_eq_true_eq]
      omega
    by_cases hs : s.liu.startsUp = true
    · rw [if_pos hs, if_pos (by exact hiff.mpr hs)]
    · rw [if_neg hs, if_neg (by exact fun h => hs (hiff.mp h))]

theorem Liu.quieted_idle (l : Liu) (hidle : l.idle ≤ 32) : (l.idle < 32 ∧ l.quieted.idle = 32) ↔ l.idle = 31 := by
  have hidle' : l.quieted.idle = max (min (l.idle + 1) 32) 16 ∨ l.quieted.idle = max (min (l.idle + 1) 32) 8
      ∨ l.quieted.idle = min (l.idle + 1) 32 := by
    unfold Liu.quieted
    split
    · exact .inl rfl
    · split
      · exact .inr (.inl rfl)
      · exact .inr (.inr rfl)
  omega

/-- R60, R75, R143, R147: one recessive sample outside any frame, before the join window is looked at. -/
def State.quieted (s : State) : State :=
  if s.liu.startsUp then State.startUpReached { s with liu := s.liu.quieted } else { s with liu := s.liu.quieted }

theorem State.quieted_liu (s : State) : s.quieted.liu = s.liu.quieted := by
  unfold State.quieted
  split
  · rw [State.startUpReached_liu]
  · rfl

theorem State.quietSample_eq {s : State} (hl : s.liuHeld = false) (hcount : s.CountLaw) :
    s.quietSample = if s.liu.idle = 31 then s.quieted.idleReached else s.quieted := by
  rw [State.quietSample_steps, State.endsSpacing_eq hl, State.endsRecovery_eq hl hcount]
  have hiff := s.liu.quieted_idle hcount.2.2.2
  unfold State.endsWindow
  change (if s.liu.idle < 32 ∧ s.quieted.liu.idle = 32 then s.quieted.idleReached else s.quieted) = _
  rw [s.quieted_liu]
  by_cases h : s.liu.idle = 31
  · rw [if_pos h, if_pos (hiff.mpr h)]
  · rw [if_neg h, if_neg fun hh => h (hiff.mp hh)]

/-! ### The bit time -/

theorem step_eq_bitTime {s : State} (h : s.pending = []) : step s = .next s.bitTime := step_of_empty h

theorem State.bitTime_of_waiting {s : State} (hr : s.inReset = false)
    (h : s.liuHeld = true ∨ s.liu.phase ≠ .idle ∨ s.readyToStart = false) : s.bitTime = s.advanceClock.lineBit := by
  rw [State.bitTime, if_neg (by simp [hr]), if_neg]
  rintro ⟨hheld, hp, hready⟩
  rcases h with h | h | h
  · exact hheld h
  · exact h hp
  · rw [h] at hready
    cases hready

/-- A station with its own frame on the Line applies frames. -/
theorem State.Lawful.liuHeld_of_image {s : State} (h : s.Lawful) {img : TransmitImage} (himage : s.image = some img) :
    s.liuHeld = false :=
  State.liuHeld_of_takesPosts (h.lawUpTo.takesPosts_of_image (by rw [himage]; rfl))

/-- The clock ticks before the sample, and the sample finds the LIU as it was (log entry 30). -/
theorem State.liuHeld_advanceClock (s : State) : s.advanceClock.liuHeld = s.liuHeld := by
  obtain ⟨-, hctl, -, -⟩ := s.advanceClock_keeps
  exact State.liuHeld_congr (by rw [hctl])

/-- R143, R147: what one recessive sample outside any frame does beside the LIU. -/
theorem State.Lawful.quietSample_cases {s : State} (h : s.Lawful) (hl : s.liuHeld = false) (hcount : s.CountLaw) :
    s.quietSample.liu = s.liu.quieted
      ∧ (s.ctl.joinStage ≠ some .idleWait → s.ctl.joinStage ≠ some .window →
          s.quietSample = { s with liu := s.liu.quieted })
      ∧ (s.ctl.joinStage = some .idleWait → s.quietSample =
          if s.liu.startsUp then
            { s with
              liu := s.liu.quieted
              ctl := { s.ctl with joinStage := some .joinSending }
              queue := s.queue ++ [{ frame := .join s.ctl.freshOwed, onLine := false }] }
          else { s with liu := s.liu.quieted })
      ∧ (s.ctl.joinStage = some .window →
          (s.liu.idle ≠ 31 → s.quietSample = { s with liu := s.liu.quieted })
          ∧ (s.liu.idle = 31 → s.quietSample = State.enterActive { s with liu := s.liu.quieted })) := by
  obtain ⟨hother, hwait⟩ := h.startUpReached_cases s.liu.quieted
  have hquiet := s.quietSample_eq hl hcount
  have hplain : s.ctl.joinStage ≠ some .idleWait → s.quieted = { s with liu := s.liu.quieted } := fun hj => by
    rw [State.quieted, hother hj, ite_self]
  have hliu : ∀ u : State, u.idleReached.liu = u.liu := fun u => by simp
  have hpass : ∀ u : State, u.ctl.joinStage ≠ some .window → u.idleReached = u := fun u hj => if_neg fun hh => hj hh.2
  refine ⟨?liu, fun hj hw => ?rest, fun hj => ?posted, fun hj => ⟨fun hi => ?before, fun hi => ?entered⟩⟩
  case liu =>
    rw [hquiet]
    split
    · rw [hliu, State.quieted_liu]
    · exact State.quieted_liu s
  case rest => rw [hquiet, hplain hj, hpass { s with liu := s.liu.quieted } hw, ite_self]
  case posted =>
    have hposted : s.quieted = if s.liu.startsUp then
            { s with
              liu := s.liu.quieted
              ctl := { s.ctl with joinStage := some .joinSending }
              queue := s.queue ++ [{ frame := .join s.ctl.freshOwed, onLine := false }] }
          else { s with liu := s.liu.quieted } := by rw [State.quieted, hwait hj]
    have hstage : s.quieted.ctl.joinStage ≠ some .window := by
      rw [hposted]
      split
      · simp
      · simp [hj]
    rw [hquiet, hpass _ hstage, ite_self, hposted]
  case before => rw [hquiet, if_neg hi, hplain (by simp [hj])]
  case entered =>
    rw [hquiet, if_pos hi, hplain (by simp [hj])]
    exact if_pos ⟨h.listen_of_stage hj, hj⟩

/-- R60, R61, R75: the LIU after one recessive sample outside any frame, field by field. -/
theorem Liu.quieted_fields (l : Liu) :
    l.quieted.failures = l.failures ∧ l.quieted.alone = l.alone ∧ l.quieted.dominant = 0
      ∧ l.quieted.startUpIdle = (if l.recovers then 16 else min (l.startUpIdle + 1) 16)
      ∧ l.quieted.phase = (if l.recovers ∨ l.spaces then .idle else l.phase)
      ∧ (l.recovers = false → l.spaces = false → l.quieted.idle = min (l.idle + 1) 32) := by
  unfold Liu.quieted
  cases hr : l.recovers with
  | true => exact ⟨rfl, rfl, rfl, rfl, rfl, fun hf => by cases hf⟩
  | false =>
    cases hs : l.spaces with
    | true => exact ⟨rfl, rfl, rfl, rfl, rfl, fun _ hf => by cases hf⟩
    | false => exact ⟨rfl, rfl, rfl, rfl, rfl, fun _ _ => rfl⟩

theorem Liu.quieted_recessive (l : Liu) : l.quieted.recessive = min (l.recessive + 1) 16 := by
  unfold Liu.quieted
  split
  · rename_i hr
    simp only [Liu.recovers, decide_eq_true_eq] at hr
    simp only [Liu.recover, Config.recoverySamples]
    omega
  · split
    · rename_i hs
      simp only [Liu.spaces, decide_eq_true_eq] at hs
      simp only [Liu.spaced, Liu.sample, if_true, Config.recoverySamples, Config.spacingSamples]
      omega
    · rfl

/-- Settles O21. -/
theorem bitTimePassesOnEmptyQueue : Obligations.BitTimePassesOnEmptyQueue := by
  unfold Obligations.BitTimePassesOnEmptyQueue
  intro s hlaw hcount hpending
  rw [step_eq_bitTime hpending]
  have hperiods : (match s.config.rate.toNat with | 0 => 320 | 1 => 160 | 2 => 80 | _ => 40)
      = Config.clkPerBit s.config.rate := by
    rw [clkPerBit_eq]
    have hlt := s.config.rate.isLt
    generalize s.config.rate.toNat = r at hlt
    interval_cases r <;> rfl
  intro periods
  replace hperiods : periods = Config.clkPerBit s.config.rate := hperiods
  clear_value periods
  subst hperiods
  refine ⟨fun hr => ?reset, fun hl hp hready => ?starts, fun hr hwait => ⟨s.advanceClock, ?early, ?tick, ?idle, ?sends, ?quiet⟩⟩
  case reset => rw [State.bitTime, if_pos hr]
  case starts =>
    have hreset : s.inReset = false := by
      cases hr : s.inReset with
      | false => rfl
      | true =>
        have hconfig := hlaw.lawUpTo.control.reset hr
        obtain ⟨hposts, -⟩ := State.readyToStart_iff.mp hready
        exact absurd (State.takesPosts_iff.mp hposts) (by simp [hconfig])
    have hnow : ¬ s.liuHeld = true ∧ s.liu.phase = .idle ∧ s.readyToStart = true := ⟨by simp [hl], hp, hready⟩
    rw [State.bitTime, if_neg (by simp [hreset]), if_pos hnow]
    exact congrArg Host.Outcome.next (if_pos hnow).symm
  all_goals
    obtain ⟨hliu, hctl, himages, -⟩ := s.advanceClock_keeps
    have hheld := s.liuHeld_advanceClock
  case early => exact State.advanceClock_of_lt
  case tick =>
    exact fun hle => ⟨_, congrArg Host.Outcome.next (if_neg (by simp [hr])), State.advanceClock_of_le hle⟩
  all_goals rw [State.bitTime_of_waiting hr hwait]
  case idle =>
    intro h
    refine congrArg Host.Outcome.next ?_
    unfold State.lineBit
    rw [hheld, hliu]
    rcases h with h | h | h <;> simp [h]
  case sends =>
    intro img b himage hb hp hfree
    have hl := hlaw.liuHeld_of_image himage
    have hbit : s.advanceClock.lineBit = s.advanceClock.sendBit := by
      unfold State.lineBit
      rw [hheld, hliu]
      rcases hp with hp | hp <;> simp [hl, hp]
    rw [hbit, State.sendBit_of_free (himages ▸ himage) (by rw [hliu]; exact hb) (by rw [hliu]; exact hfree)
      (by rw [hliu]; exact hp), hliu]
    obtain ⟨hfail, halone, hdominant, hrecessive, hidle⟩ := Liu.sent_fields (img := img) hfree
      (by rcases hp with hp | hp <;> simp [hp]) (s.liu.txSent + 1)
    exact ⟨_, rfl, rfl, rfl, hfail, halone, hdominant, hrecessive, hidle, rfl⟩
  case quiet =>
    intro hl hp
    have hsample : s.advanceClock.lineBit = s.advanceClock.quietSample := by
      unfold State.lineBit
      rw [hheld, hliu]
      rcases hp with hp | hp | hp <;> simp [hl, hp]
    have hlaw' := hlaw.advanceClock
    obtain ⟨hquiet, hrest, hposted, hwindow⟩ := hlaw'.quietSample_cases (hheld.trans hl) (by rw [State.CountLaw, hliu]; exact hcount)
    rw [hliu] at hquiet hrest hposted hwindow
    obtain ⟨hfail, halone, hdom, hstart, hphase, hidle⟩ := s.liu.quieted_fields
    rw [hsample, ← hctl]
    refine ⟨_, rfl, ?_⟩
    rw [hquiet]
    refine ⟨hfail, halone, hdom, s.liu.quieted_recessive, hstart, hphase, hidle, hrest, hposted, fun hj => ?_⟩
    refine ⟨(hwindow hj).1, fun hi => ?_⟩
    have hlisten := hlaw'.listen_of_stage hj
    obtain ⟨-, hbid, hlapse, -⟩ := State.enterActive_choices (s := { s.advanceClock with liu := s.liu.quieted })
      hlaw'.2.1 (hlaw'.lawUpTo.choicePlaces_empty hlisten)
    rw [(hwindow hj).2 hi]
    refine ⟨(State.enterActive_eq _).trans ?_, hbid, hlapse⟩
    rw [State.raiseCause_notices_congr (s := s.advanceClock) (t := { s.advanceClock with liu := s.liu.quieted }) (by rfl)
      .joined]

end Sys2Proof.Machine
end

section
/-! SUPPORT. RESTART and the wait for the own frame on the Line (R157, R158, R76, R176). -/

namespace Sys2Proof.Machine

/-- R158: what the restart clears does not count; what it keeps, and the LIU, do. -/
theorem State.restartNow_congr {s t : State} (hpending : t.pending = s.pending) (hreset : t.inReset = s.inReset)
    (hdivider : t.divider = s.divider) (hconfig : t.config = s.config) (hctl : t.ctl = s.ctl) (hport : t.port = s.port) :
    t.restartNow = State.restartNow { s with image := none, liu := t.liu } := by
  simp only [State.restartNow, State.station, hpending, hreset, hdivider, hconfig, hctl, hport]

section
variable {s : State}

theorem State.ownEnds_of_waiting (hw : s.ctl.restartWaiting = true) (o : FrameOutcome) (accept : Level) :
    s.ownEnds o accept = s.restartNow := by
  rw [State.ownEnds]
  exact (if_pos hw).trans (s.restartNow_outcome o)

/-- R157: the end of an own frame that is not taken is the end of the wait. -/
theorem State.ownObjected_of_waiting (hw : s.ctl.restartWaiting = true) (f : Frame) (accept : Level) (own : Bool) :
    ∃ l : Liu, s.ownObjected f accept own = State.restartNow { s with image := none, liu := l } ∧ l.phase = .spacing := by
  refine ⟨_, (State.ownEnds_of_waiting (by exact hw) _ _).trans
    (State.restartNow_congr (s := s) rfl rfl rfl rfl rfl rfl), rfl⟩

/-- R157: so is the end of one that is taken. -/
theorem State.ownTaken_of_waiting (hw : s.ctl.restartWaiting = true) (f : Frame) (accept : Level) :
    ∃ l : Liu, s.ownTaken f accept = State.restartNow { s with image := none, liu := l } ∧ l.phase = .spacing := by
  unfold State.ownTaken
  dsimp only
  rw [if_pos (by simpa using hw)]
  exact ⟨_, State.restartNow_congr (s := s) (by simp) (by simp) (by simp) (by simp) (by simp) (by simp),
    by simp [Liu.frameTaken, Liu.endFrame]⟩

theorem State.ownFrame_of_waiting (hw : s.ctl.restartWaiting = true) (f : Frame) (accept : Level) :
    ∃ l : Liu, s.ownFrame f accept = State.restartNow { s with image := none, liu := l } ∧ l.phase = .spacing := by
  unfold State.ownFrame
  split
  · exact State.ownObjected_of_waiting hw f accept true
  · exact State.ownTaken_of_waiting hw f accept

/-- R62: a station with its own frame on the Line joins no other. -/
theorem State.joins_of_image {img : TransmitImage} (himage : s.image = some img) : s.joins = s := by
  refine if_neg fun ⟨_, hready⟩ => ?_
  obtain ⟨-, -, -, hnone, -⟩ := State.readyToStart_iff.mp hready
  rw [himage] at hnone
  cases hnone

/-- R25: this station's own frame reaches its slots. -/
theorem State.frame_of_own (hl : s.liuHeld = false) {img : TransmitImage} (himage : s.image = some img) (accept : Level) :
    s.frame img.frame accept = s.ownFrame img.frame accept := by
  simp [State.frame, hl, State.joins_of_image himage, himage]

/-- R157: the events that end an own frame, with the phase that the LIU is then in. -/
theorem exec_of_waiting (hl : s.liuHeld = false) (himage : s.image ≠ none) (hw : s.ctl.restartWaiting = true)
    {c : Instr} {phase : LinePhase}
    (hc : (c = .arbitrationLost ∧ s.liu.phase = .arbitrating ∧ phase = .receiving)
      ∨ ((c = .frameRefused ∨ ∃ e, c = .frameCorrupted e) ∧ phase = .spacing)
      ∨ ((∃ (f : Frame) (accept : Level), s.image.map TransmitImage.frame = some f ∧ c = frameCommand f accept)
          ∧ phase = .spacing)
      ∨ (c = .stuckLine ∧ s.liu.phase ≠ .recovering ∧ phase = .recovering)) :
    ∃ l : Liu, exec c s = .next (State.restartNow { s with image := none, liu := l }) ∧ l.phase = phase := by
  obtain ⟨img, himg⟩ := Option.ne_none_iff_exists'.mp himage
  rcases hc with ⟨rfl, hp, rfl⟩ | ⟨rfl | ⟨e, rfl⟩, rfl⟩ | ⟨⟨f, accept, hf, rfl⟩, rfl⟩ | ⟨rfl, hp, rfl⟩
  · refine ⟨{ s.liu.sample false with phase := .receiving, txSent := 0 }, congrArg Host.Outcome.next ?_, rfl⟩
    rw [if_pos ⟨hp, by simp [himg]⟩, State.loseArbitration, State.ownEnds_of_waiting (by exact hw)]
    exact State.restartNow_congr (s := s) rfl rfl rfl rfl rfl rfl
  · obtain ⟨l, heq, hphase⟩ := State.ownObjected_of_waiting hw img.frame .dominant
      (storageObjects s.address true s.table img.frame)
    refine ⟨l, congrArg Host.Outcome.next ?_, hphase⟩
    simpa [hl, himg] using heq
  · cases e with
    | objected accept =>
      obtain ⟨l, heq, hphase⟩ := State.ownObjected_of_waiting hw img.frame accept
        (storageObjects s.address true s.table img.frame)
      refine ⟨l, congrArg Host.Outcome.next ?_, hphase⟩
      simpa [himg] using heq
    | objectionRun =>
      refine ⟨s.objectionRun.liu, congrArg Host.Outcome.next ?_, rfl⟩
      simp only [himg, State.ownRun, State.ownEnds_of_waiting (s := s.objectionRun) hw]
      exact State.restartNow_congr (s := s) rfl rfl rfl rfl rfl rfl
  · obtain rfl : img.frame = f := by simpa [himg] using hf
    obtain ⟨l, heq, hphase⟩ := State.ownFrame_of_waiting hw img.frame accept
    exact ⟨l, by rw [exec_frameCommand, State.frame_of_own hl himg, heq], hphase⟩
  · refine ⟨s.liu.stick, congrArg Host.Outcome.next ?_, rfl⟩
    have hstuck : State.stuckFrame { s with liu := s.liu.stick } = { s with liu := s.liu.stick.outcome .corrupted } := by
      rw [State.stuckFrame, if_pos (by simp [himg])]
      exact if_pos hw
    rw [State.stuckLine, if_neg (by simp [hl, hp])]
    dsimp only
    rw [hstuck, if_pos (by simpa using hw),
      State.restartNow_congr (s := { s with liu := s.liu.stick.outcome .corrupted }) (by simp) (by simp) (by simp)
        (by simp) (by simp) (by simp), State.raiseCause_liu]
    exact State.restartNow_outcome { s with image := none, liu := s.liu.stick } .corrupted

/-- R158: the restart proceeds. -/
theorem exec_restartProceeds (hr : s.inReset = false) (hs : s.station ≠ .config) (himage : s.image = none)
    (hw : s.ctl.restartWaiting = true ∨ s.port.processing = none) :
    exec .restartProceeds s = .next s.restartNow :=
  congrArg Host.Outcome.next (if_pos ⟨by simp [hr], hs, himage, hw⟩)

theorem exec_restart {body : List Byte} (h : s.inProcessing 0x0F body) :
    exec (.restart body) s = .next (s.processRestart body) := by
  obtain ⟨hr, hproc, hlen⟩ := h
  exact congrArg Host.Outcome.next ((if_pos (by simp [State.processes, hr, hproc])).trans (if_pos hlen))

end

/-- Settles O17. -/
theorem restartWaitsForOwnFrame : Obligations.RestartWaitsForOwnFrame := by
  unfold Obligations.RestartWaitsForOwnFrame
  intro s body
  refine ⟨fun h => ⟨fun hs => ?config, fun hs himage => ?atOnce, fun hs himage hw => ?waits⟩,
    fun hr hl himage hw c phase hc => ?ends, fun hr hs himage hw => ?proceeds⟩
  case config => rw [exec_restart h, State.processRestart, if_pos hs]; rfl
  case atOnce =>
    rw [exec_restart h, State.processRestart, if_neg hs, if_pos himage,
      exec_restartProceeds (s := { s with port := { s.port with processing := none } }) h.1 hs himage (.inr rfl)]
    rfl
  case waits =>
    rw [exec_restart h, State.processRestart, if_neg hs, if_neg himage]
    simpa using h.2.1.symm
  case ends =>
    obtain ⟨l, hexec, hphase⟩ := exec_of_waiting hl himage hw hc
    have hs : s.station ≠ .config := (State.liuHeld_eq_false_iff.mp hl).1
    exact ⟨_, l, hexec, exec_restartProceeds (s := { s with image := none, liu := l }) hr hs rfl (.inl hw), hphase⟩
  case proceeds =>
    rw [exec_restartProceeds hr hs himage hw]
    by_cases hd : s.station = .detached
    · simp [State.restartNow, hd, Liu.release, StationCause.bit]
    · simp [State.restartNow, hd, StationCause.bit]

end Sys2Proof.Machine
end

section
/-! SUPPORT. A peer's frame that this station receives from its start bit (R25, R26, R65 to R67, R71): taken, or objected to
for want of room; what stays as it is, and the reports of R20 and R21 at a receiver. -/

namespace Sys2Proof.Machine

/-! ### The room test (R3) -/

theorem findEntry_isSome {t : List Entry} {id : Identity} : (findEntry t id).isSome = true ↔ ∃ e ∈ t, e.id = id := by
  simp [findEntry]

theorem findEntry_isNone {t : List Entry} {id : Identity} : (findEntry t id).isNone = true ↔ ∀ e ∈ t, e.id ≠ id := by
  simp [findEntry]

theorem stationFieldValid_iff {claimed : Bool} {station : Address} :
    stationFieldValid claimed station = true ↔ station ≠ 63 ∧ (claimed = true → station ≠ 0) := by
  revert claimed station
  decide

/-- R3: the room test of the manual's wording is the model's. -/
theorem State.stores_eq {s : State} {f : Frame} {b : Bool} (hsender : b = true ∨ f.head.sender ≠ s.address) :
    s.stores f = !storageObjects s.address b s.table f := by
  have happ : applies s.address b s.table f = kindApplies s.table f := by
    rw [Bool.eq_iff_iff, applies_iff]
    exact and_iff_right hsender
  unfold State.stores storageObjects
  cases hb : f.body with
  | raise cls limit deadline =>
    rw [Bool.eq_iff_iff]
    simp only [happ, kindApplies, hb, decide_eq_true_eq, Bool.not_eq_true', decide_eq_false_iff_not, findEntry_isSome,
      Config.tableCapacity]
    constructor
    · rintro (⟨hroom, hnew⟩ | hs | ha) ⟨⟨hs', ha'⟩, hobject⟩
      · rcases hobject with hfull | ⟨e, he, hid⟩
        · omega
        · exact hnew e he hid
      · exact hs hs'
      · exact ha ha'
    · intro h
      by_contra hc
      push Not at hc
      obtain ⟨hroom, hs, ha⟩ := hc
      refine h ⟨⟨hs, ha⟩, ?_⟩
      by_cases hlen : s.table.length < 48
      · exact .inr (hroom hlen)
      · exact .inl (Nat.not_lt.mp hlen)
  | restate cls limit deadline claimed station remaining =>
    rw [Bool.eq_iff_iff]
    simp only [happ, kindApplies, hb, decide_eq_true_eq, Bool.not_eq_true', decide_eq_false_iff_not, findEntry_isNone,
      stationFieldValid_iff, Config.tableCapacity]
    constructor
    · rintro (hroom | ⟨e, he, hid⟩ | hs | h63 | ⟨hc, h0⟩) ⟨⟨hs', h63', h0'⟩, hfull, hnew⟩
      · omega
      · exact hnew e he hid
      · exact hs hs'
      · exact h63' h63
      · exact h0' hc h0
    · intro h
      by_contra hc
      push Not at hc
      obtain ⟨hfull, hnew, hs, h63, h0⟩ := hc
      exact h ⟨⟨hs, h63, h0⟩, hfull, hnew⟩
  | bid | finish | release | lapse | withdraw | join => rfl

/-! ### A frame received from its start bit -/

theorem State.joins_of_receives {s : State} (h : s.receives) : s.joins = s := by
  refine if_neg fun ⟨hsees, hready⟩ => ?_
  rcases h with hp | ⟨-, hnot⟩
  · rw [Liu.seesStartEdge_of_phase (by simp [hp]) (by simp [hp])] at hsees
    cases hsees
  · rw [hready] at hnot
    cases hnot

section
variable {s : State} {f : Frame} (h : s.hears f.head) (hgood : f.body.badParameters f.head.attempt = false) (accept : Level)
include h

theorem State.receivesFrame_of_hears : s.liu.receivesFrame = true := by
  obtain ⟨-, -, hr, -⟩ := h
  rcases hr with hp | ⟨hsees, -⟩
  · simp [Liu.receivesFrame, hp]
  · simp [Liu.receivesFrame, hsees]

include hgood

/-- R25, R65: the frame passes the format checks, and this station answers it in its slots. -/
theorem exec_of_hears : exec (frameCommand f accept) s = .next
    (if storageObjects s.address false s.table f then (s.span f).peerNowhere accept (.clean f) else s.peerTaken f) := by
  have hreceives := State.receivesFrame_of_hears h
  obtain ⟨hl, himage, hr, hlow, hhigh, hlen⟩ := h
  have hsender : badSender f.head.sender = false := by
    simp only [badSender, decide_eq_false_iff_not, not_or]
    constructor <;> intro he <;> simp [he] at hlow hhigh
  have hverdict : f.formatVerdict = .clean f := by
    rw [Frame.formatVerdict, if_neg (by simp [hsender]), if_neg (Nat.not_lt.mpr hlen), if_neg (by simp [hgood])]
  rw [exec_frameCommand, State.frame, if_neg (by simp [hl]), State.joins_of_receives hr]
  simp only [himage, hreceives, if_true, State.peerFrame, hverdict]

/-- R71: a peer's frame is taken. -/
theorem exec_of_taken (hsender : f.head.sender ≠ s.address) (hstores : s.stores f = true) :
    exec (frameCommand f accept) s = .next (s.heard f).testDrain := by
  rw [State.stores_eq (b := false) (.inr hsender), Bool.not_eq_true'] at hstores
  rw [exec_of_hears h hgood, hstores, State.peerTaken_heard, if_neg hsender]
  rfl

/-- R66, R67: a frame that this station has no room for draws ACCEPT and OBJECT. -/
theorem exec_of_objected (hsender : f.head.sender ≠ s.address) (hstores : s.stores f = false) :
    ∃ t : State, exec (frameCommand f accept) s = .next t ∧ (
      t = { s with liu := t.liu }
      ∧ t.liu.phase = .spacing ∧ t.liu.droveAccept = true ∧ t.liu.droveObject = true
      ∧ t.liu.droveRun = false ∧ t.liu.failures = s.liu.failures ∧ t.liu.alone = s.liu.alone) := by
  rw [State.stores_eq (b := false) (.inr hsender), Bool.not_eq_false'] at hstores
  rw [exec_of_hears h hgood, hstores, if_pos rfl]
  refine ⟨_, rfl, ?_⟩
  have hslots : (s.span f).peerNowhere accept (.clean f) = _ :=
    State.objectedSlots_of_le (s := s.span f) .dominant true (storageObjects s.address false s.table f)
      ((s.span_dominant f).trans (by omega))
  rw [hslots]
  exact ⟨rfl, rfl, rfl, hstores, rfl, by simp [Liu.endFrame, State.span], by simp [Liu.endFrame, State.span]⟩

end

/-! ### What a taken frame of a peer leaves -/

section
variable (s : State) (f : Frame)

theorem State.handleTaken_held (b : Bool) : (s.handleTaken b f).held = (s.reported b f).held := by
  simp [State.handleTaken_eq]

theorem State.handleTaken_origin (b : Bool) : (s.handleTaken b f).origin = (s.reported b f).origin := by
  simp [State.handleTaken_eq]

theorem State.handleTaken_notices (b : Bool) : (s.handleTaken b f).notices = (s.reported b f).notices := by
  simp [State.handleTaken_eq]

/-- R71, R73: the LIU of a receiver at the end of a taken frame. -/
theorem State.endPeer_liu (hsender : f.head.sender ≠ s.address) :
    (s.endPeer f).liu.failures = s.liu.failures ∧ (s.endPeer f).liu.alone = false ∧ (s.endPeer f).liu.phase = .spacing
      ∧ (s.endPeer f).liu.droveAccept = true ∧ (s.endPeer f).liu.droveObject = false
      ∧ (s.endPeer f).liu.droveRun = false := by
  simp [State.endPeer, Liu.frameTaken, hsender, Liu.endFrame]

theorem State.keptByPeer_heard (himage : s.image = none) (hsender : f.head.sender ≠ s.address) : s.keptByPeer (s.heard f) := by
  obtain ⟨hfail, halone, hphase, haccept, hobject, hrun⟩ := s.endPeer_liu f hsender
  unfold State.heard
  simp only [State.keptByPeer, State.tellAlone_liu, State.handleTaken_liu, hfail, halone, hphase, haccept, hobject, hrun]
  simp [State.endPeer, himage]

@[simp] theorem State.endPeer_address : (s.endPeer f).address = s.address := rfl

theorem State.heard_table : (s.heard f).table = (applyFrame s.address false s.table f).table := by
  rw [State.heard, State.tellAlone_table, State.handleTaken_table]
  rfl

theorem State.heard_held : (s.heard f).held = ((s.endPeer f).reported false f).held := by
  rw [State.heard, State.tellAlone_held, State.handleTaken_held]

theorem State.heard_origin : (s.heard f).origin = ((s.endPeer f).reported false f).origin := by
  rw [State.heard, State.tellAlone_origin, State.handleTaken_origin]

theorem State.heard_queue : (s.heard f).queue = ((s.endPeer f).handleTaken false f).queue := by
  rw [State.heard, State.tellAlone_queue]

/-- R149: PEERED is raised when the Alone flag falls. -/
theorem State.heard_notices (hsender : f.head.sender ≠ s.address) :
    (s.heard f).notices = s.peeredIf ((s.endPeer f).reported false f).notices := by
  have halone := (s.endPeer_liu f hsender).2.1
  rw [← State.handleTaken_notices]
  unfold State.heard State.tellAlone State.peeredIf
  rw [State.handleTaken_liu, halone]
  cases hs : s.liu.alone with
  | false => simp
  | true =>
    have hraised := State.raiseCause_notices_congr (t := (s.endPeer f).handleTaken false f)
      (s := { s with notices := ((s.endPeer f).handleTaken false f).notices }) rfl .peered
    simpa only [Bool.false_eq_true, if_false, if_true] using hraised

end

/-! ### The reports of R20 and R21 -/

theorem revokedHeld_of_closed {held : List HeldRecord} {id : Identity} (h : ∀ r ∈ held, r.id = id → r.state = .closed) :
    revokedHeld held id = held :=
  (List.map_congr_left fun r hr => if_neg fun ⟨hid, hst⟩ => hst (h r hr hid)).trans (List.map_id _)

theorem revokedNotice_of_closed {held : List HeldRecord} {id : Identity} (h : ∀ r ∈ held, r.id = id → r.state = .closed)
    (cause : RevokeCause) : revokedNotice held id cause = [] := by
  refine if_neg ?_
  simp only [List.any_eq_true, decide_eq_true_eq]
  exact fun ⟨r, hr, hid, hst⟩ => hst (h r hr hid)

section
variable {s : State} {id : Identity}

/-- R111: a report that leaves the claim of this station where it is revokes nothing. -/
theorem State.revoke_of_claimed (cause : RevokeCause)
    (h : ∀ r ∈ s.held, r.id = id → r.state = .closed ∨ claimedBy s.table id s.address r.attempt = true) :
    s.revoke id cause = s := by
  unfold State.revoke
  cases hrec : s.heldRecord id with
  | none => rfl
  | some r =>
    obtain ⟨hr, hid⟩ := State.heldRecord_some hrec
    rcases h r hr hid with hst | hc
    · simp [hst]
    · simp [hc]

/-- R111: a report that takes the claim away closes the record of it. -/
theorem State.revoke_eq (hn : (s.held.map HeldRecord.id).Nodup) (cause : RevokeCause)
    (h : ∀ r ∈ s.held, r.id = id → r.state ≠ .closed → claimedBy s.table id s.address r.attempt = false) :
    s.revoke id cause =
      { s with held := revokedHeld s.held id, notices := s.notices ++ revokedNotice s.held id cause } := by
  by_cases hclosed : ∀ r ∈ s.held, r.id = id → r.state = .closed
  · rw [State.revoke_of_claimed cause fun r hr hid => .inl (hclosed r hr hid), revokedHeld_of_closed hclosed,
      revokedNotice_of_closed hclosed, List.append_nil]
  · push Not at hclosed
    obtain ⟨r, hr, rfl, hst⟩ := hclosed
    have hnotice : revokedNotice s.held r.id cause = [.revoked r.id cause] :=
      if_pos (List.any_eq_true.mpr ⟨r, hr, by simp [hst]⟩)
    have hheld : (s.held.map fun x => if x.id = r.id then { x with state := .closed, unread := x.unread + 1 } else x)
        = revokedHeld s.held r.id := by
      refine List.map_congr_left fun x hx => ?_
      by_cases hid : x.id = r.id
      · obtain rfl := List.inj_on_of_nodup_map hn hx hr hid
        simp [hst]
      · simp [hid]
    simp [State.revoke, State.heldRecord_of_mem hn hr, hst, h r hr rfl hst, State.setHeld, State.notify, hnotice, hheld]

/-- R133, R134: a removal report of an entry that is mine closes its record with the final notice; of any other entry it
changes nothing here. -/
theorem State.reportOrigin_lists {cause : RemovalCause} {outcome : FinalOutcome} {n : Notice}
    (hcause : ∀ u : State, id.origin = u.address → u.reportOrigin id cause = u.originRemoved id outcome n)
    (hn : (s.origin.map OriginRecord.serial).Nodup)
    (hmine : id.origin = s.address → ∃ r ∈ s.origin, r.serial = id.serial ∧ r.inPool = true) :
    (s.reportOrigin id cause).origin = s.originAfter id outcome
      ∧ (s.reportOrigin id cause).notices = s.notices ++ s.finalNotice id n := by
  by_cases ho : id.origin = s.address
  · obtain ⟨r, hr, hserial, hpool⟩ := hmine ho
    have hst : r.state = .live ∨ r.state = .withdrawing := by simpa [OriginRecord.inPool] using hpool
    rw [hcause s ho, State.originRemoved, ← hserial, State.originRecord_of_mem hn hr]
    simp only [if_pos hst, State.originAfter, State.finalNotice, if_pos ho, hserial]
    exact ⟨rfl, rfl⟩
  · have hsame : s.reportOrigin id cause = s := if_neg ho
    rw [hsame]
    simp [State.originAfter, State.finalNotice, ho]

/-- R19: the report of a removal, at a station that did not settle the claim itself. -/
theorem State.deliver_removed_lists {b : Bool} {f : Frame} {a : Attempt} {cause : RemovalCause} {outcome : FinalOutcome}
    {n : Notice} (hcause : ∀ u : State, id.origin = u.address → u.reportOrigin id cause = u.originRemoved id outcome n)
    (hsettles : settlesOwn b f id = false) (hn : (s.origin.map OriginRecord.serial).Nodup)
    (hheld : (s.held.map HeldRecord.id).Nodup) (hgone : findEntry s.table id = none)
    (hmine : id.origin = s.address → ∃ r ∈ s.origin, r.serial = id.serial ∧ r.inPool = true) :
    (State.deliver b f s (.removed id a cause)).held = revokedHeld s.held id
      ∧ (State.deliver b f s (.removed id a cause)).origin = s.originAfter id outcome
      ∧ (State.deliver b f s (.removed id a cause)).notices =
          s.notices ++ s.finalNotice id n ++ revokedNotice s.held id cause.revokeCause := by
  obtain ⟨horigin, hnotices⟩ := State.reportOrigin_lists hcause hn hmine
  have hdeliver : State.deliver b f s (.removed id a cause) = (s.reportOrigin id cause).revoke id cause.revokeCause := by
    simp [State.deliver, hsettles]
  rw [hdeliver, State.revoke_eq (by simpa using hheld) cause.revokeCause (by simp [claimedBy, hgone])]
  exact ⟨by simp, horigin, by simp [hnotices]⟩

end

/-- No frame of a peer settles a claim of this station. -/
theorem settlesOwn_peer (f : Frame) (id : Identity) : settlesOwn false f id = false := by
  unfold settlesOwn
  cases f.body <;> rfl

end Sys2Proof.Machine
end

section
/-! SUPPORT. The taken frames of peers, kind by kind (R29 to R38, R45, R46): what each does to the table, the lists and the
notices. -/

namespace Sys2Proof.Machine

section
variable {s : State} {f : Frame}

/-- R27, R25: a peer's frame that passes its test is applied in full. -/
theorem State.applyFrame_of_kind (hsender : f.head.sender ≠ s.address) (hkind : kindApplies s.table f = true) :
    applyFrame s.address false s.table f = applyKind s.address false s.table f :=
  applyFrame_of_applies (applies_iff.mpr ⟨.inr hsender, hkind⟩)

/-- R27: a peer's frame that fails its test changes nothing. -/
theorem State.applyFrame_of_stale (hkind : kindApplies s.table f = false) :
    applyFrame s.address false s.table f = .unchanged s.table := by
  refine if_neg fun happ => ?_
  rw [(applies_iff.mp happ).2] at hkind
  cases hkind

/-- The reports of a taken frame of a peer, delivered one by one. -/
theorem State.endPeer_reported {a : Applied} (h : applyFrame s.address false s.table f = a) :
    (s.endPeer f).reported false f = a.reports.foldl (State.deliver false f) { s.endPeer f with table := a.table } :=
  State.reported_of (s := s.endPeer f) h

end

/-- R29, R45: the report of an insertion changes no list. -/
theorem State.heard_of_inserted {s : State} {f : Frame} {t : List Entry} {claimant : Option Address}
    (hsender : f.head.sender ≠ s.address)
    (h : applyFrame s.address false s.table f = { table := t, reports := [.inserted f.head.id claimant] }) :
    (s.heard f).table = t ∧ (s.heard f).held = s.held ∧ (s.heard f).origin = s.origin
      ∧ (s.heard f).notices = s.peeredIf s.notices := by
  have hreported := State.endPeer_reported h
  rw [State.heard_table, State.heard_held, State.heard_origin, State.heard_notices s f hsender, hreported, h]
  exact ⟨rfl, rfl, rfl, rfl⟩

/-- Table 3-6: at attempt 0 the parameters of a RAISE are good when limit and deadline are not 0. -/
theorem badParameters_raise {cls : ClassNo} {limit : Limit} {deadline : Units} {attempt : Attempt} (ha : attempt = 0)
    (hlimit : limit ≠ 0) (hdeadline : deadline ≠ 0) :
    Body.badParameters attempt (.raise cls limit deadline) = false := by
  subst ha
  simp only [Body.badParameters, decide_eq_false_iff_not, not_or]
  refine ⟨hlimit, hdeadline, fun hle => hlimit ?_⟩
  bv_omega

/-- Settles O25. -/
theorem raiseFrameInsertsAtEnd : Obligations.RaiseFrameInsertsAtEnd := by
  unfold Obligations.RaiseFrameInsertsAtEnd
  intro s h cls limit deadline accept hhears hsender horigin hattempt hlimit hdeadline
  have hgood := badParameters_raise (cls := cls) hattempt hlimit hdeadline
  refine ⟨fun ⟨hroom, hnew⟩ => ?_, fun hfull => ?_⟩
  · have hstores : s.stores { head := h, body := .raise cls limit deadline } = true := by
      simp only [State.stores, decide_eq_true_eq]
      exact .inl ⟨hroom, hnew⟩
    have happlied := State.applyFrame_of_kind (s := s) (f := { head := h, body := .raise cls limit deadline }) hsender
      (by simp [kindApplies, horigin, hattempt])
    obtain ⟨htable, hheld, horig, hnotices⟩ := State.heard_of_inserted hsender happlied
    exact ⟨_, exec_of_taken (f := { head := h, body := .raise cls limit deadline }) hhears hgood accept hsender hstores,
      State.keptByPeer_heard s _ hhears.2.1 hsender, htable, hheld, horig, hnotices⟩
  · have hstores : s.stores { head := h, body := .raise cls limit deadline } = false := by
      simp only [State.stores, decide_eq_false_iff_not]
      rintro (⟨hroom, hnew⟩ | hs | ha)
      · rcases hfull with hfull | ⟨e, he, hid⟩
        · omega
        · exact hnew e he hid
      · exact hs horigin
      · exact ha hattempt
    exact exec_of_objected (f := { head := h, body := .raise cls limit deadline }) hhears hgood accept hsender hstores

/-- Settles O26. -/
theorem bidFrameClaimsTheEntry : Obligations.BidFrameClaimsTheEntry := by
  unfold Obligations.BidFrameClaimsTheEntry
  intro s h accept e hhears hsender he hopen hattempt
  have happlied := State.applyFrame_of_kind (s := s) (f := { head := h, body := .bid }) hsender
    (by simp [kindApplies, he, hopen, hattempt])
  refine ⟨_, exec_of_taken (f := { head := h, body := .bid }) hhears rfl accept hsender rfl,
    State.keptByPeer_heard s _ hhears.2.1 hsender, ?_⟩
  rw [State.heard_table, State.heard_held, State.heard_origin, State.heard_notices s _ hsender,
    State.endPeer_reported happlied, happlied]
  exact ⟨rfl, rfl, rfl, rfl⟩

/-- R27: a stale frame changes no entry, no record and no notice but PEERED. -/
theorem State.heard_of_stale {s : State} {f : Frame} (hsender : f.head.sender ≠ s.address)
    (hkind : kindApplies s.table f = false) :
    (s.heard f).table = s.table ∧ (s.heard f).held = s.held ∧ (s.heard f).origin = s.origin
      ∧ (s.heard f).notices = s.peeredIf s.notices := by
  have happlied := State.applyFrame_of_stale hkind
  rw [State.heard_table, State.heard_held, State.heard_origin, State.heard_notices s f hsender,
    State.endPeer_reported happlied, happlied]
  exact ⟨rfl, rfl, rfl, rfl⟩

theorem claimedBy_eq_false {t : List Entry} {id : Identity} {a : Address} {attempt : Attempt}
    (h : ∀ e ∈ t, ¬ (e.id = id ∧ e.attempt = attempt ∧ e.claim.map Claim.claimant = some a)) :
    claimedBy t id a attempt = false := by
  unfold claimedBy
  cases he : findEntry t id with
  | none => rfl
  | some e =>
    obtain ⟨hmem, hid⟩ := findEntry_some he
    simpa [hid] using h e hmem

/-- Settles O33. -/
theorem staleFrameIsIgnored : Obligations.StaleFrameIsIgnored := by
  unfold Obligations.StaleFrameIsIgnored
  intro s f accept hhears hsender hgood h claimedAt hstale
  have hfind : ∀ e, findEntry s.table f.head.id = some e → e ∈ s.table ∧ e.id = f.head.id := fun e he => findEntry_some he
  obtain ⟨hkind, hstores⟩ : kindApplies s.table f = false ∧ s.stores f = true := by
    cases hb : f.body with
    | raise cls limit deadline =>
      simp only [hb] at hstale
      refine ⟨by simpa [kindApplies, hb, imp_iff_not_or] using hstale, ?_⟩
      simp only [State.stores, hb, decide_eq_true_eq]
      exact .inr hstale
    | bid =>
      simp only [hb] at hstale
      refine ⟨?_, by simp [State.stores, hb]⟩
      cases he : findEntry s.table f.head.id with
      | none => simp [kindApplies, hb, he]
      | some e =>
        obtain ⟨hmem, hid⟩ := hfind e he
        simpa [kindApplies, hb, he, h, hid] using hstale e hmem
    | finish result =>
      simp only [hb] at hstale
      refine ⟨?_, by simp [State.stores, hb]⟩
      rcases hstale with hnone | hlong
      · have hunclaimed : claimedBy s.table f.head.id f.head.sender f.head.attempt = false := claimedBy_eq_false hnone
        simp [kindApplies, hb, hunclaimed]
      · simp only [kindApplies, hb, decide_eq_false_iff_not]
        exact fun hh => absurd hh.2 (Nat.not_le.mpr hlong)
    | release reserved =>
      simp only [hb] at hstale
      have hunclaimed : claimedBy s.table f.head.id f.head.sender f.head.attempt = false := claimedBy_eq_false hstale
      exact ⟨by simp [kindApplies, hb, hunclaimed], by simp [State.stores, hb]⟩
    | lapse =>
      simp only [hb] at hstale
      refine ⟨?_, by simp [State.stores, hb]⟩
      cases he : findEntry s.table f.head.id with
      | none => simp [kindApplies, hb, he]
      | some e =>
        obtain ⟨hmem, hid⟩ := hfind e he
        simpa [kindApplies, hb, he, h, hid, Option.isSome_iff_ne_none] using hstale e hmem
    | withdraw =>
      simp only [hb] at hstale
      refine ⟨?_, by simp [State.stores, hb]⟩
      simp only [kindApplies, hb, decide_eq_false_iff_not, findEntry_isSome]
      rintro ⟨⟨e, he, hid⟩, hs⟩
      rcases hstale with hnone | hne
      · exact hnone e he hid
      · exact hne hs
    | join fresh =>
      simp only [hb] at hstale
      exact ⟨by simpa [kindApplies, hb] using hstale, by simp [State.stores, hb]⟩
    | restate cls limit deadline claimed station remaining =>
      simp only [hb] at hstale
      constructor
      · simp only [kindApplies, hb, decide_eq_false_iff_not, stationFieldValid_iff]
        rintro ⟨hs, h63, h0⟩
        rcases hstale with hne | h63' | ⟨hc, h0'⟩
        · exact hne hs
        · exact h63 h63'
        · exact h0 hc h0'
      · simp only [State.stores, hb, decide_eq_true_eq]
        exact .inr (.inr hstale)
  obtain ⟨htable, hheld, horigin, hnotices⟩ := State.heard_of_stale hsender hkind
  exact ⟨_, exec_of_taken hhears hgood accept hsender hstores, State.keptByPeer_heard s f hhears.2.1 hsender, htable, hheld,
    horigin, hnotices⟩

end Sys2Proof.Machine
end

section
/-! SUPPORT. The taken frames of peers that take an entry or a claim away (R33 to R38, R111, R133). -/

namespace Sys2Proof.Machine

/-! ### What the law says of the records of an identity -/

section
variable {s : State} (h : s.Lawful) {id : Identity}
include h

theorem State.Lawful.origin_nodup : (s.origin.map OriginRecord.serial).Nodup := h.lawUpTo.blocks.origin.2

/-- R125: an entry that is mine has its record in the pool. -/
theorem State.Lawful.record_of_mine {e : Entry} (he : findEntry s.table id = some e) (ho : id.origin = s.address) :
    ∃ r ∈ s.origin, r.serial = id.serial ∧ r.inPool = true := by
  obtain ⟨hmem, rfl⟩ := findEntry_some he
  exact (h.lawUpTo.own.entries e hmem ho).resolve_left fun hf => hf

/-- R98: a record that is not CLOSED has its claim in the table. -/
theorem State.Lawful.claimedBy_of_open {r : HeldRecord} (hr : r ∈ s.held) (hst : r.state ≠ .closed) :
    claimedBy s.table r.id s.address r.attempt = true :=
  (h.lawUpTo.held.claims r hr hst).resolve_left fun hf => hf

/-- R98: without a claim of this station, the record of an entry is CLOSED. -/
theorem State.Lawful.closed_of_unclaimed
    (hno : ∀ e, findEntry s.table id = some e → e.claim.map Claim.claimant ≠ some s.address) :
    ∀ r ∈ s.held, r.id = id → r.state = .closed := by
  rintro r hr rfl
  by_contra hst
  obtain ⟨e, c, he, -, hc, hme⟩ := claimedBy_iff.mp (h.claimedBy_of_open hr hst)
  exact hno e he (by simp [hc, hme])

end

/-- R20: a removal, told at a receiver. -/
theorem State.heard_of_removed {s : State} (hlaw : s.Lawful) {f : Frame} (hsender : f.head.sender ≠ s.address)
    {id : Identity} {a : Attempt} {cause : RemovalCause} {outcome : FinalOutcome} {n : Notice} {e : Entry}
    (he : findEntry s.table id = some e)
    (hcause : ∀ u : State, id.origin = u.address → u.reportOrigin id cause = u.originRemoved id outcome n)
    (h : applyFrame s.address false s.table f = { table := removeEntry s.table id, reports := [.removed id a cause] }) :
    (s.heard f).table = s.table.filter (fun x => x.id ≠ id)
      ∧ (s.heard f).held = revokedHeld s.held id
      ∧ (s.heard f).origin = s.originAfter id outcome
      ∧ (s.heard f).notices =
          s.peeredIf (s.notices ++ s.finalNotice id n ++ revokedNotice s.held id cause.revokeCause) := by
  rw [State.heard_table, State.heard_held, State.heard_origin, State.heard_notices s f hsender,
    State.endPeer_reported h, h]
  obtain ⟨hheld, horigin, hnotices⟩ := State.deliver_removed_lists
    (s := { s.endPeer f with table := removeEntry s.table id }) (b := false) (f := f) (a := a) hcause (settlesOwn_peer f id)
    hlaw.origin_nodup hlaw.held_nodup (findEntry_removeEntry_self _ _) fun ho => hlaw.record_of_mine he ho
  exact ⟨rfl, hheld, horigin, congrArg s.peeredIf hnotices⟩

/-- The queue of a receiver keeps the law, so a frame of an identity place has its open record. -/
theorem State.Lawful.place_of_heard {s : State} (hlaw : s.Lawful) (hl : s.liuHeld = false) (himage : s.image = none)
    {f : Frame} (hstore : storageObjects s.address false s.table f = false) {id : Identity} {q : QueuedFrame}
    (hq : q ∈ (s.heard f).queue) (hp : q.frame.place = .identity id) :
    id.origin = s.address ∧ ∃ r ∈ (s.heard f).origin, r.serial = id.serial ∧ r.isClosed = false := by
  have hheard := hlaw.lawUpTo.heard hl himage hstore
  obtain ⟨ho, r, hr, hserial, hb⟩ := (State.standsFor_identity hp).mp (hheard.standing hq)
  have haddress : (s.heard f).address = s.address := by simp [State.heard]
  refine ⟨haddress ▸ ho, r, hr, hserial, ?_⟩
  obtain ⟨frame, onLine⟩ := q
  cases frame with
  | raise => simp [OriginRecord.isClosed, hb.1]
  | restate => rcases hb with hb | hb <;> simp [OriginRecord.isClosed, hb]
  | withdraw =>
    have hst : r.state = .withdrawing := hb
    simp [OriginRecord.isClosed, hst]
  | bid | lapse | finish | release | join => cases hp

/-- Settles O27. -/
theorem finishFrameRemovesTheEntry : Obligations.FinishFrameRemovesTheEntry := by
  unfold Obligations.FinishFrameRemovesTheEntry
  intro s h result accept e hlaw hhears hsender he hclaim hattempt hlen
  have hclosed := hlaw.closed_of_unclaimed (id := h.id) fun x hx => by
    rw [he, Option.some_inj] at hx
    subst hx
    rw [hclaim]
    exact fun hs => hsender (Option.some_inj.mp hs)
  have happlied := State.applyFrame_of_kind (s := s) (f := { head := h, body := .finish result }) hsender
    (by simp [kindApplies, claimedBy, he, hattempt, hclaim, hlen])
  obtain ⟨htable, hheld, horigin, hnotices⟩ := State.heard_of_removed hlaw hsender he
    (cause := .finished h.sender result h.payload) (outcome := .finished)
    (n := .finished h.id h.sender result h.payload) (fun u ho => if_pos ho) happlied
  refine ⟨_, exec_of_taken (f := { head := h, body := .finish result }) hhears rfl accept hsender rfl,
    State.keptByPeer_heard s _ hhears.2.1 hsender, htable, ?_, horigin, ?_, fun q hq hp => ?_⟩
  · rw [hheld, revokedHeld_of_closed hclosed]
  · rw [hnotices, revokedNotice_of_closed hclosed, List.append_nil]
  · obtain ⟨ho, r, hr, hserial, hopen⟩ := hlaw.place_of_heard hhears.1 hhears.2.1 rfl hq hp
    rw [horigin, State.originAfter, if_pos ho] at hr
    obtain ⟨x, -, rfl⟩ := List.mem_map.mp hr
    by_cases hx : x.serial = h.id.serial
    · simp [hx, OriginRecord.isClosed] at hopen
    · simp [hx] at hserial

/-- R36: the attempt of a reopened entry is raised by 1, as far as three bits hold it. -/
theorem Entry.nextAttempt_toNat {e : Entry} (h : e.attempt ≠ 7) : e.nextAttempt.toNat = e.attempt.toNat + 1 := by
  rw [Entry.nextAttempt, if_neg h]
  bv_omega

theorem reopen_of_atLimit {t : List Entry} {e : Entry} (h : e.limit.toNat = e.attempt.toNat + 1) (cause : ReopenCause)
    (a : Address) :
    reopen t e cause a = { table := removeEntry t e.id, reports := [.removed e.id e.attempt (.abandoned e.limit a)] } :=
  if_pos (by simp [Entry.atLimit, h])

theorem reopen_of_below {t : List Entry} {e : Entry} (h : e.limit.toNat ≠ e.attempt.toNat + 1) (cause : ReopenCause)
    (a : Address) :
    reopen t e cause a =
      { table := updateEntry t e.id fun x => { x with attempt := e.nextAttempt, claim := none, lastClaimant := some a }
        reports := [.reopened e.id cause a e.nextAttempt] } :=
  if_neg (by simp [Entry.atLimit, h])

/-- An entry that a change leaves OPEN is claimed by nobody. -/
theorem claimedBy_updateEntry_of_open {t : List Entry} {id : Identity} {g : Entry → Entry} (hid : ∀ e, (g e).id = e.id)
    (hopen : ∀ e, (g e).claim = none) (a : Address) (attempt : Attempt) :
    claimedBy (updateEntry t id g) id a attempt = false := by
  rw [← Bool.not_eq_true, claimedBy_iff]
  rintro ⟨x, c, hx, -, hc, -⟩
  rw [findEntry_updateEntry hid, Option.map_eq_some_iff] at hx
  obtain ⟨e, he, rfl⟩ := hx
  rw [if_pos (findEntry_some he).2, hopen] at hc
  cases hc

/-- R21: a reopening, told at a receiver. -/
theorem State.heard_of_reopened {s : State} (hlaw : s.Lawful) {f : Frame} (hsender : f.head.sender ≠ s.address)
    {id : Identity} {cause : ReopenCause} {from_ : Address} {a : Attempt} {g : Entry → Entry} (hid : ∀ e, (g e).id = e.id)
    (hopen : ∀ e, (g e).claim = none)
    (h : applyFrame s.address false s.table f =
      { table := updateEntry s.table id g, reports := [.reopened id cause from_ a] }) :
    (s.heard f).table = updateEntry s.table id g
      ∧ (s.heard f).held = revokedHeld s.held id
      ∧ (s.heard f).origin = s.origin
      ∧ (s.heard f).notices = s.peeredIf (s.notices ++ revokedNotice s.held id .lapsed) := by
  have hreported : (s.endPeer f).reported false f =
      State.revoke { s.endPeer f with table := updateEntry s.table id g } id .lapsed := by
    rw [State.endPeer_reported h]
    simp [State.deliver, settlesOwn_peer]
  rw [State.heard_table, State.heard_held, State.heard_origin, State.heard_notices s f hsender, hreported, h,
    State.revoke_eq (by exact hlaw.held_nodup) .lapsed fun r _ _ _ =>
      claimedBy_updateEntry_of_open hid hopen _ _]
  exact ⟨rfl, rfl, rfl, rfl⟩

/-- Settles O28. -/
theorem takenBackClaimReopensOrAbandons : Obligations.TakenBackClaimReopensOrAbandons := by
  unfold Obligations.TakenBackClaimReopensOrAbandons
  intro s h body accept e c hlaw hhears hsender he hclaim hattempt hbody
  obtain ⟨-, hid⟩ := findEntry_some he
  obtain ⟨hgood, hstores, cause, happlied⟩ : body.badParameters h.attempt = false
      ∧ s.stores { head := h, body := body } = true
      ∧ ∃ cause, applyFrame s.address false s.table { head := h, body := body } = reopen s.table e cause c.claimant := by
    rcases hbody with rfl | ⟨⟨reserved, rfl⟩, hmine⟩
    · refine ⟨rfl, rfl, .lapsed, ?_⟩
      rw [State.applyFrame_of_kind (f := { head := h, body := .lapse }) hsender (by simp [kindApplies, he, hclaim, hattempt])]
      simp [applyKind, he, hclaim]
    · refine ⟨rfl, rfl, .released, ?_⟩
      rw [State.applyFrame_of_kind (f := { head := h, body := .release reserved }) hsender
        (by simp [kindApplies, claimedBy, he, hclaim, hattempt, hmine])]
      simp [applyKind, he, hmine]
  have hunclaimed : c.claimant ≠ s.address → ∀ r ∈ s.held, r.id = h.id → r.state = .closed := fun hc =>
    hlaw.closed_of_unclaimed fun x hx => by
      rw [he, Option.some_inj] at hx
      subst hx
      simpa [hclaim] using hc
  refine ⟨_, exec_of_taken (f := { head := h, body := body }) hhears hgood accept hsender hstores,
    State.keptByPeer_heard s _ hhears.2.1 hsender, ?_⟩
  by_cases hlimit : e.limit.toNat = e.attempt.toNat + 1
  · rw [reopen_of_atLimit hlimit, hid] at happlied
    obtain ⟨htable, hheld, horigin, hnotices⟩ := State.heard_of_removed hlaw hsender he
      (cause := .abandoned e.limit c.claimant) (outcome := .abandoned) (n := .abandoned h.id e.limit c.claimant)
      (fun u ho => if_pos ho) happlied
    exact ⟨hheld, fun hc => hheld.trans (revokedHeld_of_closed (hunclaimed hc)), fun hne => absurd hlimit hne,
      fun _ => ⟨htable, horigin, hnotices⟩⟩
  · rw [reopen_of_below hlimit, hid] at happlied
    obtain ⟨htable, hheld, horigin, hnotices⟩ := State.heard_of_reopened hlaw hsender
      (g := fun x => { x with attempt := e.nextAttempt, claim := none, lastClaimant := some c.claimant }) (fun _ => rfl)
      (fun _ => rfl) happlied
    exact ⟨hheld, fun hc => hheld.trans (revokedHeld_of_closed (hunclaimed hc)),
      fun _ => ⟨⟨e.nextAttempt, Entry.nextAttempt_toNat, htable⟩, horigin, hnotices⟩, fun heq => absurd heq hlimit⟩

/-- Settles O29. -/
theorem withdrawFrameRemovesTheEntry : Obligations.WithdrawFrameRemovesTheEntry := by
  unfold Obligations.WithdrawFrameRemovesTheEntry
  intro s h accept e hlaw hhears hsender he horigin
  have hpeer : h.id.origin ≠ s.address := horigin ▸ hsender
  have happlied : applyFrame s.address false s.table { head := h, body := .withdraw } =
      { table := removeEntry s.table h.id, reports := [.removed h.id e.attempt .withdrawn] } := by
    rw [State.applyFrame_of_kind (f := { head := h, body := .withdraw }) hsender (by simp [kindApplies, he, horigin])]
    simp [applyKind, he]
  obtain ⟨htable, hheld, horig, hnotices⟩ := State.heard_of_removed hlaw hsender he
    (cause := .withdrawn) (outcome := .withdrawn) (n := .withdrawn h.id) (fun u ho => if_pos ho) happlied
  refine ⟨_, exec_of_taken (f := { head := h, body := .withdraw }) hhears rfl accept hsender rfl,
    State.keptByPeer_heard s _ hhears.2.1 hsender, htable, hheld, ?_, ?_⟩
  · rw [horig, State.originAfter, if_neg hpeer]
  · rw [hnotices, State.finalNotice, if_neg hpeer, List.append_nil]
    rfl

end Sys2Proof.Machine
end

section
/-! SUPPORT. The taken frames of peers that restate (R40 to R42, R44 to R46), and the address clash (R49, R155). -/

namespace Sys2Proof.Machine

/-! ### RESTATE -/

/-- R12, R13, R44: the claim that a RESTATE sets at a receiver. -/
theorem restatedClaim_eq (me : Address) (claimed : Bool) (station : Address) (remaining : Units) :
    (if claimed then some (restatedClaim me station remaining) else none)
      = if claimed then
          some { claimant := station, remaining := remaining, expired := remaining = 0 && station ≠ me }
        else none := by
  simp only [restatedClaim, Bool.decide_and]

/-- R45: the last claimant that a RESTATE of an OPEN entry sets. -/
theorem restatedLast_eq (claimed : Bool) (station : Address) :
    (if claimed then none else if station = 0 then none else some station)
      = if claimed || station = 0 then none else some station := by
  cases claimed <;> simp

section
variable {s : State} {h : Header} {cls : ClassNo} {limit : Limit} {deadline : Units} {claimed : Bool} {station : Address}
  {remaining : Units}

theorem badParameters_restate (hlimit : limit ≠ 0) (hdeadline : deadline ≠ 0) (hattempt : h.attempt < limit) :
    Body.badParameters h.attempt (.restate cls limit deadline claimed station remaining) = false := by
  simp only [Body.badParameters, decide_eq_false_iff_not, not_or]
  exact ⟨hlimit, hdeadline, BitVec.not_le.mpr hattempt⟩

/-- R44: the RESTATE passes its test. -/
theorem kindApplies_restate {t : List Entry} (horigin : h.sender = h.id.origin) (hstation : station.toNat ≤ 62)
    (hclaimed : claimed = true → station ≠ 0) :
    kindApplies t { head := h, body := .restate cls limit deadline claimed station remaining } = true := by
  have hvalid : stationFieldValid claimed station = true :=
    stationFieldValid_iff.mpr ⟨fun he => by simp [he] at hstation, hclaimed⟩
  simp [kindApplies, horigin, hvalid]

/-- R13, R15, R115: a restated remaining value of 0 at the claimant is an expiry. -/
theorem State.foldl_restatedExpiry {f : Frame} (hn : (s.held.map HeldRecord.id).Nodup) (me : Address) (id : Identity)
    (a : Attempt) :
    (restatedExpiry me id a claimed station remaining).foldl (State.deliver false f) s =
      if claimed = true ∧ remaining = 0 ∧ station = me then
        { s with held := overrunHeld s.held id a, notices := s.notices ++ overrunNotice s.held id a }
      else s := by
  unfold restatedExpiry
  split
  · exact State.noticeDeadline_eq hn id a
  · rfl

theorem State.foldl_restatedExpiry_origin {f : Frame} (me : Address) (id : Identity) (a : Attempt) :
    ((restatedExpiry me id a claimed station remaining).foldl (State.deliver false f) s).origin = s.origin := by
  unfold restatedExpiry
  split
  · exact State.noticeDeadline_origin s id a
  · rfl

end

/-- Settles O31. -/
theorem restateFrameInserts : Obligations.RestateFrameInserts := by
  unfold Obligations.RestateFrameInserts
  intro s h cls limit deadline claimed station remaining accept hlaw hhears hsender horigin hlimit hdeadline hattempt hstation
    hclaimed hnew
  have hgood := badParameters_restate (cls := cls) (claimed := claimed) (station := station) (remaining := remaining)
    hlimit hdeadline hattempt
  have hkind := kindApplies_restate (cls := cls) (limit := limit) (deadline := deadline) (remaining := remaining)
    (t := s.table) horigin hstation hclaimed
  have hnone : findEntry s.table h.id = none := by simpa [findEntry] using hnew
  refine ⟨fun hroom => ?_, fun hfull => ?_⟩
  · have hstores : s.stores { head := h, body := .restate cls limit deadline claimed station remaining } = true := by
      simp only [State.stores, decide_eq_true_eq]
      exact .inl hroom
    have happlied := State.applyFrame_of_kind (s := s) hsender hkind
    simp only [applyKind, applyRestate, hnone, restatedClaim_eq, restatedLast_eq] at happlied
    refine ⟨_, exec_of_taken (f := { head := h, body := .restate cls limit deadline claimed station remaining }) hhears hgood
      accept hsender hstores, State.keptByPeer_heard s _ hhears.2.1 hsender, ?_⟩
    rw [State.heard_table, State.heard_held, State.heard_origin, State.heard_notices s _ hsender,
      State.endPeer_reported happlied, happlied]
    have hclosed : ∀ r ∈ s.held, r.id = h.id → r.state = .closed :=
      hlaw.closed_of_unclaimed fun e he => by rw [hnone] at he; cases he
    have hquiet : ∀ r ∈ s.held, r.overruns h.id h.attempt = false := fun r hr => by
      rw [← Bool.not_eq_true, HeldRecord.overruns_iff]
      exact fun ⟨hid, _, hst, _⟩ => hst (hclosed r hr hid)
    rw [List.foldl_cons, State.foldl_restatedExpiry (by exact hlaw.held_nodup)]
    have hnotice : s.notices ++ overrunNotice s.held h.id h.attempt = s.notices := by
      rw [overrunNotice_of_none hquiet, List.append_nil]
    by_cases hx : claimed = true ∧ remaining = 0 ∧ station = s.address
    · rw [if_pos hx]
      exact ⟨rfl, overrunHeld_of_none hquiet, rfl, congrArg s.peeredIf hnotice⟩
    · rw [if_neg hx]
      exact ⟨rfl, rfl, rfl, rfl⟩
  · have hstores : s.stores { head := h, body := .restate cls limit deadline claimed station remaining } = false := by
      simp only [State.stores, decide_eq_false_iff_not]
      rintro (hroom | ⟨e, he, hid⟩ | hs | h63 | ⟨hc, h0⟩)
      · omega
      · exact hnew e he hid
      · exact hs horigin
      · simp [h63] at hstation
      · exact hclaimed hc h0
    exact exec_of_objected (f := { head := h, body := .restate cls limit deadline claimed station remaining }) hhears hgood
      accept hsender hstores

/-- Settles O32. -/
theorem restateFrameUpdatesInPlace : Obligations.RestateFrameUpdatesInPlace := by
  unfold Obligations.RestateFrameUpdatesInPlace
  intro s h cls limit deadline claimed station remaining accept e hlaw hhears hsender horigin hlimit hdeadline hattempt
    hstation hclaimed he
  have hgood := badParameters_restate (cls := cls) (claimed := claimed) (station := station) (remaining := remaining)
    hlimit hdeadline hattempt
  have hkind := kindApplies_restate (cls := cls) (limit := limit) (deadline := deadline) (remaining := remaining)
    (t := s.table) horigin hstation hclaimed
  obtain ⟨hmem, hid⟩ := findEntry_some he
  have hstores : s.stores { head := h, body := .restate cls limit deadline claimed station remaining } = true := by
    simp only [State.stores, decide_eq_true_eq]
    exact .inr (.inl ⟨e, hmem, hid⟩)
  have happlied := State.applyFrame_of_kind (s := s) hsender hkind
  simp only [applyKind, applyRestate, he, restatedClaim_eq, Bool.false_eq_true, if_false] at happlied
  refine ⟨_, exec_of_taken (f := { head := h, body := .restate cls limit deadline claimed station remaining }) hhears hgood
    accept hsender hstores, State.keptByPeer_heard s _ hhears.2.1 hsender, ?_⟩
  rw [State.heard_table, State.heard_held, State.heard_origin, State.heard_notices s _ hsender,
    State.endPeer_reported happlied, happlied, List.foldl_cons]
  generalize htable : updateEntry s.table h.id _ = t
  have hfound : ∀ a, claimedBy t h.id s.address a = true ↔ claimed = true ∧ station = s.address ∧ a = h.attempt := by
    intro a
    rw [claimedBy_iff, ← htable, findEntry_updateEntry (by exact fun _ => rfl), he]
    simp only [Option.map_some, if_pos hid, Option.some_inj, exists_and_left, exists_eq_left']
    cases claimed with
    | false => simp
    | true =>
      constructor
      · rintro ⟨ha, c, hc, hme⟩
        obtain rfl := Option.some_inj.mp hc
        exact ⟨rfl, hme, ha.symm⟩
      · rintro ⟨-, hme, ha⟩
        exact ⟨ha.symm, _, rfl, hme⟩
  have hrecord : ∀ r ∈ s.held, r.id = h.id → r.state ≠ .closed → r.attempt = e.attempt := fun r hr hrid hst => by
    obtain ⟨x, c, hx, hxa, -⟩ := claimedBy_iff.mp (hlaw.claimedBy_of_open hr hst)
    rw [hrid, he, Option.some_inj] at hx
    exact hx ▸ hxa.symm
  have hdeliver : State.deliver false { head := h, body := .restate cls limit deadline claimed station remaining }
      { s.endPeer { head := h, body := .restate cls limit deadline claimed station remaining } with table := t }
      (.updated h.id (if claimed then some station else none) h.attempt)
    = State.revoke { s.endPeer { head := h, body := .restate cls limit deadline claimed station remaining } with table := t }
        h.id .lapsed := rfl
  rw [hdeliver]
  refine ⟨htable.symm, ?origin, fun ⟨hc, hme, ha⟩ => ?kept, fun hlost => ?lost⟩
  case origin =>
    rw [State.foldl_restatedExpiry_origin, State.revoke_origin]
    rfl
  case kept =>
    rw [State.revoke_of_claimed .lapsed fun r hr hrid => ?_, State.foldl_restatedExpiry (by exact hlaw.held_nodup)]
    · refine ⟨fun hne => ?_, fun h0 => ?_⟩
      · rw [if_neg fun hh => hne hh.2.1]
        exact ⟨rfl, rfl⟩
      · rw [if_pos ⟨hc, h0, hme⟩]
        exact ⟨rfl, rfl⟩
    · by_cases hst : r.state = .closed
      · exact .inl hst
      · exact .inr ((hfound _).mpr ⟨hc, hme, (hrecord r hr hrid hst).trans ha.symm⟩)
  case lost =>
    rw [State.revoke_eq (by exact hlaw.held_nodup) .lapsed fun r hr hrid hst => ?_, State.foldl_restatedExpiry ?_]
    · have hquiet : ∀ r ∈ revokedHeld s.held h.id, r.overruns h.id h.attempt = false := fun r hr => by
        obtain ⟨x, hx, rfl⟩ := List.mem_map.mp hr
        rw [← Bool.not_eq_true, HeldRecord.overruns_iff]
        rintro ⟨hxid, -, hst, -⟩
        split at hst
        · exact hst rfl
        · rename_i hnot
          rw [if_neg hnot] at hxid
          exact hnot ⟨hxid, hst⟩
      have hnotice : s.notices ++ revokedNotice s.held h.id .lapsed
          ++ overrunNotice (revokedHeld s.held h.id) h.id h.attempt = s.notices ++ revokedNotice s.held h.id .lapsed := by
        rw [overrunNotice_of_none hquiet, List.append_nil]
      by_cases hx : claimed = true ∧ remaining = 0 ∧ station = s.address
      · rw [if_pos hx]
        exact ⟨overrunHeld_of_none hquiet, congrArg s.peeredIf hnotice⟩
      · rw [if_neg hx]
        exact ⟨rfl, rfl⟩
    · have hids : (revokedHeld s.held h.id).map HeldRecord.id = s.held.map HeldRecord.id := by
        rw [revokedHeld, List.map_map]
        refine List.map_congr_left fun x _ => ?_
        simp only [Function.comp_apply]
        split <;> rfl
      exact (congrArg List.Nodup hids).mpr hlaw.held_nodup
    · rw [← Bool.not_eq_true]
      intro hclaim
      obtain ⟨hc, hme, ha⟩ := (hfound _).mp hclaim
      have hea := hrecord r hr hrid hst
      rcases hlost with hl | hl | hl
      · simp [hc] at hl
      · exact hl hme
      · exact hl (ha.symm.trans hea)

end Sys2Proof.Machine
end

section
/-! SUPPORT. A peer's taken JOIN and the restatement duty (R40 to R42), and the address clash (R49, R155, R138). -/

namespace Sys2Proof.Machine

/-! ### The restatement duty (R42) -/

/-- R42: the RESTATE of an own event, as it is posted. -/
def State.restateOf (s : State) (n : Serial) : QueuedFrame := { frame := .restate (s.ownId n), onLine := false }

/-- R42: a record that calls for its RESTATE. -/
def State.owesRestate (s : State) (r : OriginRecord) : Bool :=
  r.state = .live ∧ framePlaced s.queue (.identity (s.ownId r.serial)) = none

/-- R42: one record of the restatement duty. -/
def State.restateRecord (s : State) (r : OriginRecord) : State :=
  if r.state = .live ∧ framePlaced s.queue (.identity (s.ownId r.serial)) = none then
    s.post (.restate (s.ownId r.serial))
  else s

theorem framePlaced_append_ne {q : List QueuedFrame} {g : QueuedFrame} {p : Place} (hg : g.frame.place ≠ p) :
    framePlaced (q ++ [g]) p = framePlaced q p := by
  rw [framePlaced, framePlaced, List.find?_append]
  simp [hg]

theorem State.foldl_restateRecord (l : List OriginRecord) : ∀ {s : State}, s.takesPosts = true →
    (l.map OriginRecord.serial).Nodup →
    l.foldl State.restateRecord s =
      { s with queue := s.queue ++ (l.filter s.owesRestate).map fun r => s.restateOf r.serial } := by
  induction l with
  | nil => simp
  | cons r l ih =>
    intro s ht hn
    obtain ⟨hfresh, hn⟩ := List.nodup_cons.mp hn
    by_cases hr : s.owesRestate r = true
    · have hcond : r.state = .live ∧ framePlaced s.queue (.identity (s.ownId r.serial)) = none := by
        simpa [State.owesRestate] using hr
      have hstep : s.restateRecord r = { s with queue := s.queue ++ [s.restateOf r.serial] } := by
        rw [State.restateRecord, if_pos hcond, State.post_of_empty (f := .restate (s.ownId r.serial)) ht hcond.2]
        rfl
      rw [List.foldl_cons, hstep, ih (by exact ht) hn]
      have hsame : l.filter (State.owesRestate { s with queue := s.queue ++ [s.restateOf r.serial] })
          = l.filter s.owesRestate := by
        refine List.filter_congr fun x hx => ?_
        have hne : (s.restateOf r.serial).frame.place ≠ .identity (s.ownId x.serial) := fun he =>
          hfresh (List.mem_map.mpr ⟨x, hx, (State.ownId_inj (Place.identity.inj he)).symm⟩)
        exact congrArg (fun o => decide (x.state = .live ∧ o = none)) (framePlaced_append_ne hne)
      simp only [hsame, List.filter_cons_of_pos hr, List.map_cons, List.append_assoc, List.singleton_append]
      rfl
    · have hcond : ¬ (r.state = .live ∧ framePlaced s.queue (.identity (s.ownId r.serial)) = none) := by
        simpa [State.owesRestate] using hr
      rw [List.foldl_cons, State.restateRecord, if_neg hcond, ih ht hn, List.filter_cons_of_neg hr]

/-- R42: the restatement duty posts a RESTATE for every LIVE record whose place is empty, in Origin List order. -/
theorem State.restateAll_eq {s : State} (ht : s.takesPosts = true) (hn : (s.origin.map OriginRecord.serial).Nodup) :
    s.restateAll = { s with queue := s.queue ++ (s.origin.filter s.owesRestate).map fun r => s.restateOf r.serial } :=
  State.foldl_restateRecord s.origin ht hn

theorem State.restatementDuty_of_join {s : State} {f : Frame} {fresh : Bool} (hb : f.body = .join fresh) (applied : Bool) :
    s.restatementDuty f applied = if applied = true ∧ s.takesPosts = true then s.restateAll else s := by
  simp only [State.restatementDuty, hb]

theorem State.restatementDuty_of_other {s : State} {f : Frame} (hb : ∀ fresh, f.body ≠ .join fresh) (applied : Bool) :
    s.restatementDuty f applied = s := by
  unfold State.restatementDuty
  cases hbody : f.body with
  | join fresh => exact absurd hbody (hb fresh)
  | raise | bid | finish | release | lapse | withdraw | restate => rfl

/-- The frame of a place stays the frame of the place in a part of the queue that it belongs to. -/
theorem framePlaced_filter {q : List QueuedFrame} {p : Place} {g : QueuedFrame} (h : framePlaced q p = some g)
    {keep : QueuedFrame → Bool} (hg : keep g = true) : framePlaced (q.filter keep) p = some g := by
  obtain ⟨hp, before, after, rfl, hbefore⟩ := List.find?_eq_some_iff_append.mp h
  refine List.find?_eq_some_iff_append.mpr ⟨hp, before.filter keep, after.filter keep, ?_, fun x hx => ?_⟩
  · rw [List.filter_append, List.filter_cons_of_pos hg]
  · exact hbefore x (List.mem_filter.mp hx).1

/-- R42: the place of a LIVE record after the duty holds what it held, or the RESTATE. -/
theorem State.framePlaced_restateAll {s : State} (ht : s.takesPosts = true) (hn : (s.origin.map OriginRecord.serial).Nodup)
    {r : OriginRecord} (hr : r ∈ s.origin) (hlive : r.state = .live) :
    framePlaced s.restateAll.queue (.identity (s.ownId r.serial)) =
      some ((framePlaced s.queue (.identity (s.ownId r.serial))).getD (s.restateOf r.serial)) := by
  rw [State.restateAll_eq ht hn]
  cases hp : framePlaced s.queue (.identity (s.ownId r.serial)) with
  | some g =>
    rw [framePlaced, List.find?_append, show s.queue.find? _ = some g from hp]
    rfl
  | none =>
    rw [framePlaced, List.find?_append, show s.queue.find? _ = none from hp]
    have hmem : s.restateOf r.serial ∈ (s.origin.filter s.owesRestate).map fun r => s.restateOf r.serial :=
      List.mem_map.mpr ⟨r, List.mem_filter.mpr ⟨hr, by simp [State.owesRestate, hlive, hp]⟩, rfl⟩
    have hsome : ((((s.origin.filter s.owesRestate).map fun r => s.restateOf r.serial)).find?
        fun q => q.frame.place = .identity (s.ownId r.serial)).isSome = true :=
      List.find?_isSome.mpr ⟨_, hmem, by simp [State.restateOf, Queued.place]⟩
    obtain ⟨g, hg⟩ := Option.isSome_iff_exists.mp hsome
    obtain ⟨x, -, rfl⟩ := List.mem_map.mp (List.mem_of_find?_eq_some hg)
    have hplace := List.find?_some hg
    simp only [State.restateOf, Queued.place, decide_eq_true_eq, Place.identity.injEq] at hplace
    simpa [State.restateOf, hplace] using hg

/-- The re-choices leave the identity places. -/
theorem State.framePlaced_remakeChoices (s : State) (id : Identity) :
    framePlaced s.remakeChoices.queue (.identity id) = framePlaced s.queue (.identity id) := by
  have hbid := s.remakeLapse.withoutPlace_remakeBid
  have hlapse := s.withoutPlace_remakeLapse
  rw [State.remakeChoices, framePlaced_of_others hbid (by simp), framePlaced_of_others hlapse (by simp)]

/-! ### A fresh JOIN -/

/-- R111: the reports of a fresh JOIN, delivered in table order. -/
theorem State.foldl_revoke (cause : RevokeCause) (l : List Identity) : ∀ {s : State}, (s.held.map HeldRecord.id).Nodup →
    l.Nodup → (∀ i ∈ l, findEntry s.table i = none) →
    l.foldl (fun s i => s.revoke i cause) s =
      { s with
        held := s.held.map fun r =>
          if r.id ∈ l ∧ r.state ≠ .closed then { r with state := .closed, unread := r.unread + 1 } else r
        notices := s.notices ++ l.flatMap fun i => revokedNotice s.held i cause } := by
  induction l with
  | nil => simp
  | cons i l ih =>
    intro s hn hl hgone
    obtain ⟨hi, hl⟩ := List.nodup_cons.mp hl
    have hids : (revokedHeld s.held i).map HeldRecord.id = s.held.map HeldRecord.id := by
      rw [revokedHeld, List.map_map]
      refine List.map_congr_left fun x _ => ?_
      simp only [Function.comp_apply]
      split <;> rfl
    rw [List.foldl_cons, State.revoke_eq hn cause fun r _ _ _ => by
        simp [claimedBy, hgone i List.mem_cons_self]]
    refine (ih (by exact (congrArg List.Nodup hids).mpr hn) hl
      (by exact fun x hx => hgone x (List.mem_cons_of_mem _ hx))).trans ?_
    have hother : ∀ x ∈ l, revokedNotice (revokedHeld s.held i) x cause = revokedNotice s.held x cause := fun x hx => by
      have hne : x ≠ i := fun he => hi (he ▸ hx)
      simp only [revokedNotice, revokedHeld, List.any_map]
      congr 3
      funext r
      simp only [Function.comp_apply]
      split
      · rename_i hr
        simp [hr.1, Ne.symm hne]
      · rfl
    simp only [State.mk.injEq, true_and, and_true]
    refine ⟨?_, ?_⟩
    · rw [revokedHeld, List.map_map]
      refine List.map_congr_left fun x _ => ?_
      by_cases hx : x.id = i
      · by_cases hst : x.state = .closed <;> simp [hx, hst, hi]
      · simp [hx]
    · rw [List.flatMap_cons, ← List.append_assoc, List.flatMap_congr hother]

/-- R42: the reports of a JOIN leave the Origin List and the queue. -/
theorem State.reported_of_join {s : State} {b : Bool} {f : Frame} {fresh : Bool} (hb : f.body = .join fresh) :
    (s.reported b f).origin = s.origin ∧ (s.reported b f).queue = s.queue := by
  obtain ⟨es, hes⟩ : ∃ es : List Entry, (applyFrame s.address b s.table f).reports =
      es.map fun e => .removed e.id e.attempt .originRestarted := by
    unfold applyFrame
    split
    · cases fresh with
      | true => exact ⟨s.table.filter fun e => e.id.origin = f.head.sender, by simp [applyKind, hb]⟩
      | false => exact ⟨[], by simp [applyKind, hb, Applied.unchanged]⟩
    · exact ⟨[], rfl⟩
  have hone : ∀ (u : State) (e : Entry),
      (State.deliver b f u (.removed e.id e.attempt .originRestarted)).origin = u.origin
        ∧ (State.deliver b f u (.removed e.id e.attempt .originRestarted)).queue = u.queue := by
    intro u e
    have hreport : u.reportOrigin e.id .originRestarted = u := by
      unfold State.reportOrigin
      split <;> rfl
    simp only [State.deliver, hreport]
    split <;> simp
  unfold State.reported
  rw [hes, List.foldl_map]
  exact ⟨foldl_keeps State.origin _ (fun u e => (hone u e).1) es _, foldl_keeps State.queue _ (fun u e => (hone u e).2) es _⟩

/-- R9, R40: a fresh JOIN takes out the entries of its sender, and the claims on them. -/
theorem State.heard_of_freshJoin {s : State} (hlaw : s.Lawful) {h : Header} (hsender : h.sender ≠ s.address)
    (horigin : h.id.origin = h.sender) :
    (s.heard { head := h, body := .join true }).table = s.table.filter (fun x => x.id.origin ≠ h.sender)
      ∧ (s.heard { head := h, body := .join true }).held = s.held.map (fun r =>
          if r.id.origin = h.sender ∧ r.state ≠ .closed then { r with state := .closed, unread := r.unread + 1 } else r)
      ∧ (s.heard { head := h, body := .join true }).origin = s.origin
      ∧ (s.heard { head := h, body := .join true }).notices = s.peeredIf (s.notices ++
          (s.table.filter fun x => x.id.origin = h.sender).flatMap
            fun x => revokedNotice s.held x.id .originRestarted) := by
  have happlied := State.applyFrame_of_kind (s := s) (f := { head := h, body := .join true }) hsender
    (by simp [kindApplies, horigin])
  simp only [applyKind, if_true] at happlied
  have htable : (s.table.map Entry.id).Nodup := hlaw.lawUpTo.blocks.table.2
  have hids : ((s.table.filter fun x => x.id.origin = h.sender).map Entry.id).Nodup :=
    htable.sublist (List.filter_sublist.map _)
  have hgone : ∀ i ∈ (s.table.filter fun x => x.id.origin = h.sender).map Entry.id,
      findEntry (s.table.filter fun x => ¬ x.id.origin = h.sender) i = none := by
    intro i hi
    obtain ⟨x, hx, rfl⟩ := List.mem_map.mp hi
    simp only [List.mem_filter, decide_eq_true_eq] at hx
    refine List.find?_eq_none.mpr fun y hy hid => ?_
    simp only [List.mem_filter, decide_eq_true_eq] at hy hid
    exact hy.2 (hid ▸ hx.2)
  have hdeliver : ∀ (l : List Entry) (u : State),
      (l.map fun e => Report.removed e.id e.attempt .originRestarted).foldl
          (State.deliver false { head := h, body := .join true }) u
        = (l.map Entry.id).foldl (fun u i => u.revoke i .originRestarted) u := by
    intro l
    induction l with
    | nil => exact fun _ => rfl
    | cons e l ih =>
      intro u
      have hone : State.deliver false { head := h, body := .join true } u (.removed e.id e.attempt .originRestarted)
          = u.revoke e.id .originRestarted := by
        simp [State.deliver, State.reportOrigin, settlesOwn_peer, RemovalCause.revokeCause]
      rw [List.map_cons, List.foldl_cons, hone, ih, List.map_cons, List.foldl_cons]
  have hmem : ∀ r ∈ s.held, r.state ≠ .closed →
      (r.id ∈ (s.table.filter fun x => x.id.origin = h.sender).map Entry.id ↔ r.id.origin = h.sender) := by
    intro r hr hst
    constructor
    · intro hi
      obtain ⟨x, hx, hid⟩ := List.mem_map.mp hi
      rw [← hid]
      simpa using (List.mem_filter.mp hx).2
    · intro ho
      obtain ⟨e, c, he, -⟩ := claimedBy_iff.mp (hlaw.claimedBy_of_open hr hst)
      obtain ⟨hmem, hid⟩ := findEntry_some he
      exact List.mem_map.mpr ⟨e, List.mem_filter.mpr ⟨hmem, by simpa [hid] using ho⟩, hid⟩
  rw [State.heard_table, State.heard_held, State.heard_origin, State.heard_notices s _ hsender,
    State.endPeer_reported happlied, happlied, hdeliver,
    State.foldl_revoke .originRestarted _ (by exact hlaw.held_nodup) hids (by exact hgone)]
  refine ⟨rfl, List.map_congr_left fun r hr => ?_, rfl, ?_⟩
  · by_cases hst : r.state = .closed
    · simp [hst]
    · simp only [hmem r hr hst]
  · rw [List.flatMap_map]
    rfl

/-- R42: after a peer's JOIN the place of a LIVE record holds the frame it held, or its RESTATE. -/
theorem State.Lawful.framePlaced_of_join {s : State} (hlaw : s.Lawful) {h : Header} {fresh : Bool}
    (hsender : h.sender ≠ s.address) (horigin : h.id.origin = h.sender)
    (hkeeps : ∀ e ∈ s.table, e.id.origin = s.address → e ∈ (s.heard { head := h, body := .join fresh }).table)
    (ht : s.takesPosts = true) {r : OriginRecord} (hr : r ∈ s.origin) (hlive : r.state = .live) :
    framePlaced (s.heard { head := h, body := .join fresh }).queue (.identity (s.ownId r.serial)) =
      some ((framePlaced s.queue (.identity (s.ownId r.serial))).getD
        { frame := .restate (s.ownId r.serial), onLine := false }) := by
  have hbody : ({ head := h, body := .join fresh } : Frame).body = .join fresh := rfl
  generalize hf : ({ head := h, body := .join fresh } : Frame) = f at *
  obtain ⟨ho, hq⟩ := State.reported_of_join (s := s.endPeer f) (b := false) hbody
  have happ : applies s.address false s.table f = true := by
    subst hf
    exact applies_iff.mpr ⟨.inr hsender, by simp [kindApplies, horigin]⟩
  generalize hw : (s.endPeer f).reported false f = w at ho hq
  replace ho : w.origin = s.origin := ho
  replace hq : w.queue = s.queue := hq
  have haddress : w.address = s.address := by rw [← hw, State.reported_address]; rfl
  have hid : w.ownId = s.ownId := by
    funext n
    simp only [State.ownId, haddress]
  have hposts : w.takesPosts = true := by
    have hctl : w.ctl = s.ctl := by
      have hkept : ((s.endPeer f).handleTaken false f).ctl = w.ctl := by rw [State.handleTaken_eq, hw]; simp
      rw [← hkept, State.handleTaken_ctl]
      rfl
    exact (State.takesPosts_congr (by rw [hctl])).trans ht
  have hduty : w.restatementDuty f true = w.restateAll := by
    rw [State.restatementDuty_of_join hbody, if_pos ⟨rfl, hposts⟩]
  have hplace := State.framePlaced_restateAll (s := w) hposts (ho ▸ hlaw.origin_nodup) (ho ▸ hr) hlive
  rw [hid, hq] at hplace
  have hqueue : (s.heard f).queue = ((w.restateAll).purge).remakeChoices.queue := by
    rw [State.heard_queue, State.handleTaken_eq, hw, show applies (s.endPeer f).address false (s.endPeer f).table f = true
      from happ, hduty]
  have hpurge : (w.restateAll).purge.queue = (w.restateAll).queue.filter fun g =>
      g.onLine ∨ ¬ superseded w.restateAll.table w.restateAll.address g.frame := rfl
  rw [hqueue, State.framePlaced_remakeChoices, hpurge]
  refine (framePlaced_filter hplace ?_).trans (by simp only [State.restateOf, hid])
  have hframe : ((framePlaced s.queue (.identity (s.ownId r.serial))).getD (w.restateOf r.serial)).frame
      = .restate (s.ownId r.serial) := by
    cases hp : framePlaced s.queue (.identity (s.ownId r.serial)) with
    | none => simp [State.restateOf, hid]
    | some g => exact State.restate_of_live (fun _ hg => hlaw.lawUpTo.standing hg) hlaw.origin_nodup hr hlive hp
  obtain ⟨e, he, heid⟩ := hlaw.lawUpTo.entry_of_inPool hr (by simp [OriginRecord.inPool, hlive])
  have hkept := hkeeps e he (by rw [heid]; rfl)
  have htable : w.restateAll.table = (s.heard f).table := by
    rw [State.restateAll_table, State.heard_table, ← hw, State.reported_table]
    rfl
  refine decide_eq_true (.inr ?_)
  rw [hframe]
  change ¬ (findEntry w.restateAll.table (s.ownId r.serial)).isNone = true
  rw [findEntry_isNone]
  exact fun hnone => hnone e (htable ▸ hkept) heid

/-- R140: of the stations that apply frames, one in MUTE takes no posts. -/
theorem State.mute_of_closed {s : State} (hl : s.liuHeld = false) (ht : s.takesPosts = false) : s.station = .mute := by
  obtain ⟨hc, hd⟩ := State.liuHeld_eq_false_iff.mp hl
  simp only [State.takesPosts, decide_eq_false_iff_not, not_or] at ht
  cases hs : s.station <;> simp_all

/-- Settles O30. -/
theorem joinFrameCallsForRestatement : Obligations.JoinFrameCallsForRestatement := by
  unfold Obligations.JoinFrameCallsForRestatement
  intro s h accept hlaw hhears hsender horigin
  have himage : s.image = none := hhears.2.1
  have hmatch : ∀ (o : Option QueuedFrame) (g : QueuedFrame),
      some (o.getD g) = match o with | some q => some q | none => some g := fun o g => by cases o <;> rfl
  refine ⟨?fresh, ?kept⟩
  case fresh =>
    obtain ⟨htable, hheld, horig, hnotices⟩ := State.heard_of_freshJoin hlaw hsender horigin
    refine ⟨_, exec_of_taken (f := { head := h, body := .join true }) hhears rfl accept hsender rfl,
      State.keptByPeer_heard s _ himage hsender, htable, hheld, horig, hnotices, fun ht r hr hlive => ?_⟩
    refine (hlaw.framePlaced_of_join hsender horigin (fun e he ho => ?_) ht hr hlive).trans (hmatch _ _)
    rw [htable]
    exact List.mem_filter.mpr ⟨he, by simpa [ho] using Ne.symm hsender⟩
  case kept =>
    have happlied := State.applyFrame_of_kind (s := s) (f := { head := h, body := .join false }) hsender
      (by simp [kindApplies, horigin])
    simp only [applyKind, Bool.false_eq_true, if_false] at happlied
    refine ⟨_, exec_of_taken (f := { head := h, body := .join false }) hhears rfl accept hsender rfl,
      State.keptByPeer_heard s _ himage hsender, ?_⟩
    rw [State.heard_table, State.heard_held, State.heard_origin, State.heard_notices s _ hsender,
      State.endPeer_reported happlied, happlied]
    refine ⟨rfl, rfl, rfl, rfl, fun ht => ?_, fun ht r hr hlive => ?_⟩
    · have hmute : s.station = .mute := State.mute_of_closed hhears.1 ht
      have hquiet := (hlaw.lawUpTo.heard hhears.1 himage (f := { head := h, body := .join false }) rfl).blocks.quiet
      have hstation : (s.heard { head := h, body := .join false }).station = .mute := by
        rw [State.station, (State.keptByPeer_heard s { head := h, body := .join false } himage hsender).2.2.2.2.1]
        exact hmute
      rw [(hquiet.2 (.inr (.inr hstation))).1, (hlaw.lawUpTo.blocks.quiet.2 (.inr (.inr hmute))).1]
    · refine (hlaw.framePlaced_of_join hsender horigin (fun e he ho => ?_) ht hr hlive).trans (hmatch _ _)
      rw [State.heard_table, happlied]
      exact he

end Sys2Proof.Machine
end

section
/-! SUPPORT. Entry to MUTE (R93, R138, R154) and the address clash (R49, R155). -/

namespace Sys2Proof.Machine

/-! ### The QUEUED records at entry to MUTE (R138) -/

/-- R138: a QUEUED record closes with REFUSED. -/
def OriginRecord.muted (r : OriginRecord) : OriginRecord :=
  if r.state = .queued then { r with state := .closed .refused, withdrawPending := false } else r

/-- R138: the final notices of the QUEUED records. -/
def State.mutedNotices (s : State) (l : List OriginRecord) : List Notice :=
  (l.filter fun r => r.state = .queued).map fun r => .refused (s.ownId r.serial) .muted

/-- R138: one record at entry to MUTE. -/
def State.refuseRecord (s : State) (r : OriginRecord) : State :=
  if r.state = .queued then s.closeOrigin r.serial .refused (.refused (s.ownId r.serial) .muted) else s

theorem State.foldl_refuseRecord (l : List OriginRecord) : ∀ s : State,
    l.foldl State.refuseRecord s =
      { s with
        origin := s.origin.map fun x =>
          if l.any fun r => r.state = .queued ∧ r.serial = x.serial then
            { x with state := .closed .refused, withdrawPending := false }
          else x
        notices := s.notices ++ s.mutedNotices l } := by
  induction l with
  | nil => simp [State.mutedNotices]
  | cons r l ih =>
    intro s
    by_cases hst : r.state = .queued
    · rw [List.foldl_cons, State.refuseRecord, if_pos hst, ih]
      simp only [State.closeOrigin, State.setOrigin, State.notify, State.mk.injEq, true_and, and_true, List.map_map]
      refine ⟨List.map_congr_left fun x _ => ?_, ?_⟩
      · by_cases hx : x.serial = r.serial
        · simp [hst, hx]
        · simp [hx, Ne.symm hx]
      · simp [State.mutedNotices, hst, State.ownId, State.address]
    · rw [List.foldl_cons, State.refuseRecord, if_neg hst, ih]
      simp [State.mutedNotices, hst]

/-- R93, R138: what entry to MUTE purges and closes. -/
theorem State.mutePurge_eq {s : State} (hn : (s.origin.map OriginRecord.serial).Nodup) :
    s.mutePurge =
      { s with
        queue := [], image := none, origin := s.origin.map OriginRecord.muted
        notices := s.notices ++ s.mutedNotices s.origin } := by
  refine (State.foldl_refuseRecord s.origin { s with queue := [], image := none }).trans ?_
  simp only [State.mk.injEq, true_and, and_true]
  refine ⟨List.map_congr_left fun x hx => ?_, rfl⟩
  have hiff : (s.origin.any fun r => r.state = .queued ∧ r.serial = x.serial) = true ↔ x.state = .queued := by
    simp only [List.any_eq_true, decide_eq_true_eq]
    exact ⟨fun ⟨r, hr, hst, hserial⟩ => List.inj_on_of_nodup_map hn hr hx hserial ▸ hst, fun hst => ⟨x, hx, hst, rfl⟩⟩
  simp only [OriginRecord.muted, hiff]

/-- R141, R125: in MUTE no record is QUEUED, as no RAISE waits. -/
theorem State.Lawful.not_queued_of_mute {s : State} (h : s.Lawful) (hs : s.station = .mute) {r : OriginRecord}
    (hr : r ∈ s.origin) : r.state ≠ .queued := by
  intro hst
  obtain ⟨q, hq, -⟩ := (h.lawUpTo.own.raises r hr hst).resolve_left fun hf => hf
  rw [(h.lawUpTo.blocks.quiet.2 (.inr (.inr hs))).1] at hq
  cases hq

/-- R49, R71: a clash frame leaves the table, the lists and the Alone flag. -/
theorem State.heard_of_clash {s : State} {f : Frame} (hsender : f.head.sender = s.address) :
    (s.heard f).table = s.table ∧ (s.heard f).held = s.held ∧ (s.heard f).origin = s.origin
      ∧ (s.heard f).notices = s.notices ∧ (s.heard f).liu.failures = s.liu.failures ∧ (s.heard f).liu.alone = s.liu.alone
      ∧ (s.heard f).ctl = s.ctl ∧ (s.heard f).config = s.config ∧ (s.heard f).serialCounter = s.serialCounter
      ∧ (s.heard f).port = s.port ∧ (s.heard f).image = s.image := by
  have happlied : applyFrame s.address false s.table f = .unchanged s.table :=
    if_neg fun happ => by simpa [hsender] using (applies_iff.mp happ).1
  have halone : (s.endPeer f).liu.alone = s.liu.alone := by simp [State.endPeer, Liu.frameTaken, hsender, Liu.endFrame]
  have hfail : (s.endPeer f).liu.failures = s.liu.failures := by simp [State.endPeer, Liu.frameTaken, hsender, Liu.endFrame]
  have htold : s.heard f = (s.endPeer f).handleTaken false f := if_pos (by rw [State.handleTaken_liu, halone])
  rw [htold, State.handleTaken_table, State.handleTaken_held, State.handleTaken_origin, State.handleTaken_notices,
    State.endPeer_reported happlied, show applyFrame (s.endPeer f).address false (s.endPeer f).table f = _ from happlied,
    State.handleTaken_liu, halone, hfail]
  refine ⟨rfl, rfl, rfl, rfl, rfl, rfl, ?_⟩
  simp [State.endPeer]

/-- Settles O34. -/
theorem addressClashMutes : Obligations.AddressClashMutes := by
  unfold Obligations.AddressClashMutes
  intro s f accept hlaw hhears hsender hgood
  have hstore : storageObjects s.address false s.table f = false := by
    have happ : applies s.address false s.table f = false := by
      rw [← Bool.not_eq_true, applies_iff]
      simp [hsender]
    unfold storageObjects
    cases f.body <;> simp [happ]
  have hexec : exec (frameCommand f accept) s = .next (s.heard f).addressClash := by
    rw [exec_of_hears hhears hgood, hstore, State.peerTaken_heard, if_pos hsender]
    rfl
  have himage : s.image = none := hhears.2.1
  obtain ⟨htable, hheld, horigin, hnotices, hfail, halone, hctl, hconfig, hcounter, hport, himg⟩ :=
    State.heard_of_clash (s := s) hsender
  have hlawful := hlaw.lawUpTo.heard hhears.1 himage hstore
  have hnotice : ∀ (u : State) (l : List OriginRecord), u.config = s.config →
      u.mutedNotices l = (l.filter fun r => r.state = .queued).map fun r => .refused (s.ownId r.serial) .muted := by
    intro u l hu
    simp only [State.mutedNotices, State.ownId, State.address, hu]
  have hstation : (s.heard f).station = s.station := congrArg Controller.state hctl
  refine ⟨_, hexec, ?_⟩
  unfold State.addressClash
  by_cases hmute : s.station = .mute
  · have hkeep : (s.origin.map fun r =>
        if r.state = .queued then { r with state := .closed .refused, withdrawPending := false } else r) = s.origin :=
      (List.map_congr_left fun r hr => if_neg (hlaw.not_queued_of_mute hmute hr)).trans (List.map_id _)
    have hnone : (s.origin.filter fun r => r.state = .queued) = [] :=
      List.filter_eq_nil_iff.mpr fun r hr => by simpa using hlaw.not_queued_of_mute hmute hr
    have hempty := hlawful.blocks.quiet.2 (.inr (.inr (hstation.trans hmute)))
    have hstage : s.ctl.joinStage = none := by
      have hiff := hlaw.lawUpTo.control.stage
      simpa [hmute] using hiff
    have hdraining : s.ctl.draining = false := by
      have hiff := hlaw.lawUpTo.control.draining
      simpa [hmute] using hiff
    have hstate : s.ctl.state = .mute := hmute
    rw [if_pos (hstation.trans hmute), hkeep, hnone, List.map_nil, List.append_nil, if_pos hmute]
    simp only [State.raiseCause_table, State.raiseCause_held, State.raiseCause_config, State.raiseCause_serialCounter,
      State.raiseCause_port, State.raiseCause_liu, State.raiseCause_queue, State.raiseCause_image, State.raiseCause_ctl,
      State.raiseCause_origin, htable, hheld, horigin, hfail, halone, hctl, hconfig, hcounter, hport, hempty, true_and]
    refine ⟨?_, State.raiseCause_notices_congr (by exact hnotices) _⟩
    rw [← hstage, ← hdraining, ← hstate]
  · rw [if_neg (fun hh => hmute (hstation.symm.trans hh)), State.mutePurge_eq (by simpa [horigin, State.toMute] using hlaw.origin_nodup),
      if_neg hmute]
    have hraised : ((((s.heard f).toMute .addressClash).raiseCause .muted).raiseCause .addressClash).notices
        = ((s.raiseCause .muted).raiseCause .addressClash).notices :=
      State.raiseCause_notices_congr (State.raiseCause_notices_congr (by exact hnotices) _) _
    simp only [hraised, hnotice _ _ (show ((((s.heard f).toMute .addressClash).raiseCause .muted).raiseCause .addressClash).config
        = s.config by simp [State.toMute, hconfig])]
    simp [State.toMute, htable, hheld, horigin, hfail, halone, hctl, hconfig, hcounter, hport, OriginRecord.muted]

end Sys2Proof.Machine
end

section
/-! SUPPORT. A frame of this station that ends LOST or CORRUPTED stays queued, with what its poster does at once (R91, R92,
R94, R101, R131, R132, R17). -/

namespace Sys2Proof.Machine

section
variable {s : State} {q : Queued} {f : Frame}

/-- R85: the frame on the Line is the queued one, and stands for it. -/
theorem State.Lawful.sends_frame (h : s.Lawful) (hs : s.sends q f) :
    ∃ img, s.image = some img ∧ img.frame = f ∧ q.sentAs s.address f = true
      ∧ ({ frame := q, onLine := true } : QueuedFrame) ∈ s.queue ∧ s.takesPosts = true := by
  obtain ⟨-, -, himage, hline⟩ := hs
  obtain ⟨img, himg, rfl⟩ := Option.map_eq_some_iff.mp himage
  obtain ⟨g, hg, hsent⟩ := h.lawUpTo.sending himg
  obtain rfl := Option.some_inj.mp (hline.symm.trans hg)
  exact ⟨img, himg, rfl, hsent, (State.frameOnLine_some hline).1, h.lawUpTo.takesPosts_of_image (by simp [himg])⟩

end

/-! ### The queue kept -/

/-- R91, R92: the queue with no frame on the Line any more. -/
def State.keptQueue (s : State) : List QueuedFrame := s.queue.map fun g => { g with onLine := false }

theorem framePlaced_kept {s : State} {p : Place} :
    framePlaced s.keptQueue p = (framePlaced s.queue p).map fun g => { g with onLine := false } := by
  simp only [framePlaced, State.keptQueue, List.find?_map]
  rfl

theorem State.keptQueue_off {s : State} : ∀ g ∈ s.keptQueue, g.onLine = false := by
  intro g hg
  obtain ⟨x, -, rfl⟩ := List.mem_map.mp hg
  rfl

theorem State.keptQueue_places (s : State) :
    (s.keptQueue.map fun g => g.frame.place) = s.queue.map fun g => g.frame.place := by
  simp [State.keptQueue, Function.comp_def]

/-- The own frame stands in its place among the kept frames. -/
theorem State.Lawful.framePlaced_own {s : State} {q : Queued} (hlaw : s.Lawful)
    (hq : ({ frame := q, onLine := true } : QueuedFrame) ∈ s.queue) :
    framePlaced s.keptQueue q.place = some { frame := q, onLine := false } := by
  have hplace : framePlaced s.queue q.place = some { frame := q, onLine := true } := by
    have hplaces := hlaw.lawUpTo.blocks.queue.1
    cases hp : framePlaced s.queue q.place with
    | none => exact absurd rfl (framePlaced_none.mp hp _ hq)
    | some g => rw [eq_of_framePlaced hplaces hp hq rfl]
  rw [framePlaced_kept, hplace]
  rfl

/-- R83: no kept frame is on the Line, so a removal empties its place. -/
theorem State.removeFrame_kept {s k : State} (hk : k.queue = s.keptQueue) (p : Place) :
    k.removeFrame p = { k with queue := withoutPlace s.keptQueue p } := by
  rw [State.removeFrame_of_off fun g hg _ => State.keptQueue_off g (hk ▸ hg), hk]

section
variable {s k : State} {q : Queued} (hlaw : s.Lawful) (ht : s.takesPosts = true)
  (hq : ({ frame := q, onLine := true } : QueuedFrame) ∈ s.queue)
  (hk : k = { s with liu := k.liu, image := none, queue := s.keptQueue })
include hlaw ht hq hk

/-- R131, R132: the outcome of a frame in an identity place that is no WITHDRAW. -/
theorem State.Lawful.toldKept_identity {id : Identity} (hp : q.place = .identity id) (hw : q.isWithdraw = false)
    {r : OriginRecord} (hr : r ∈ s.origin) (hserial : r.serial = id.serial) :
    (r.state = .live ∨ (r.state = .queued ∧ r.withdrawPending = false) → k.toldKept q = k)
      ∧ (r.state = .queued → r.withdrawPending = true →
          k.toldKept q = State.closeOrigin { k with queue := withoutPlace s.keptQueue q.place } id.serial .withdrawn
            (.withdrawn id))
      ∧ (r.state = .withdrawing → ∃ e ∈ s.table, e.id = id
          ∧ k.toldKept q = { k with queue := withoutPlace s.keptQueue q.place
              ++ [{ frame := .withdraw id e.priority, onLine := false }] }) := by
  have horigin : k.origin = s.origin := by rw [hk]
  have hqueue : k.queue = s.keptQueue := by rw [hk]
  have hrecord : k.originRecord id.serial = some r := by
    rw [← hserial]
    exact State.originRecord_of_mem (s := k) (horigin ▸ hlaw.origin_nodup) (horigin ▸ hr)
  obtain ⟨ho, x, hx, hxs, hb⟩ := (State.standsFor_identity (q := { frame := q, onLine := true }) hp).mp
    (hlaw.lawUpTo.standing hq)
  obtain rfl := List.inj_on_of_nodup_map hlaw.origin_nodup hx hr (hxs.trans hserial.symm)
  have hpending := State.withdrawPending_of_not_queued hlaw.lawUpTo hr
  cases q with
  | raise i cls priority limit deadline payload =>
    obtain rfl := Place.identity.inj hp
    have hqueued : x.state = .queued := hb.1
    have htold : k.toldKept (.raise i cls priority limit deadline payload)
        = if x.withdrawPending = true then k.closeWithdrawn i else k := by
      simp only [State.toldKept, hrecord]
    refine ⟨fun h => ?_, fun _ hpend => ?_, fun h => by simp [hqueued] at h⟩
    · rcases h with h | ⟨-, h⟩
      · simp [hqueued] at h
      · rw [htold, if_neg (by simp [h])]
    · rw [htold, if_pos hpend, State.closeWithdrawn, State.removeFrame_kept hqueue]
      rfl
  | restate i =>
    obtain rfl := Place.identity.inj hp
    have htold : k.toldKept (.restate i) = if x.state = .withdrawing then k.postWithdraw i.serial else k := by
      simp only [State.toldKept, hrecord]
    have hst : x.state = .live ∨ (x.state = .withdrawing ∧ true = true) := hb
    refine ⟨fun h => ?_, fun h => ?_, fun h => ?_⟩
    · rw [htold, if_neg fun hwd => ?_]
      rcases h with h | ⟨h, -⟩ <;> simp [hwd] at h
    · rcases hst with hst | ⟨hst, -⟩ <;> simp [hst] at h
    · obtain ⟨e, he, heid⟩ := hlaw.lawUpTo.entry_of_inPool hr (by simp [OriginRecord.inPool, h])
      have hown : s.ownId x.serial = i := by rw [hxs]; exact State.ownId_of_origin ho
      have hkown : k.ownId i.serial = i := by
        have haddress : k.address = s.address := by rw [hk]; rfl
        exact State.ownId_of_origin (haddress ▸ ho)
      have hentry : findEntry k.table i = some e := by
        rw [show k.table = s.table by rw [hk], ← heid.trans hown]
        exact findEntry_of_mem hlaw.lawUpTo.blocks.table.2 he
      have hposts : k.takesPosts = true := by rw [hk]; exact ht
      have hplace := hlaw.framePlaced_own hq
      refine ⟨e, he, heid.trans hown, ?_⟩
      rw [htold, if_pos h, State.postWithdraw, hkown, hentry,
        State.post_of_givesWay (g := { frame := .restate i, onLine := false }) hposts (by rw [hqueue]; exact hplace) rfl rfl,
        hqueue]
      rfl
  | withdraw i priority => cases hw
  | bid | lapse | finish | release | join => cases hp

omit ht in
/-- R94, R101: the outcome of an own BID. -/
theorem State.Lawful.toldKept_bid (hp : q.place = .bid) :
    (k.toldKept q).origin = s.origin ∧ (k.toldKept q).notices = s.notices
      ∧ withoutPlace (k.toldKept q).queue .bid = withoutPlace s.keptQueue .bid
      ∧ (s.station = .leaving → framePlaced (k.toldKept q).queue .bid = none)
      ∧ (s.station = .active → (k.toldKept q).BidPlaceFollows) := by
  have hqueue : k.queue = s.keptQueue := by rw [hk]
  have hstation : k.station = s.station := by rw [hk]
  have hplaces : (k.queue.map fun g => g.frame.place).Nodup := by
    rw [hqueue, State.keptQueue_places]
    exact hlaw.lawUpTo.blocks.queue.1
  obtain ⟨id, priority, attempt, rfl⟩ := Queued.eq_bid_of_place hp
  have htold : k.toldKept (.bid id priority attempt) = if k.station = .leaving then k.removeFrame .bid else k.remakeBid := rfl
  rw [htold, hstation]
  split
  · rename_i hs
    rw [State.removeFrame_kept hqueue]
    exact ⟨by rw [hk], by rw [hk], withoutPlace_twice _ _, fun _ => framePlaced_withoutPlace_self _ _,
      fun ha => by simp [ha] at hs⟩
  · rename_i hs
    refine ⟨by rw [State.remakeBid_origin, hk], by rw [State.remakeBid_notices, hk], ?_, fun hl => absurd hl hs, fun ha => ?_⟩
    · rw [State.withoutPlace_remakeBid, hqueue]
    · exact State.bidPlaceFollows_remakeBid (hstation.trans ha) hplaces fun g hg _ => State.keptQueue_off g (hqueue ▸ hg)

omit ht in
/-- R94, R17: the outcome of an own LAPSE. -/
theorem State.Lawful.toldKept_lapse (hp : q.place = .lapse) :
    (k.toldKept q).origin = s.origin ∧ (k.toldKept q).notices = s.notices
      ∧ withoutPlace (k.toldKept q).queue .lapse = withoutPlace s.keptQueue .lapse
      ∧ (s.station = .leaving → framePlaced (k.toldKept q).queue .lapse = none)
      ∧ (s.station = .active →
          (framePlaced (k.toldKept q).queue .lapse = none ↔ ∀ e ∈ s.table, e.claim.any Claim.expired = false)
          ∧ ∀ g ∈ (k.toldKept q).queue, g.frame.place = .lapse →
              ∃ e ∈ s.table, s.OldestExpired e
                ∧ (g.frame = .lapse e.id e.priority e.attempt ∨ (g.frame = q ∧ q.lapses e.id = true))) := by
  have hqueue : k.queue = s.keptQueue := by rw [hk]
  have htable : k.table = s.table := by rw [hk]
  have hstation : k.station = s.station := by rw [hk]
  have hplaces : (k.queue.map fun g => g.frame.place).Nodup := by
    rw [hqueue, State.keptQueue_places]
    exact hlaw.lawUpTo.blocks.queue.1
  have hown := hlaw.framePlaced_own hq
  rw [hp] at hown
  obtain ⟨id, priority, attempt, rfl⟩ := Queued.eq_lapse_of_place hp
  have htold : k.toldKept (.lapse id priority attempt)
      = if k.station = .leaving then k.removeFrame .lapse else k.remakeLapse := rfl
  rw [htold, hstation]
  split
  · rename_i hs
    rw [State.removeFrame_kept hqueue]
    exact ⟨by rw [hk], by rw [hk], withoutPlace_twice _ _, fun _ => framePlaced_withoutPlace_self _ _,
      fun ha => by simp [ha] at hs⟩
  · rename_i hs
    refine ⟨by rw [State.remakeLapse_origin, hk], by rw [State.remakeLapse_notices, hk], ?_, fun hl => absurd hl hs,
      fun ha => ?_⟩
    · rw [State.withoutPlace_remakeLapse, hqueue]
    · have hremade := State.remakeLapse_remade (s := k) (hstation.trans ha) fun g hg _ => State.keptQueue_off g (hqueue ▸ hg)
      have hnone : k.lapseWanted = none ↔ ∀ e ∈ s.table, e.claim.any Claim.expired = false := by
        rw [State.lapseWanted_none, htable]
      refine ⟨⟨fun hempty => hnone.mp (by_contra fun hne => ?_), fun hall => ?_⟩, fun g hg hgp => ?_⟩
      · obtain ⟨f, hf⟩ := Option.ne_none_iff_exists'.mp hne
        obtain ⟨g, hg, -⟩ := (hf ▸ hremade).of_some
        simp [hg] at hempty
      · exact (hnone.mpr hall ▸ hremade).of_none
      · obtain ⟨e, he, hframe⟩ := State.lapseWanted_some (hremade.mem hplaces hg hgp)
        obtain ⟨hmem, hold⟩ := State.lapseChoice_some.mp he
        rw [State.OldestExpired, htable] at hold
        refine ⟨e, htable ▸ hmem, hold, hframe.imp_right fun ⟨x, hx, hgx, hlapses⟩ => ?_⟩
        rw [hqueue, hown] at hx
        obtain rfl := Option.some_inj.mp hx
        exact ⟨hgx, hlapses⟩

/-- R91, R92: what the outcome leaves of the queue, the Origin List and the notices. -/
theorem State.Lawful.keepsQueued_toldKept : s.keepsQueued (k.toldKept q) q := by
  have hqueue : k.queue = s.keptQueue := by rw [hk]
  have horigin : k.origin = s.origin := by rw [hk]
  have hnotices : k.notices = s.notices := by rw [hk]
  have hothers : ∀ p : Place, (s.keptQueue.filter fun g => g.frame.place ≠ p) = withoutPlace s.keptQueue p := fun p =>
    (withoutPlace_eq_filter _ _).symm
  have hsame : k.toldKept q = k →
      (k.toldKept q).queue = s.keptQueue ∧ (k.toldKept q).origin = s.origin ∧ (k.toldKept q).notices = s.notices := by
    intro h
    rw [h]
    exact ⟨hqueue, horigin, hnotices⟩
  refine ⟨fun h => hsame ?_, fun id r hp hw hr hserial => ?_, fun hp => ?_, fun hp => ?_⟩
  · cases q with
    | finish | release | withdraw | join => rfl
    | raise | restate | bid | lapse => simp [Queued.place, Queued.isWithdraw] at h
  · obtain ⟨hkept, hclosed, hbegun⟩ := hlaw.toldKept_identity ht hq hk hp hw hr hserial
    refine ⟨fun h => hsame (hkept h), fun hst hpend => ?_, fun hst => ?_⟩
    · rw [hclosed hst hpend, ← horigin, ← hnotices]
      exact ⟨(hothers _).symm, rfl, rfl⟩
    · obtain ⟨e, he, hid, htold⟩ := hbegun hst
      rw [htold]
      exact ⟨horigin, hnotices, e, he, hid, congrArg (· ++ _) (hothers _).symm⟩
  · have hbid := hlaw.toldKept_bid hq hk hp
    rw [withoutPlace_eq_filter, withoutPlace_eq_filter] at hbid
    exact hbid
  · have hlapse := hlaw.toldKept_lapse hq hk hp
    rw [withoutPlace_eq_filter, withoutPlace_eq_filter] at hlapse
    exact hlapse

end

end Sys2Proof.Machine
end

section
/-! SUPPORT. The ends of an own frame that is not taken: CORRUPTED, LOST, and at a stuck Line (R91, R92, R72, R74, R154). -/

namespace Sys2Proof.Machine

/-- R91, R92: the state in which the poster of the frame on the Line is told that its frame stays. -/
def State.keptAs (s : State) (l : Liu) : State := State.keepFrame { s with liu := l }

theorem State.keptAs_eq (s : State) (l : Liu) :
    s.keptAs l = { s with liu := (s.keptAs l).liu, image := none, queue := s.keptQueue } := rfl

theorem State.muteFailures_of_lt {s : State} (h : s.liu.failures < Config.failureLimit) : s.muteFailures = s :=
  if_neg fun hh => absurd hh.2 h.ne

/-- R154, R138: entry to MUTE at the eighth failure. -/
theorem State.muteFailures_eq {s : State} (ht : s.takesPosts = true) (h : s.liu.failures = Config.failureLimit)
    (hn : (s.origin.map OriginRecord.serial).Nodup) :
    s.muteFailures =
      { s with
        ctl := { s.ctl with state := .mute, muteCause := .failures, joinStage := none, draining := false }
        queue := [], image := none
        origin := s.origin.map fun r =>
          if r.state = .queued then { r with state := .closed .refused, withdrawPending := false } else r
        notices := (s.raiseCause .muted).notices
          ++ (s.origin.filter fun r => r.state = .queued).map fun r => .refused (s.ownId r.serial) .muted } := by
  have hmuted : s.muteFailures = ((s.toMute .failures).raiseCause .muted).mutePurge := if_pos ⟨ht, h⟩
  have hraised : ((s.toMute .failures).raiseCause .muted).notices = (s.raiseCause .muted).notices :=
    State.raiseCause_notices_congr (by rfl) _
  rw [hmuted, State.mutePurge_eq (by simpa [State.toMute] using hn), State.raiseCause_eq, hraised]
  rfl

section
variable {s : State} {q : Queued} {f : Frame} (hlaw : s.Lawful) (hs : s.sends q f)
include hlaw

/-- R72: a station that takes posts has fewer than eight failures. -/
theorem State.Lawful.failures_lt (ht : s.takesPosts = true) : s.liu.failures < 8 := by
  obtain ⟨-, -, ⟨hle, hmute, -⟩, -⟩ := hlaw
  refine lt_of_le_of_ne hle fun he => ?_
  have hstation := hmute he
  have hposts := State.takesPosts_iff.mp ht
  simp [hstation] at hposts

include hs

omit hlaw in
/-- R91, R92: the outcome is reported, and the frame stays. -/
theorem State.reportOutcome_kept {o : FrameOutcome} (ho : o = .corrupted ∨ o = .lost) (l : Liu) (accept : Level) :
    State.reportOutcome { s with liu := l } o accept = (s.keptAs l).toldKept q := by
  have hline : State.frameOnLine { s with liu := l } = some { frame := q, onLine := true } := hs.2.2.2
  unfold State.reportOutcome
  rw [hline]
  rcases ho with rfl | rfl <;> rfl

omit hlaw in
/-- R91, R92, R72: the end of an own frame whose outcome keeps it queued. -/
theorem State.ownEnds_kept {o : FrameOutcome} (ho : o = .corrupted ∨ o = .lost) (l : Liu) (accept : Level) :
    State.ownEnds { s with liu := l } o accept = (((s.keptAs (l.outcome o)).toldKept q).muteFailures).testDrain := by
  have hwait : ¬ s.ctl.restartWaiting = true := by simp [hs.2.1]
  have halone : (l.outcome o).alone = l.alone := by rcases ho with rfl | rfl <;> rfl
  unfold State.ownEnds
  dsimp only
  rw [if_neg hwait, State.reportOutcome_kept hs ho, State.tellAlone, if_pos]
  rw [State.toldKept_liu]
  exact halone

/-- What a frame of this station that stays queued leaves unchanged, and what it makes of the queue. -/
theorem State.Lawful.toldKept_keeps (l : Liu) :
    s.keptByOwn ((s.keptAs l).toldKept q) ∧ ((s.keptAs l).toldKept q).image = none
      ∧ ((s.keptAs l).toldKept q).table = s.table ∧ ((s.keptAs l).toldKept q).held = s.held
      ∧ ((s.keptAs l).toldKept q).ctl = s.ctl ∧ ((s.keptAs l).toldKept q).liu = l
      ∧ s.keepsQueued ((s.keptAs l).toldKept q) q := by
  obtain ⟨-, -, -, -, hmem, ht⟩ := hlaw.sends_frame hs
  refine ⟨?_, ?_, ?_, ?_, ?_, ?_, hlaw.keepsQueued_toldKept ht hmem (s.keptAs_eq l)⟩
  · simp only [State.keptByOwn, State.toldKept_pending, State.toldKept_inReset, State.toldKept_divider,
      State.toldKept_config, State.toldKept_serialCounter, State.toldKept_port]
    exact ⟨rfl, rfl, rfl, rfl, rfl, rfl⟩
  · rw [State.toldKept_image]; rfl
  · rw [State.toldKept_table]; rfl
  · rw [State.toldKept_held]; rfl
  · rw [State.toldKept_ctl]; rfl
  · rw [State.toldKept_liu]; rfl

/-- R154: the eighth failure brings the station into MUTE. -/
theorem State.Lawful.muteFailures_told {u : State} (hctl : u.ctl = s.ctl) (hconfig : u.config = s.config)
    (himage : u.image = none) (hn : (u.origin.map OriginRecord.serial).Nodup) (hfail : u.liu.failures = 8) :
    u.muteFailures.testDrain =
      { u with
        ctl := { s.ctl with state := .mute, muteCause := .failures, joinStage := none, draining := false }
        queue := []
        origin := u.origin.map fun r =>
          if r.state = .queued then { r with state := .closed .refused, withdrawPending := false } else r
        notices := (u.raiseCause .muted).notices
          ++ (u.origin.filter fun r => r.state = .queued).map fun r => .refused (s.ownId r.serial) .muted } := by
  obtain ⟨-, -, -, -, -, ht⟩ := hlaw.sends_frame hs
  have hposts : u.takesPosts = true := (State.takesPosts_congr (by rw [hctl])).trans ht
  have hid : u.ownId = s.ownId := by
    funext n
    simp only [State.ownId, State.address, hconfig]
  rw [State.muteFailures_eq hposts hfail hn, hctl, hid, State.testDrain_of_not_leaving (by simp [State.station])]
  rw [State.mk.injEq]
  simp [himage]

end

/-- The Origin List keeps its serials through the outcome. -/
theorem State.Lawful.toldKept_origin_nodup {s : State} (hlaw : s.Lawful) {q : Queued} (l : Liu) :
    (((s.keptAs l).toldKept q).origin.map OriginRecord.serial).Nodup :=
  ((State.keeps_toldKept (s.keptAs l) q).toKeepsBlocks.origin hlaw.lawUpTo.blocks.origin).2

/-- R63: the LIU once arbitration is lost. -/
def Liu.beaten (l : Liu) : Liu := { l.sample false with phase := .receiving, txSent := 0 }

/-- Settles O45. -/
theorem lostFrameStaysQueued : Obligations.LostFrameStaysQueued := by
  unfold Obligations.LostFrameStaysQueued
  intro s q f hlaw hs hphase
  obtain ⟨img, himage, -, -, -, ht⟩ := hlaw.sends_frame hs
  have hexec : exec .arbitrationLost s = .next (State.ownEnds { s with liu := s.liu.beaten } .lost .recessive) :=
    congrArg Host.Outcome.next (if_pos ⟨hphase, by simp [himage]⟩)
  obtain ⟨hkept, himg, htable, hheld, hctl, hliu, hqueued⟩ := hlaw.toldKept_keeps hs s.liu.beaten
  have hfail : s.liu.beaten.failures = s.liu.failures := Liu.sample_failures _ _
  refine ⟨_, ?_, hkept, himg, htable, hheld, hctl, ?_, ?_, ?_, hqueued⟩
  · rw [hexec, State.ownEnds_kept hs (.inr rfl), State.muteFailures_of_lt]
    · rfl
    · rw [State.toldKept_liu]
      exact hfail.trans_lt (hlaw.failures_lt ht)
  · rw [hliu]
    rfl
  · rw [hliu, hfail]
  · rw [hliu]
    exact Liu.sample_alone _ _

/-- R70: only a RAISE or a RESTATE with ACCEPT dominant ends REFUSED. -/
theorem objectedOutcome_of {b : Body} {accept : Level}
    (h : accept = .recessive
      ∨ ((∀ cls limit deadline, b ≠ .raise cls limit deadline)
        ∧ ∀ cls limit deadline claimed station remaining, b ≠ .restate cls limit deadline claimed station remaining)) :
    objectedOutcome b accept = .corrupted := by
  cases accept with
  | recessive => rfl
  | dominant =>
    obtain ⟨hraise, hrestate⟩ := h.resolve_left (by simp)
    cases b with
    | raise cls limit deadline => exact absurd rfl (hraise cls limit deadline)
    | restate cls limit deadline claimed station remaining =>
      exact absurd rfl (hrestate cls limit deadline claimed station remaining)
    | bid | finish | release | lapse | withdraw | join => rfl

/-- R91: the ends of an own frame that are CORRUPTED leave the LIU in SPACING. -/
theorem State.frameCorrupted_of {s : State} {q : Queued} {f : Frame} (hs : s.sends q f) {ending : Ending}
    (h : ∀ accept, ending = .objected accept → accept = .recessive
        ∨ ((∀ cls limit deadline, f.body ≠ .raise cls limit deadline)
          ∧ ∀ cls limit deadline claimed station remaining,
              f.body ≠ .restate cls limit deadline claimed station remaining)) :
    ∃ (l : Liu) (accept : Level), exec (.frameCorrupted ending) s = .next (State.ownEnds { s with liu := l } .corrupted accept)
      ∧ l.failures = s.liu.failures ∧ l.alone = s.liu.alone ∧ l.phase = .spacing := by
  obtain ⟨img, himage, rfl⟩ := Option.map_eq_some_iff.mp hs.2.2.1
  cases ending with
  | objected accept =>
    refine ⟨s.liu.endFrame (img.frame.wireBits ++ [accept.bit, false]) false
      (storageObjects s.address true s.table img.frame) false, accept, congrArg Host.Outcome.next ?_, ?_⟩
    · simp only [himage, State.ownObjected, objectedOutcome_of (h accept rfl)]
    · simp [Liu.endFrame]
  | objectionRun =>
    refine ⟨s.liu.endFrame runBits false false true, .recessive, congrArg Host.Outcome.next ?_, ?_⟩
    · simp only [himage]
      rfl
    · simp [Liu.endFrame]

/-- Settles O44. -/
theorem eighthCorruptedFrameMutes : Obligations.EighthCorruptedFrameMutes := by
  unfold Obligations.EighthCorruptedFrameMutes
  intro s q f ending hlaw hs hending
  obtain ⟨-, -, -, -, -, ht⟩ := hlaw.sends_frame hs
  have hlt := hlaw.failures_lt ht
  obtain ⟨l, accept, hexec, hfail, halone, hphase⟩ := State.frameCorrupted_of hs hending
  obtain ⟨hkept, himg, htable, hheld, hctl, hliu, hqueued⟩ := hlaw.toldKept_keeps hs (l.outcome .corrupted)
  have hcount : ((s.keptAs (l.outcome .corrupted)).toldKept q).liu.failures = s.liu.failures + 1 := by
    rw [hliu]
    simp only [Liu.outcome, Config.failureLimit, hfail]
    omega
  refine ⟨_, hkept, himg, htable, hheld, hctl, hcount, ?_, ?_, hqueued, fun hf => ?_, fun hf => ?_⟩
  · rw [hliu]
    exact halone
  · rw [hliu]
    exact hphase
  · rw [hexec, State.ownEnds_kept hs (.inl rfl), State.muteFailures_of_lt]
    rw [hcount]
    exact Nat.succ_lt_succ hf
  · rw [hexec, State.ownEnds_kept hs (.inl rfl), hlaw.muteFailures_told hs hctl hkept.2.2.2.1 himg
      (hlaw.toldKept_origin_nodup _) (by rw [hcount, hf])]

end Sys2Proof.Machine
end

section
/-! SUPPORT. A stuck Line (R74, R75), with no own frame on it and with one. -/

namespace Sys2Proof.Machine

section
variable {s : State} (hlaw : s.Lawful) (hl : s.liuHeld = false) (hw : s.ctl.restartWaiting = false)
  (hp : s.liu.phase ≠ .recovering)

theorem State.stuckLine_of_recovering {s : State} (h : s.liu.phase = .recovering) : s.stuckLine = s :=
  if_pos (.inr h)

include hl hw hp

/-- R74: with no restart waiting, LINE_FAULT follows the end of the own frame. -/
theorem State.stuckLine_eq {u : State} (hu : State.stuckFrame { s with liu := s.liu.stick } = u)
    (hctl : u.ctl = s.ctl) :
    s.stuckLine = (u.raiseCause .lineFault).muteFailures.testDrain := by
  rw [State.stuckLine, if_neg (by simp [hl, hp])]
  dsimp only
  rw [hu, if_neg (by simp [hctl, hw])]

/-- R74: a stuck Line with no own frame on it. -/
theorem State.Lawful.stuckLine_of_none (hlaw : s.Lawful) (himage : s.image = none) :
    s.stuckLine = (State.raiseCause { s with liu := s.liu.stick } .lineFault).testDrain := by
  have hu : State.stuckFrame { s with liu := s.liu.stick } = { s with liu := s.liu.stick } :=
    if_neg (by simp [himage])
  rw [State.stuckLine_eq hl hw hp hu rfl]
  by_cases ht : s.takesPosts = true
  · rw [State.muteFailures_of_lt]
    simpa [Config.failureLimit] using hlaw.failures_lt ht
  · have hskip : (State.raiseCause { s with liu := s.liu.stick } .lineFault).muteFailures
        = State.raiseCause { s with liu := s.liu.stick } .lineFault := by
      refine if_neg fun hh => ht ?_
      rw [← hh.1]
      exact State.takesPosts_congr (by simp)
    rw [hskip]

/-- R74, R91: a stuck Line ends the own frame CORRUPTED. -/
theorem State.stuckLine_of_sends {q : Queued} {f : Frame} (hs : s.sends q f) :
    s.stuckLine = ((((s.keptAs (s.liu.stick.outcome .corrupted)).toldKept q).raiseCause .lineFault).muteFailures).testDrain := by
  obtain ⟨img, himage, -⟩ := Option.map_eq_some_iff.mp hs.2.2.1
  have hu : State.stuckFrame { s with liu := s.liu.stick } = (s.keptAs (s.liu.stick.outcome .corrupted)).toldKept q := by
    rw [State.stuckFrame, if_pos (by simp [himage])]
    dsimp only
    rw [if_neg (by simp [hw])]
    exact State.reportOutcome_kept hs (.inl rfl) _ .recessive
  refine State.stuckLine_eq hl hw hp hu ?_
  rw [State.toldKept_ctl]
  rfl

end

/-- R85: the frame on the Line is one of the queue. -/
theorem State.Lawful.sends_of_image {s : State} (hlaw : s.Lawful) (hl : s.liuHeld = false)
    (hw : s.ctl.restartWaiting = false) (himage : s.image ≠ none) : ∃ (q : Queued) (f : Frame), s.sends q f := by
  obtain ⟨img, himg⟩ := Option.ne_none_iff_exists'.mp himage
  obtain ⟨⟨q, onLine⟩, hline, -⟩ := hlaw.lawUpTo.sending himg
  have hon : onLine = true := (State.frameOnLine_some hline).2
  subst hon
  exact ⟨q, img.frame, hl, hw, by simp [himg], hline⟩

theorem State.raiseCause_undone (s : State) (c : StationCause) : { s.raiseCause c with notices := s.notices } = s := by
  rw [State.raiseCause_eq]

/-- Settles O46. -/
theorem stuckLineIsReportedOnce : Obligations.StuckLineIsReportedOnce := by
  unfold Obligations.StuckLineIsReportedOnce
  intro s hlaw hl hw
  refine ⟨fun hp => congrArg Host.Outcome.next (State.stuckLine_of_recovering hp), fun hp => ?_⟩
  have hexec : exec .stuckLine s = .next s.stuckLine := rfl
  by_cases himage : s.image = none
  · have hnever : ∀ (q : Queued) (f : Frame), ¬ s.sends q f := fun q f hs => by
      have hsome := hs.2.2.1
      rw [himage] at hsome
      cases hsome
    refine ⟨State.raiseCause { s with liu := s.liu.stick } .lineFault, s.notices, by simp [State.keptByOwn],
      by simpa using himage, by simp, by simp, by simp, by simp, by simp [Liu.stick], by simp [Liu.stick], by simp,
      by simp [himage], State.raiseCause_notices_congr (by rfl) _, fun _ => by simp, fun h => absurd himage h,
      fun q f hs => absurd hs (hnever q f), fun _ => ?_, fun h => absurd himage h⟩
    rw [hexec, State.Lawful.stuckLine_of_none hl hw hp hlaw himage]
  · obtain ⟨q, f, hs⟩ := hlaw.sends_of_image hl hw himage
    obtain ⟨-, -, -, -, -, ht⟩ := hlaw.sends_frame hs
    have hlt := hlaw.failures_lt ht
    obtain ⟨hkept, himg, htable, hheld, hctl, hliu, hqueued⟩ := hlaw.toldKept_keeps hs (s.liu.stick.outcome .corrupted)
    have hn := hlaw.toldKept_origin_nodup (q := q) (s.liu.stick.outcome .corrupted)
    have hstuck := State.stuckLine_of_sends hl hw hp hs
    generalize (s.keptAs (s.liu.stick.outcome .corrupted)).toldKept q = k at hkept himg htable hheld hctl hliu hqueued hn hstuck
    have hcount : k.liu.failures = s.liu.failures + 1 := by
      rw [hliu]
      simp only [Liu.outcome, Liu.stick, Config.failureLimit]
      omega
    have hfield : k.liu.phase = .recovering ∧ k.liu.recessive = 0 ∧ k.liu.idle = 0 ∧ k.liu.alone = s.liu.alone := by
      rw [hliu]
      exact ⟨rfl, rfl, rfl, rfl⟩
    obtain ⟨hphase, hrecessive, hidle, halone⟩ := hfield
    refine ⟨k.raiseCause .lineFault, k.notices, by simpa [State.keptByOwn] using hkept, by simpa using himg,
      by simpa using htable, by simpa using hheld, by simpa using hctl, by simpa using hphase, by simpa using hrecessive,
      by simpa using hidle, by simpa using halone, ?_, State.raiseCause_notices_congr (by rfl) _, fun h => absurd h himage,
      fun _ => ⟨q, f, hs⟩, fun q' f' hs' => ?_, fun h => ?_, fun _ hf => ?_⟩
    · rw [if_neg himage, State.raiseCause_liu, hcount]
    · have hsame := Option.some_inj.mp (hs'.2.2.2.symm.trans hs.2.2.2)
      obtain rfl := congrArg QueuedFrame.frame hsame
      rw [State.raiseCause_undone]
      exact hqueued
    · rw [hexec, hstuck, State.muteFailures_of_lt]
      rw [State.raiseCause_liu, hcount]
      exact Nat.succ_lt_succ (h.resolve_left himage)
    · rw [hexec, hstuck, hlaw.muteFailures_told hs (by simpa using hctl) (by simpa using hkept.2.2.2.1) (by simpa using himg)
        (by simpa using hn) (by rw [State.raiseCause_liu, hcount]; omega)]

end Sys2Proof.Machine
end

section
/-! SUPPORT. This station's own RAISE or RESTATE is REFUSED (R90, R129, R131, R132). -/

namespace Sys2Proof.Machine

/-- R149: PEERED is raised when the Alone flag falls. -/
theorem State.tellAlone_notices_of_peered {s u : State} (h : u.liu.alone = false) :
    (u.tellAlone s.liu.alone).notices = s.peeredIf u.notices := by
  unfold State.tellAlone State.peeredIf
  rw [h]
  cases hs : s.liu.alone with
  | false => simp
  | true =>
    have hraised := State.raiseCause_notices_congr (t := u) (s := { s with notices := u.notices }) rfl .peered
    simpa only [Bool.false_eq_true, if_false, if_true] using hraised

/-- R132: a WITHDRAW is posted into an empty place. -/
theorem State.framePlaced_postWithdraw {s : State} {id : Identity} {e : Entry} (ht : s.takesPosts = true)
    (ho : id.origin = s.address) (he : findEntry s.table id = some e) (hempty : framePlaced s.queue (.identity id) = none) :
    framePlaced (s.postWithdraw id.serial).queue (.identity id)
      = some { frame := .withdraw id e.priority, onLine := false } := by
  have hid : s.ownId id.serial = id := State.ownId_of_origin ho
  rw [State.postWithdraw, hid, he, State.post_of_empty ht (by exact hempty)]
  exact framePlaced_append_self (by exact hempty)

section
variable {s : State} {q : Queued} {f : Frame}

/-- R70, Table 3-7: the frames of an identity place but the WITHDRAW can be refused. -/
theorem Queued.objectedOutcome_of_identity {me : Address} (h : q.sentAs me f = true) {id : Identity}
    (hp : q.place = .identity id) (hw : q.isWithdraw = false) : objectedOutcome f.body .dominant = .refused := by
  cases q with
  | raise => cases hb : f.body <;> simp_all [Queued.sentAs, Queued.keptIn, objectedOutcome]
  | restate => cases hb : f.body <;> simp_all [Queued.sentAs, Queued.keptIn, objectedOutcome]
  | withdraw => cases hw
  | bid | lapse | finish | release | join => cases hp

/-- R90: the state in which the poster of a refused frame is told, the frame having left its place. -/
def State.droppedAs (s : State) (l : Liu) : State := State.dropFrame { s with liu := l }

/-- R90: the end of an own frame that is refused. -/
theorem State.ownEnds_refused (hs : s.sends q f) (l : Liu) (accept : Level) :
    State.ownEnds { s with liu := l } .refused accept
      = (((s.droppedAs (l.outcome .refused)).toldRefused q).tellAlone l.alone).testDrain := by
  have hwait : ¬ s.ctl.restartWaiting = true := by simp [hs.2.1]
  have htold : State.reportOutcome { s with liu := l.outcome .refused } .refused accept
      = (s.droppedAs (l.outcome .refused)).toldRefused q := by
    have hline : State.frameOnLine { s with liu := l.outcome .refused } = some { frame := q, onLine := true } := hs.2.2.2
    unfold State.reportOutcome
    rw [hline]
    rfl
  unfold State.ownEnds
  dsimp only
  rw [if_neg hwait, htold, State.muteFailures_of_lt]
  rw [State.tellAlone_liu, State.toldRefused_liu]
  exact Nat.zero_lt_succ 7

/-- R90: the own frame has left its place. -/
theorem State.Lawful.place_of_droppedAs (hlaw : s.Lawful) (hs : s.sends q f) (l : Liu) :
    framePlaced (s.droppedAs l).queue q.place = none :=
  framePlaced_none.mpr (hlaw.lawUpTo.blocks.queue.place_of_dropFrame hs.2.2.2)

/-- The record of a frame in an identity place, and what the frame is by its state. -/
theorem State.Lawful.record_of_own (hlaw : s.Lawful) (hs : s.sends q f) {id : Identity} {r : OriginRecord}
    (hp : q.place = .identity id) (hr : r ∈ s.origin) (hserial : r.serial = id.serial) :
    id.origin = s.address ∧ r.backs { frame := q, onLine := true } := by
  obtain ⟨-, -, -, -, hmem, -⟩ := hlaw.sends_frame hs
  obtain ⟨ho, x, hx, hxs, hb⟩ := (State.standsFor_identity (q := { frame := q, onLine := true }) hp).mp
    (hlaw.lawUpTo.standing hmem)
  obtain rfl := List.inj_on_of_nodup_map hlaw.origin_nodup hx hr (hxs.trans hserial.symm)
  exact ⟨ho, hb⟩

/-- The entry of a WITHDRAWING record. -/
theorem State.Lawful.entry_of_withdrawing (hlaw : s.Lawful) {id : Identity} {r : OriginRecord} (ho : id.origin = s.address)
    (hr : r ∈ s.origin) (hserial : r.serial = id.serial) (hst : r.state = .withdrawing) :
    ∃ e ∈ s.table, e.id = id ∧ findEntry s.table id = some e := by
  obtain ⟨e, he, hid⟩ := hlaw.lawUpTo.entry_of_inPool hr (by simp [OriginRecord.inPool, hst])
  have hown : e.id = id := hid.trans (by rw [hserial]; exact State.ownId_of_origin ho)
  exact ⟨e, he, hown, hown ▸ findEntry_of_mem hlaw.lawUpTo.blocks.table.2 he⟩

end

/-- Settles O43. -/
theorem ownFrameRefusedIsDropped : Obligations.OwnFrameRefusedIsDropped := by
  unfold Obligations.OwnFrameRefusedIsDropped
  intro s q f id r hlaw hs hp hw hr hserial
  obtain ⟨img, himage, rfl, hsent, -, ht⟩ := hlaw.sends_frame hs
  obtain ⟨ho, hbacks⟩ := hlaw.record_of_own hs hp hr hserial
  obtain ⟨l, hl, halone, hphase⟩ : ∃ l : Liu,
      exec .frameRefused s = .next (State.ownEnds { s with liu := l } .refused .dominant)
        ∧ l.alone = s.liu.alone ∧ l.phase = .spacing := by
    refine ⟨s.liu.endFrame (img.frame.wireBits ++ [Level.dominant.bit, false]) false
      (storageObjects s.address true s.table img.frame) false, congrArg Host.Outcome.next ?_, ?_, ?_⟩
    · simp only [hs.1, himage, Bool.false_eq_true, if_false, State.ownObjected, Queued.objectedOutcome_of_identity hsent hp hw]
    · simp [Liu.endFrame]
    · simp [Liu.endFrame]
  generalize hd : s.droppedAs (l.outcome .refused) = d
  have hempty : framePlaced d.queue (.identity id) = none := by
    rw [← hd, ← hp]
    exact hlaw.place_of_droppedAs hs _
  have hrecord : d.originRecord id.serial = some r := by
    rw [← hserial, ← hd]
    exact State.originRecord_of_mem (s := s.droppedAs _) hlaw.origin_nodup hr
  have hliu : (d.toldRefused q).liu = l.outcome .refused := by rw [State.toldRefused_liu, ← hd]; rfl
  have hnotices : ((d.toldRefused q).tellAlone l.alone).notices = s.peeredIf (d.toldRefused q).notices := by
    rw [halone]
    exact State.tellAlone_notices_of_peered (by rw [hliu]; rfl)
  have hkept : s.keptByOwn ((d.toldRefused q).tellAlone l.alone)
      ∧ ((d.toldRefused q).tellAlone l.alone).image = none
      ∧ ((d.toldRefused q).tellAlone l.alone).table = s.table
      ∧ ((d.toldRefused q).tellAlone l.alone).held = s.held
      ∧ ((d.toldRefused q).tellAlone l.alone).ctl = s.ctl := by
    simp only [State.keptByOwn, State.tellAlone_pending, State.tellAlone_inReset, State.tellAlone_divider,
      State.tellAlone_config, State.tellAlone_serialCounter, State.tellAlone_port, State.tellAlone_image,
      State.tellAlone_table, State.tellAlone_held, State.tellAlone_ctl, State.toldRefused_pending,
      State.toldRefused_inReset, State.toldRefused_divider, State.toldRefused_config, State.toldRefused_serialCounter,
      State.toldRefused_port, State.toldRefused_image, State.toldRefused_table, State.toldRefused_held,
      State.toldRefused_ctl, ← hd]
    exact ⟨⟨rfl, rfl, rfl, rfl, rfl, rfl⟩, rfl, rfl, rfl, rfl⟩
  obtain ⟨hown, himg, htable, hheld, hctl⟩ := hkept
  refine ⟨(d.toldRefused q).tellAlone l.alone, ?_, hown, himg, htable, hheld, hctl, ?_, ?_, ?_, ?_⟩
  · rw [hl, State.ownEnds_refused hs, hd]
  · rw [State.tellAlone_liu, hliu]; rfl
  · rw [State.tellAlone_liu, hliu]; rfl
  · rw [State.tellAlone_liu, hliu]; exact hphase
  rw [State.tellAlone_origin, State.tellAlone_queue, hnotices]
  have horigin : d.origin = s.origin := by rw [← hd]; rfl
  have hns : d.notices = s.notices := by rw [← hd]; rfl
  cases q with
  | raise i cls priority limit deadline payload =>
    obtain rfl := Place.identity.inj hp
    have hqueued : r.state = .queued := hbacks.1
    have htold : d.toldRefused (.raise i cls priority limit deadline payload)
        = if r.withdrawPending = true then d.closeWithdrawn i
          else d.closeOrigin i.serial .refused (.refused i .capacity) := by
      simp only [State.toldRefused, hrecord]
    refine ⟨fun _ => ?_, fun h => ?_, fun h => ?_, fun h => ?_⟩
    · rw [htold]
      by_cases hpend : r.withdrawPending = true
      · rw [if_pos hpend, if_pos hpend, if_pos hpend, ← horigin, ← hns]
        refine ⟨rfl, rfl, framePlaced_none.mpr fun g hg => framePlaced_none.mp hempty g ?_⟩
        exact (State.mem_removeFrame.mp hg).1
      · rw [if_neg hpend, if_neg hpend, if_neg hpend, ← horigin, ← hns]
        exact ⟨rfl, rfl, hempty⟩
    · simp [hqueued] at h
    · simp [hqueued] at h
    · simp [hqueued] at h
  | restate i =>
    obtain rfl := Place.identity.inj hp
    have htold : d.toldRefused (.restate i) = if r.state = .withdrawing then d.postWithdraw i.serial else d := by
      simp only [State.toldRefused, hrecord]
    have hsame : (d.toldRefused (.restate i)).origin = s.origin ∧ (d.toldRefused (.restate i)).notices = s.notices := by
      rw [htold, ← horigin, ← hns]
      split
      · exact ⟨State.postWithdraw_origin _ _, State.postWithdraw_notices _ _⟩
      · exact ⟨rfl, rfl⟩
    have hst : r.state = .live ∨ (r.state = .withdrawing ∧ true = true) := hbacks
    refine ⟨fun h => ?_, fun _ => ⟨hsame.1, congrArg s.peeredIf hsame.2⟩, fun h => ?_, fun h => ?_⟩
    · simp [h] at hst
    · rw [htold, if_neg (by simp [h])]
      exact hempty
    · obtain ⟨e, he, hid, hfind⟩ := hlaw.entry_of_withdrawing ho hr hserial h
      refine ⟨e, he, hid, ?_⟩
      rw [htold, if_pos h]
      refine State.framePlaced_postWithdraw ?_ ?_ ?_ hempty
      · rw [← hd]; exact ht
      · rw [← hd]; exact ho
      · rw [← hd]; exact hfind
  | withdraw i priority => cases hw
  | bid | lapse | finish | release | join => cases hp

end Sys2Proof.Machine
end

section
/-! SUPPORT. This station's own frame is taken (R71, R89): what that leaves unchanged, and what the handling of R19 leaves
for the frame's poster to be told. -/

namespace Sys2Proof.Machine

/-! ### The frame on the Line through the handling (R87) -/

/-- An operation that keeps the law of the queue, and passes by the frame on the Line. -/
def State.KeepsLine (s t : State) : Prop := s.QueueLaw → t.QueueLaw ∧ ∀ g ∈ s.queue, g.onLine = true → g ∈ t.queue

theorem State.KeepsLine.trans {s t u : State} (h : s.KeepsLine t) (k : t.KeepsLine u) : s.KeepsLine u := fun hq => by
  obtain ⟨ht, hst⟩ := h hq
  obtain ⟨hu, htu⟩ := k ht
  exact ⟨hu, fun g hg hon => htu g (hst g hg hon) hon⟩

theorem State.Keeps.keepsLine {s t : State} (h : s.Keeps t) (hline : s.QueueLaw → ∀ g ∈ s.queue, g.onLine = true → g ∈ t.queue) :
    s.KeepsLine t := fun hq => ⟨h.toKeepsBlocks.queue hq, hline hq⟩

theorem State.Keeps.keepsLine_of_queue {s t : State} (h : s.Keeps t) (hq : t.queue = s.queue) : s.KeepsLine t :=
  h.keepsLine fun _ _ hg _ => hq ▸ hg

theorem State.KeepsLine.foldl {α : Type} {op : State → α → State} (h : ∀ (s : State) (a : α), s.KeepsLine (op s a)) :
    ∀ (l : List α) (s : State), s.KeepsLine (l.foldl op s)
  | [], _ => fun hq => ⟨hq, fun _ hg _ => hg⟩
  | a :: l, s => (h s a).trans (State.KeepsLine.foldl h l (op s a))

theorem State.keepsLine_post (s : State) (f : Queued) : s.KeepsLine (s.post f) := by
  refine (s.keeps_post f).keepsLine fun hq g hg hon => ?_
  unfold State.post
  split
  · exact List.mem_append_left _ hg
  · rename_i h
    obtain ⟨-, x, hx, hoff, -⟩ := State.postAnswer_replaced h
    refine List.mem_append_left _ (mem_withoutPlace.mpr ⟨hg, fun hp => ?_⟩)
    rw [eq_of_framePlaced hq.1 hx hg hp, hoff] at hon
    cases hon
  · exact hg
  · exact hg
  · exact hg

theorem State.keepsLine_removeFrame (s : State) (p : Place) : s.KeepsLine (s.removeFrame p) :=
  (s.keeps_removeFrame p).keepsLine fun _ _ hg hon => State.mem_removeFrame.mpr ⟨hg, by simp [hon]⟩

theorem State.keepsLine_purge (s : State) : s.KeepsLine s.purge :=
  s.keeps_purge.keepsLine fun _ _ hg hon => State.mem_purge.mpr ⟨hg, .inl hon⟩

theorem State.keepsLine_refl (s : State) : s.KeepsLine s := fun hq => ⟨hq, fun _ hg _ => hg⟩

theorem State.keepsLine_remakeBid (s : State) : s.KeepsLine s.remakeBid := by
  unfold State.remakeBid
  split
  · split
    · exact s.keepsLine_refl
    · exact s.keepsLine_post _
  · split
    · exact s.keepsLine_refl
    · split
      · exact s.keepsLine_removeFrame _
      · split
        · exact s.keepsLine_refl
        · exact s.keepsLine_post _

theorem State.keepsLine_remakeLapse (s : State) : s.KeepsLine s.remakeLapse := by
  unfold State.remakeLapse
  split
  · split
    · split
      · exact s.keepsLine_refl
      · exact s.keepsLine_post _
    · split
      · exact s.keepsLine_refl
      · split
        · exact s.keepsLine_removeFrame _
        · split
          · exact s.keepsLine_refl
          · exact s.keepsLine_post _
  · exact s.keepsLine_refl

theorem State.keepsLine_restatementDuty (s : State) (f : Frame) (b : Bool) : s.KeepsLine (s.restatementDuty f b) := by
  by_cases hb : ∃ fresh, f.body = .join fresh
  · obtain ⟨fresh, hb⟩ := hb
    rw [State.restatementDuty_of_join hb]
    split
    · refine State.KeepsLine.foldl (fun u r => ?_) s.origin s
      split
      · exact u.keepsLine_post _
      · exact u.keepsLine_refl
    · exact s.keepsLine_refl
  · rw [State.restatementDuty_of_other fun fresh hf => hb ⟨fresh, hf⟩]
    exact s.keepsLine_refl

/-- R133: the WITHDRAW that a removal takes back is not on the Line. -/
theorem State.keepsLine_reportOrigin (s : State) (id : Identity) (c : RemovalCause) : s.KeepsLine (s.reportOrigin id c) := by
  refine (s.keeps_reportOrigin id c).keepsLine fun _ g hg hon => ?_
  have hremoved : ∀ (o : FinalOutcome) (m : Notice), g ∈ (s.originRemoved id o m).queue := fun o m => by
    unfold State.originRemoved
    split
    · exact hg
    · split
      · exact List.mem_filter.mpr ⟨hg, by simp [hon]⟩
      · exact hg
  unfold State.reportOrigin
  split
  · cases c with
    | finished => exact hremoved _ _
    | abandoned => exact hremoved _ _
    | withdrawn => exact hremoved _ _
    | originRestarted => exact hg
  · exact hg

theorem State.keepsLine_createHeld (s : State) (id : Identity) (a : Attempt) : s.KeepsLine (s.createHeld id a) := by
  unfold State.createHeld
  dsimp only
  split
  · exact State.KeepsLine.trans ((s.keeps_held _).keepsLine_of_queue (by rfl)) (State.keepsLine_post _ _)
  · exact (s.keeps_held _).keepsLine_of_queue rfl

theorem State.keepsLine_revoke (s : State) (id : Identity) (c : RevokeCause) : s.KeepsLine (s.revoke id c) :=
  (s.keeps_revoke id c).keepsLine_of_queue (by simp)

theorem State.keepsLine_deliver (b : Bool) (f : Frame) (s : State) (r : Report) : s.KeepsLine (State.deliver b f s r) := by
  cases r with
  | removed id a c =>
    dsimp only [State.deliver]
    split
    · exact s.keepsLine_reportOrigin id c
    · exact (s.keepsLine_reportOrigin id c).trans (State.keepsLine_revoke _ _ _)
  | claimed id a n =>
    dsimp only [State.deliver]
    split
    · exact s.keepsLine_createHeld _ _
    · exact s.keepsLine_refl
  | reopened id c a n =>
    dsimp only [State.deliver]
    split
    · exact s.keepsLine_refl
    · exact s.keepsLine_revoke _ _
  | updated id c n => exact s.keepsLine_revoke _ _
  | inserted id c => exact s.keepsLine_refl
  | expired id a => exact (s.keeps_noticeDeadline id a).keepsLine_of_queue (by simp)

theorem State.keepsLine_handleTaken {s : State} {b : Bool} {f : Frame}
    (hstore : storageObjects s.address b s.table f = false) : s.KeepsLine (s.handleTaken b f) := by
  rw [State.handleTaken_eq]
  have htable : s.KeepsLine { s with table := (applyFrame s.address b s.table f).table } :=
    (s.keeps_table _ (tableLaw_applyFrame hstore)).keepsLine_of_queue rfl
  exact ((((htable.trans (State.KeepsLine.foldl (State.keepsLine_deliver b f) _ _)).trans
    (State.keepsLine_restatementDuty _ _ _)).trans (State.keepsLine_purge _)).trans
      (State.keepsLine_remakeLapse _)).trans (State.keepsLine_remakeBid _)

/-! ### The end of an own frame that is taken -/

/-- R89: the state in which the poster of a taken frame is told, the frame having left its place. -/
def State.ownDropped (s : State) (f : Frame) (accept : Level) : State :=
  ((s.endOwn f accept).handleTaken true f).dropFrame

theorem State.tellAlone_notices_filter (u : State) (b : Bool) :
    (u.tellAlone b).notices.filter (fun n => ¬ n.isStation) = u.notices.filter (fun n => ¬ n.isStation) := by
  have hadd : ∀ (c : StationCause) (n : Notice), decide (¬ (n.addCause c).isStation = true) = decide (¬ n.isStation = true) := by
    intro c n
    cases n <;> rfl
  have hstation : ∀ n : Notice, n.isStation = true → decide (¬ n.isStation = true) = false := fun n hn => by simp [hn]
  unfold State.tellAlone
  split
  · rfl
  · split
    · exact u.filter_raiseCause _ (hadd _) hstation
    · exact u.filter_raiseCause _ (hadd _) hstation

section
variable {s : State} {f : Frame} {accept : Level}

theorem State.ownDropped_table : (s.ownDropped f accept).table = (applyFrame s.address true s.table f).table :=
  State.handleTaken_table (s.endOwn f accept) true f

theorem State.ownDropped_held : (s.ownDropped f accept).held = ((s.endOwn f accept).reported true f).held :=
  State.handleTaken_held (s.endOwn f accept) f true

theorem State.ownDropped_origin : (s.ownDropped f accept).origin = ((s.endOwn f accept).reported true f).origin :=
  State.handleTaken_origin (s.endOwn f accept) f true

theorem State.ownDropped_notices : (s.ownDropped f accept).notices = ((s.endOwn f accept).reported true f).notices :=
  State.handleTaken_notices (s.endOwn f accept) f true

theorem State.ownDropped_ctl : (s.ownDropped f accept).ctl = s.ctl := State.handleTaken_ctl (s.endOwn f accept) true f

theorem State.ownDropped_address : (s.ownDropped f accept).address = s.address :=
  (State.dropFrame_address _).trans (State.handleTaken_address (s.endOwn f accept) true f)

theorem State.ownDropped_off : ∀ g ∈ (s.ownDropped f accept).queue, g.onLine = false := fun _ hg =>
  (State.mem_dropFrame.mp hg).2

/-- What a taken frame of this station leaves unchanged at itself, with the LIU at its end (R71, R73). -/
theorem State.keptByOwn_told (q : Queued) (b : Bool) :
    s.keptByOwn (((s.ownDropped f accept).toldTaken accept q).tellAlone b)
      ∧ (((s.ownDropped f accept).toldTaken accept q).tellAlone b).image = none
      ∧ (((s.ownDropped f accept).toldTaken accept q).tellAlone b).liu.failures = 0
      ∧ (((s.ownDropped f accept).toldTaken accept q).tellAlone b).liu.alone = decide (accept = .recessive)
      ∧ (((s.ownDropped f accept).toldTaken accept q).tellAlone b).liu.phase = .spacing := by
  have hliu : (((s.ownDropped f accept).toldTaken accept q).tellAlone b).liu = (s.endOwn f accept).liu := by
    rw [State.tellAlone_liu, State.toldTaken_liu]
    exact State.handleTaken_liu (s.endOwn f accept) true f
  rw [hliu]
  refine ⟨?_, ?_, rfl, rfl, ?_⟩
  · simp only [State.keptByOwn, State.tellAlone_pending, State.tellAlone_inReset, State.tellAlone_divider,
      State.tellAlone_config, State.tellAlone_serialCounter, State.tellAlone_port, State.toldTaken_pending,
      State.toldTaken_inReset, State.toldTaken_divider, State.toldTaken_config, State.toldTaken_serialCounter,
      State.toldTaken_port, State.ownDropped]
    simp [State.endOwn]
  · rw [State.tellAlone_image, State.toldTaken_image]
    rfl
  · simp [State.endOwn, Liu.frameTaken, Liu.endFrame]

variable {q : Queued} (hlaw : s.Lawful) (hs : s.sends q f) (hstores : s.stores f = true)
include hlaw hs hstores

theorem State.Lawful.ownHandled_queueLaw : ((s.endOwn f accept).handleTaken true f).QueueLaw
    ∧ ((s.endOwn f accept).handleTaken true f).frameOnLine = some { frame := q, onLine := true } := by
  rw [State.stores_eq (b := true) (.inl rfl), Bool.not_eq_true'] at hstores
  obtain ⟨img, himage, rfl, -, hmem, -⟩ := hlaw.sends_frame hs
  obtain ⟨hqueue, hline⟩ := State.keepsLine_handleTaken (s := s.endOwn img.frame accept) (b := true) hstores
    ((s.keeps_endOwn img.frame accept).toKeepsBlocks.queue hlaw.lawUpTo.blocks.queue)
  have hmem' := hline _ hmem rfl
  refine ⟨hqueue, ?_⟩
  cases hg : ((s.endOwn img.frame accept).handleTaken true img.frame).frameOnLine with
  | none => exact absurd rfl (List.find?_eq_none.mp hg _ hmem')
  | some g => rw [hqueue.onLine_unique hg hmem' rfl]

theorem State.Lawful.ownDropped_queueLaw : (s.ownDropped f accept).QueueLaw :=
  (State.keeps_dropFrame _).toKeepsBlocks.queue (hlaw.ownHandled_queueLaw hs hstores).1

/-- R89: the taken frame has left its place. -/
theorem State.Lawful.place_of_ownDropped : framePlaced (s.ownDropped f accept).queue q.place = none := by
  obtain ⟨hqueue, hline⟩ := hlaw.ownHandled_queueLaw hs hstores (accept := accept)
  exact framePlaced_none.mpr (hqueue.place_of_dropFrame hline)

/-- R71, R89: an own frame is taken. -/
theorem State.Lawful.exec_of_ownTaken : exec (frameCommand f accept) s
    = .next (((s.ownDropped f accept).toldTaken accept q).tellAlone s.liu.alone).testDrain := by
  obtain ⟨-, hline⟩ := hlaw.ownHandled_queueLaw hs hstores (accept := accept)
  rw [State.stores_eq (b := true) (.inl rfl), Bool.not_eq_true'] at hstores
  obtain ⟨img, himage, rfl, -, -, -⟩ := hlaw.sends_frame hs
  have hwait : ((s.endOwn img.frame accept).handleTaken true img.frame).ctl.restartWaiting = false := by
    rw [State.handleTaken_ctl]
    exact hs.2.1
  have htold : ((s.endOwn img.frame accept).handleTaken true img.frame).reportOutcome .taken accept
      = (s.ownDropped img.frame accept).toldTaken accept q := by
    unfold State.reportOutcome
    rw [hline]
    rfl
  rw [exec_frameCommand, State.frame_of_own hs.1 himage, State.ownFrame, hstores, State.ownTaken_eq, hwait, htold]
  rfl

end

end Sys2Proof.Machine
end

section
/-! SUPPORT. This station's own RAISE, WITHDRAW and RESTATE are taken (R29, R38, R47, R129 to R133). -/

namespace Sys2Proof.Machine

section
variable {s : State} {f : Frame} {accept : Level}

/-- R27: the test of its kind is the only one that an own frame has to pass. -/
theorem State.applyFrame_own (hkind : kindApplies s.table f = true) :
    applyFrame s.address true s.table f = applyKind s.address true s.table f :=
  applyFrame_of_applies (applies_iff.mpr ⟨.inl rfl, hkind⟩)

/-- R20: the reports of an own frame, delivered. -/
theorem State.endOwn_reported {a : Applied} (h : applyFrame s.address true s.table f = a) :
    (s.endOwn f accept).reported true f
      = a.reports.foldl (State.deliver true f) { s.endOwn f accept with table := a.table } :=
  State.reported_of (s := s.endOwn f accept) h

/-- R19: an own frame of which nothing is reported, or only an insertion. -/
theorem State.ownDropped_of_quiet {t : List Entry} {reports : List Report}
    (h : applyFrame s.address true s.table f = { table := t, reports := reports })
    (hquiet : reports = [] ∨ ∃ id claimant, reports = [.inserted id claimant]) :
    (s.ownDropped f accept).held = s.held ∧ (s.ownDropped f accept).origin = s.origin
      ∧ (s.ownDropped f accept).notices = s.notices := by
  rw [State.ownDropped_held, State.ownDropped_origin, State.ownDropped_notices, State.endOwn_reported h]
  rcases hquiet with rfl | ⟨id, claimant, rfl⟩ <;> exact ⟨rfl, rfl, rfl⟩

theorem State.ownDropped_takesPosts : (s.ownDropped f accept).takesPosts = s.takesPosts :=
  State.takesPosts_congr (by rw [State.ownDropped_ctl])

/-- The record of a frame in an identity place, where the handling leaves the Origin List. -/
theorem State.Lawful.ownDropped_record (hlaw : s.Lawful) (horigin : (s.ownDropped f accept).origin = s.origin)
    {n : Serial} {r : OriginRecord} (hr : r ∈ s.origin) (hserial : r.serial = n) :
    (s.ownDropped f accept).originRecord n = some r := by
  rw [← hserial]
  exact State.originRecord_of_mem (by rw [horigin]; exact hlaw.origin_nodup) (by rw [horigin]; exact hr)

end

theorem findEntry_append_of_none {t : List Entry} {e : Entry} (h : findEntry t e.id = none) :
    findEntry (t ++ [e]) e.id = some e := by
  rw [findEntry, List.find?_append]
  simp [show t.find? (fun x => decide (x.id = e.id)) = none from h]

/-- R3, R67: a RAISE that this station sends is objected to by its own full table. -/
theorem storageObjects_of_full {me : Address} {t : List Entry} {f : Frame} {cls : ClassNo} {limit : Limit} {deadline : Units}
    (hb : f.body = .raise cls limit deadline) (hkind : kindApplies t f = true) (hfull : 48 ≤ t.length) :
    storageObjects me true t f = true := by
  have happ : applies me true t f = true := applies_iff.mpr ⟨.inl rfl, hkind⟩
  simp [storageObjects, hb, happ, Config.tableCapacity, hfull]

/-- R67, R70: an own frame that this station objects to itself ends as one that another station objects to. -/
theorem exec_of_ownObjected {s : State} {img : TransmitImage} (hl : s.liuHeld = false) (himage : s.image = some img)
    (hobjects : storageObjects s.address true s.table img.frame = true) (accept : Level) :
    exec (frameCommand img.frame accept) s = exec
      (match accept with
        | .dominant => .frameRefused
        | .recessive => .frameCorrupted (.objected .recessive)) s := by
  rw [exec_frameCommand, State.frame_of_own hl himage, State.ownFrame, if_pos hobjects]
  cases accept with
  | dominant =>
    refine congrArg Host.Outcome.next ?_
    simp only [hl, himage, hobjects, Bool.false_eq_true, if_false]
  | recessive =>
    refine congrArg Host.Outcome.next ?_
    simp only [himage, hobjects]

/-- Settles O37. -/
theorem ownRaiseTakenBecomesLive : Obligations.OwnRaiseTakenBecomesLive := by
  unfold Obligations.OwnRaiseTakenBecomesLive
  intro s id cls priority limit deadline payload h accept r hlaw hs
  obtain ⟨img, himage, himg, hsent, hmem, ht⟩ := hlaw.sends_frame hs
  have hsender := Queued.sentAs_sender hsent
  obtain ⟨ho, x, hx, hxs, hqueued, -⟩ := (State.standsFor_identity (id := id) (by rfl)).mp (hlaw.lawUpTo.standing hmem)
  obtain ⟨-, rfl, rfl, hattempt, rfl, -⟩ : h.sender = s.address ∧ h.id = id ∧ h.priority = priority ∧ h.attempt = 0
      ∧ h.payload = payload ∧ True := by
    simpa [Queued.sentAs, Queued.keptIn, and_assoc] using hsent
  have hkind : kindApplies s.table { head := h, body := .raise cls limit deadline } = true := by
    simp [kindApplies, hattempt, show h.sender = h.id.origin from hsender.trans ho.symm]
  refine ⟨fun hfull => ?_, fun hroom hr hserial => ?_⟩
  · have hobjects := storageObjects_of_full (me := s.address) rfl hkind hfull
    rw [← himg] at hobjects
    have hexec := exec_of_ownObjected hs.1 himage hobjects accept
    rwa [himg] at hexec
  obtain rfl := List.inj_on_of_nodup_map hlaw.origin_nodup hr hx (hserial.trans hxs.symm)
  have hnew : findEntry s.table h.id = none := by
    refine findEntry_none.mpr fun e he hid => ?_
    obtain ⟨y, hy, hys, hpool⟩ := hlaw.lawUpTo.own.entries e he (hid ▸ ho) |>.resolve_left fun hf => hf
    rw [List.inj_on_of_nodup_map hlaw.origin_nodup hy hr (hys.trans (by rw [hid, hserial]))] at hpool
    simp [OriginRecord.inPool, hqueued] at hpool
  have hstores : s.stores { head := h, body := .raise cls limit deadline } = true := by
    simp only [State.stores, decide_eq_true_eq]
    exact .inl ⟨hroom, findEntry_none.mp hnew⟩
  have happlied := (State.applyFrame_own (s := s) hkind).trans rfl
  obtain ⟨hheld, horigin, -⟩ := State.ownDropped_of_quiet (accept := accept) happlied (.inr ⟨_, _, rfl⟩)
  have hrecord := hlaw.ownDropped_record horigin hr hserial
  have hempty := hlaw.place_of_ownDropped hs hstores (accept := accept)
  obtain ⟨hkept, himg', hfail, halone, hphase⟩ := State.keptByOwn_told (s := s)
    (f := { head := h, body := .raise cls limit deadline }) (accept := accept)
    (.raise h.id cls h.priority limit deadline h.payload) s.liu.alone
  have hctl := State.ownDropped_ctl (s := s) (f := { head := h, body := .raise cls limit deadline }) (accept := accept)
  have hposts := State.ownDropped_takesPosts (s := s) (f := { head := h, body := .raise cls limit deadline })
    (accept := accept)
  have htable := State.ownDropped_table (s := s) (f := { head := h, body := .raise cls limit deadline }) (accept := accept)
  have haddress := State.ownDropped_address (s := s) (f := { head := h, body := .raise cls limit deadline })
    (accept := accept)
  rw [happlied] at htable
  refine ⟨_, hlaw.exec_of_ownTaken hs hstores, hkept, himg', hfail, halone, hphase, ?_⟩
  rw [State.tellAlone_held, State.tellAlone_ctl, State.tellAlone_table, State.tellAlone_origin, State.tellAlone_queue,
    State.toldTaken_table]
  generalize s.ownDropped { head := h, body := .raise cls limit deadline } accept = d at *
  have htold : d.toldTaken accept (.raise h.id cls h.priority limit deadline h.payload)
      = if r.withdrawPending then d.beginWithdraw h.id.serial
        else d.setOrigin h.id.serial fun r => { r with state := .live } := by
    simp only [State.toldTaken, hrecord]
  rw [htold]
  by_cases hpend : r.withdrawPending = true
  · simp only [if_pos hpend]
    refine ⟨by simpa using hheld, by simpa using hctl, htable, by simp [State.beginWithdraw, State.setOrigin, horigin], ?_⟩
    exact State.framePlaced_postWithdraw (s := d.setOrigin _ _) (hposts.trans ht) (ho.trans haddress.symm)
      ((congrArg (findEntry · h.id) htable).trans (findEntry_append_of_none hnew)) hempty
  · simp only [if_neg hpend]
    refine ⟨hheld, hctl, htable, ?_, hempty⟩
    rw [← horigin]
    refine List.map_congr_left fun x hx => ?_
    by_cases hxs : x.serial = h.id.serial
    · obtain rfl := List.inj_on_of_nodup_map hlaw.origin_nodup (horigin ▸ hx) hr (hxs.trans hserial.symm)
      simp [hxs, hpend]
    · simp [hxs]

end Sys2Proof.Machine
end

section
/-! SUPPORT. This station's own WITHDRAW and RESTATE are taken (R38, R47, R132, R133). -/

namespace Sys2Proof.Machine

section
variable {s : State} {f : Frame} {accept : Level} {id : Identity}

/-- R20: a removal by an own frame that settles no claim. -/
theorem State.Lawful.ownDropped_of_removed (hlaw : s.Lawful) {a : Attempt} {cause : RemovalCause} {outcome : FinalOutcome}
    {n : Notice} {e : Entry} (he : findEntry s.table id = some e)
    (hcause : ∀ u : State, id.origin = u.address → u.reportOrigin id cause = u.originRemoved id outcome n)
    (hsettles : settlesOwn true f id = false)
    (h : applyFrame s.address true s.table f = { table := removeEntry s.table id, reports := [.removed id a cause] }) :
    (s.ownDropped f accept).held = revokedHeld s.held id
      ∧ (s.ownDropped f accept).origin = s.originAfter id outcome
      ∧ (s.ownDropped f accept).notices
          = s.notices ++ s.finalNotice id n ++ revokedNotice s.held id cause.revokeCause := by
  rw [State.ownDropped_held, State.ownDropped_origin, State.ownDropped_notices, State.endOwn_reported h]
  exact State.deliver_removed_lists (s := { s.endOwn f accept with table := removeEntry s.table id }) (b := true) (f := f)
    (a := a) hcause hsettles hlaw.origin_nodup hlaw.held_nodup (findEntry_removeEntry_self _ _)
    fun ho => hlaw.record_of_mine he ho

end

/-- R47: an own RESTATE changes nothing at its sender. -/
theorem applyFrame_own_restate {me : Address} {t : List Entry} {h : Header} {cls : ClassNo} {limit : Limit} {deadline : Units}
    {claimed : Bool} {station : Address} {remaining : Units} {e : Entry} (he : findEntry t h.id = some e) :
    applyFrame me true t { head := h, body := .restate cls limit deadline claimed station remaining } = .unchanged t := by
  unfold applyFrame
  split
  · simp [applyKind, applyRestate, he]
  · rfl

/-- Settles O40. -/
theorem ownWithdrawOrRestateTaken : Obligations.OwnWithdrawOrRestateTaken := by
  unfold Obligations.OwnWithdrawOrRestateTaken
  intro s id h accept r hlaw hr hserial
  refine ⟨fun priority hs => ?_, fun cls limit deadline claimed station remaining hs => ?_⟩
  · obtain ⟨-, -, -, hsent, -, -⟩ := hlaw.sends_frame hs
    obtain ⟨ho, hst⟩ := hlaw.record_of_own hs rfl hr hserial
    obtain ⟨e, -, -, he⟩ := hlaw.entry_of_withdrawing ho hr hserial hst
    have hsender := Queued.sentAs_sender hsent
    obtain ⟨-, rfl⟩ : h.sender = s.address ∧ h.id = id := by simpa [Queued.sentAs, Queued.keptIn] using hsent
    have hkind : kindApplies s.table { head := h, body := .withdraw } = true := by
      simp [kindApplies, he, show h.sender = h.id.origin from hsender.trans ho.symm]
    have happlied : applyFrame s.address true s.table { head := h, body := .withdraw }
        = { table := removeEntry s.table h.id, reports := [.removed h.id e.attempt .withdrawn] } := by
      rw [State.applyFrame_own hkind]
      simp only [applyKind, he]
    obtain ⟨hheld, horigin, hnotices⟩ := hlaw.ownDropped_of_removed (accept := accept) he (cause := .withdrawn)
      (outcome := .withdrawn) (n := .withdrawn h.id) (fun u hu => if_pos hu) rfl happlied
    have hempty := hlaw.place_of_ownDropped hs rfl (accept := accept)
    obtain ⟨hkept, himg, hfail, halone, -⟩ := State.keptByOwn_told (s := s) (f := { head := h, body := .withdraw })
      (accept := accept) (.withdraw h.id priority) s.liu.alone
    refine ⟨_, hlaw.exec_of_ownTaken hs rfl, hkept, himg, hfail, halone, ?_, ?_, ?_, ?_, ?_, ?_⟩
    · rw [State.tellAlone_ctl]
      exact State.ownDropped_ctl
    · rw [State.tellAlone_table, State.toldTaken_table, State.ownDropped_table, happlied]
      rfl
    · rw [State.tellAlone_held]
      exact hheld
    · rw [State.tellAlone_origin]
      exact horigin.trans (if_pos ho)
    · rw [State.tellAlone_notices_filter]
      have hfinal : s.finalNotice h.id (.withdrawn h.id) = [.withdrawn h.id] := if_pos ho
      refine congrArg _ (hnotices.trans ?_)
      rw [hfinal, List.append_assoc]
      rfl
    · rw [State.tellAlone_queue]
      exact hempty
  · obtain ⟨-, -, -, hsent, -, ht⟩ := hlaw.sends_frame hs
    obtain ⟨ho, hst⟩ := hlaw.record_of_own hs rfl hr hserial
    obtain ⟨-, rfl⟩ : h.sender = s.address ∧ h.id = id := by simpa [Queued.sentAs, Queued.keptIn] using hsent
    have hst : r.state = .live ∨ (r.state = .withdrawing ∧ true = true) := hst
    obtain ⟨e, hmem, hid, he⟩ : ∃ e ∈ s.table, e.id = h.id ∧ findEntry s.table h.id = some e := by
      obtain ⟨e, hmem, hid⟩ := hlaw.lawUpTo.entry_of_inPool hr (by rcases hst with hst | hst <;> simp [OriginRecord.inPool, hst])
      have hown : e.id = h.id := hid.trans (by rw [hserial]; exact State.ownId_of_origin ho)
      exact ⟨e, hmem, hown, hown ▸ findEntry_of_mem hlaw.lawUpTo.blocks.table.2 hmem⟩
    have hstores : s.stores { head := h, body := .restate cls limit deadline claimed station remaining } = true := by
      simp only [State.stores, decide_eq_true_eq]
      exact .inr (.inl ⟨e, hmem, hid⟩)
    have happlied := applyFrame_own_restate (me := s.address) (cls := cls) (limit := limit) (deadline := deadline)
      (claimed := claimed) (station := station) (remaining := remaining) he
    obtain ⟨hheld, horigin, hnotices⟩ := State.ownDropped_of_quiet (accept := accept) happlied (.inl rfl)
    have hrecord := hlaw.ownDropped_record horigin hr hserial
    have hempty := hlaw.place_of_ownDropped hs hstores (accept := accept)
    obtain ⟨hkept, himg, hfail, halone, -⟩ := State.keptByOwn_told (s := s)
      (f := { head := h, body := .restate cls limit deadline claimed station remaining })
      (accept := accept) (.restate h.id) s.liu.alone
    have hctl := State.ownDropped_ctl (s := s)
      (f := { head := h, body := .restate cls limit deadline claimed station remaining }) (accept := accept)
    have haddress := State.ownDropped_address (s := s)
      (f := { head := h, body := .restate cls limit deadline claimed station remaining }) (accept := accept)
    have htable := State.ownDropped_table (s := s)
      (f := { head := h, body := .restate cls limit deadline claimed station remaining }) (accept := accept)
    have hposts := State.ownDropped_takesPosts (s := s)
      (f := { head := h, body := .restate cls limit deadline claimed station remaining }) (accept := accept)
    rw [happlied] at htable
    refine ⟨_, hlaw.exec_of_ownTaken hs hstores, hkept, himg, hfail, halone, ?_⟩
    rw [State.tellAlone_held, State.tellAlone_ctl, State.tellAlone_table, State.tellAlone_origin, State.tellAlone_queue,
      State.toldTaken_table, State.tellAlone_notices_filter]
    generalize s.ownDropped { head := h, body := .restate cls limit deadline claimed station remaining } accept = d at *
    have htold : d.toldTaken accept (.restate h.id) = if r.state = .withdrawing then d.postWithdraw h.id.serial else d := by
      simp only [State.toldTaken, hrecord]
    rw [htold]
    by_cases hw : r.state = .withdrawing
    · rw [if_pos hw]
      refine ⟨by simpa using hctl, htable, by simpa using hheld, by simpa using horigin, by simp [hnotices], fun h => ?_,
        fun _ => ⟨e, hmem, hid, ?_⟩⟩
      · rw [hw] at h
        cases h
      · exact State.framePlaced_postWithdraw (hposts.trans ht) (ho.trans haddress.symm)
          ((congrArg (findEntry · h.id) htable).trans he) hempty
    · rw [if_neg hw]
      exact ⟨hctl, htable, hheld, horigin, congrArg _ hnotices, fun _ => hempty, fun h => absurd h hw⟩

end Sys2Proof.Machine
end

section
/-! SUPPORT. This station's own LAPSE is taken (R35 to R37, R111, R17). -/

namespace Sys2Proof.Machine

section
variable {s : State} {f : Frame} {accept : Level} {id : Identity}

/-- R21: a reopening by an own frame that settles no claim. -/
theorem State.Lawful.ownDropped_of_reopened (hlaw : s.Lawful) {cause : ReopenCause} {from_ : Address} {a : Attempt}
    {g : Entry → Entry} (hid : ∀ e, (g e).id = e.id) (hopen : ∀ e, (g e).claim = none)
    (hsettles : settlesOwn true f id = false)
    (h : applyFrame s.address true s.table f =
      { table := updateEntry s.table id g, reports := [.reopened id cause from_ a] }) :
    (s.ownDropped f accept).held = revokedHeld s.held id
      ∧ (s.ownDropped f accept).origin = s.origin
      ∧ (s.ownDropped f accept).notices = s.notices ++ revokedNotice s.held id .lapsed := by
  have hreported : (s.endOwn f accept).reported true f =
      State.revoke { s.endOwn f accept with table := updateEntry s.table id g } id .lapsed := by
    rw [State.endOwn_reported h]
    simp [State.deliver, hsettles]
  rw [State.ownDropped_held, State.ownDropped_origin, State.ownDropped_notices, hreported,
    State.revoke_eq (by exact hlaw.held_nodup) .lapsed fun r _ _ _ => claimedBy_updateEntry_of_open hid hopen _ _]
  exact ⟨rfl, rfl, rfl⟩

end

/-- R17: an empty LAPSE place, re-made in ACTIVE, follows the choice. -/
theorem State.lapsePlaceFollows_of_empty {d : State} (hs : d.station = .active) (hq : d.QueueLaw)
    (hempty : framePlaced d.queue .lapse = none) : d.remakeLapse.LapsePlaceFollows :=
  State.lapsePlaceFollows_remakeLapse hs hq.1 (fun g hg hp => absurd hp (framePlaced_none.mp hempty g hg))
    fun g hg e _ p a hf _ => absurd (by rw [hf]; rfl) (framePlaced_none.mp hempty g hg)

theorem State.LapsePlaceFollows.tellAlone {u : State} (h : u.LapsePlaceFollows) (b : Bool) :
    (u.tellAlone b).LapsePlaceFollows :=
  h.congr (p := .bid) (by rw [State.tellAlone_queue]) (by simp) (by rw [State.tellAlone_table])

theorem State.BidPlaceFollows.tellAlone {u : State} (h : u.BidPlaceFollows) (b : Bool) : (u.tellAlone b).BidPlaceFollows :=
  h.congr (p := .lapse) (by rw [State.tellAlone_queue]) (by simp) (by rw [State.tellAlone_config])
    (by rw [State.tellAlone_table]) (by rw [State.tellAlone_held])

/-- Settles O41. -/
theorem ownLapseTakenReopensTheEntry : Obligations.OwnLapseTakenReopensTheEntry := by
  unfold Obligations.OwnLapseTakenReopensTheEntry
  intro s h priority accept e c hlaw hs he hclaim hattempt
  obtain ⟨-, hid⟩ := findEntry_some he
  have hkind : kindApplies s.table { head := h, body := .lapse } = true := by simp [kindApplies, he, hclaim, hattempt]
  have happlied : applyFrame s.address true s.table { head := h, body := .lapse } = reopen s.table e .lapsed c.claimant := by
    rw [State.applyFrame_own hkind]
    simp [applyKind, he, hclaim]
  have hempty := hlaw.place_of_ownDropped hs rfl (accept := accept)
  have hqueue := hlaw.ownDropped_queueLaw hs rfl (accept := accept)
  obtain ⟨hkept, himg, hfail, halone, -⟩ := State.keptByOwn_told (s := s) (f := { head := h, body := .lapse })
    (accept := accept) (.lapse h.id priority h.attempt) s.liu.alone
  have hctl := State.ownDropped_ctl (s := s) (f := { head := h, body := .lapse }) (accept := accept)
  have htable := State.ownDropped_table (s := s) (f := { head := h, body := .lapse }) (accept := accept)
  have hlists : (e.limit.toNat ≠ e.attempt.toNat + 1 →
        (s.ownDropped { head := h, body := .lapse } accept).held = revokedHeld s.held h.id
        ∧ (s.ownDropped { head := h, body := .lapse } accept).origin = s.origin
        ∧ (s.ownDropped { head := h, body := .lapse } accept).notices = s.notices ++ revokedNotice s.held h.id .lapsed)
      ∧ (e.limit.toNat = e.attempt.toNat + 1 →
        (s.ownDropped { head := h, body := .lapse } accept).held = revokedHeld s.held h.id
        ∧ (s.ownDropped { head := h, body := .lapse } accept).origin = s.originAfter h.id .abandoned
        ∧ (s.ownDropped { head := h, body := .lapse } accept).notices
            = s.notices ++ s.finalNotice h.id (.abandoned h.id e.limit c.claimant) ++ revokedNotice s.held h.id .lapsed) := by
    refine ⟨fun hlimit => ?_, fun hlimit => ?_⟩
    · rw [reopen_of_below hlimit, hid] at happlied
      exact hlaw.ownDropped_of_reopened
        (g := fun x => { x with attempt := e.nextAttempt, claim := none, lastClaimant := some c.claimant }) (fun _ => rfl)
        (fun _ => rfl) rfl happlied
    · rw [reopen_of_atLimit hlimit, hid] at happlied
      exact hlaw.ownDropped_of_removed he (cause := .abandoned e.limit c.claimant) (outcome := .abandoned)
        (n := .abandoned h.id e.limit c.claimant) (fun u ho => if_pos ho) rfl happlied
  obtain ⟨hbelow, hlimit⟩ := hlists
  rw [happlied] at htable
  refine ⟨_, hlaw.exec_of_ownTaken hs rfl, hkept, himg, hfail, halone, ?_⟩
  have htold : (s.ownDropped { head := h, body := .lapse } accept).toldTaken accept (.lapse h.id priority h.attempt)
      = (s.ownDropped { head := h, body := .lapse } accept).remakeLapse := rfl
  rw [State.tellAlone_held, State.tellAlone_ctl, State.tellAlone_table, State.tellAlone_origin, State.tellAlone_queue,
    State.toldTaken_table, State.tellAlone_notices_filter, htold, State.remakeLapse_ctl, State.remakeLapse_held,
    State.remakeLapse_origin, State.remakeLapse_notices]
  generalize s.ownDropped { head := h, body := .lapse } accept = d at *
  have hstation : d.station = s.station := congrArg Controller.state hctl
  refine ⟨hctl, ?_, fun hne => ?_, fun heq => ?_, fun hactive => ?_, fun hleaving => ?_⟩
  · by_cases hl : e.limit.toNat = e.attempt.toNat + 1
    · exact (hlimit hl).1
    · exact (hbelow hl).1
  · obtain ⟨-, horigin, hnotices⟩ := hbelow hne
    rw [reopen_of_below hne, hid] at htable
    exact ⟨⟨e.nextAttempt, Entry.nextAttempt_toNat, htable⟩, horigin, congrArg _ hnotices⟩
  · obtain ⟨-, horigin, hnotices⟩ := hlimit heq
    rw [reopen_of_atLimit heq, hid] at htable
    exact ⟨htable, horigin, congrArg _ hnotices⟩
  · exact (State.lapsePlaceFollows_of_empty (hstation.trans hactive) hqueue hempty).tellAlone _
  · rw [State.remakeLapse_of_not_active (by rw [hstation, hleaving]; decide)]
    exact hempty

end Sys2Proof.Machine
end

section
/-! SUPPORT. This station's own FINISH or RELEASE is taken (R33, R34, R36, R37, R110). -/

namespace Sys2Proof.Machine

/-- R110: the Held List once its record of an identity is settled. -/
theorem State.settleHeld_held {s : State} {r : HeldRecord} (hn : (s.held.map HeldRecord.id).Nodup) (hr : r ∈ s.held) :
    (s.settleHeld r.id).held =
      if r.unread = 0 then s.held.filter fun x => x.id ≠ r.id
      else s.held.map fun x => if x.id = r.id then { x with state := .closed } else x := by
  unfold State.settleHeld
  rw [State.heldRecord_of_mem hn hr]
  dsimp only
  by_cases h : r.unread = 0
  · rw [if_pos h, if_pos h]
    rfl
  · rw [if_neg h, if_neg h]
    rfl

section
variable {s : State} {f : Frame} {accept : Level} {id : Identity}

/-- R110, R20: the reports of an own FINISH or RELEASE leave its held record to the outcome. -/
theorem State.Lawful.ownDropped_of_settledRemoval (hlaw : s.Lawful) {a : Attempt} {cause : RemovalCause}
    {outcome : FinalOutcome} {n : Notice} {e : Entry} (he : findEntry s.table id = some e)
    (hcause : ∀ u : State, id.origin = u.address → u.reportOrigin id cause = u.originRemoved id outcome n)
    (hsettles : settlesOwn true f id = true)
    (h : applyFrame s.address true s.table f = { table := removeEntry s.table id, reports := [.removed id a cause] }) :
    (s.ownDropped f accept).held = s.held ∧ (s.ownDropped f accept).origin = s.originAfter id outcome
      ∧ (s.ownDropped f accept).notices = s.notices ++ s.finalNotice id n := by
  have hreported : (s.endOwn f accept).reported true f =
      State.reportOrigin { s.endOwn f accept with table := removeEntry s.table id } id cause := by
    rw [State.endOwn_reported h]
    simp [State.deliver, hsettles]
  rw [State.ownDropped_held, State.ownDropped_origin, State.ownDropped_notices, hreported]
  obtain ⟨horigin, hnotices⟩ := State.reportOrigin_lists (s := { s.endOwn f accept with table := removeEntry s.table id })
    hcause hlaw.origin_nodup fun ho => hlaw.record_of_mine he ho
  exact ⟨State.reportOrigin_held _ _ _, horigin, hnotices⟩

theorem State.ownDropped_of_settledReopening {cause : ReopenCause} {from_ : Address} {a : Attempt} {t : List Entry}
    (hsettles : settlesOwn true f id = true)
    (h : applyFrame s.address true s.table f = { table := t, reports := [.reopened id cause from_ a] }) :
    (s.ownDropped f accept).held = s.held ∧ (s.ownDropped f accept).origin = s.origin
      ∧ (s.ownDropped f accept).notices = s.notices := by
  have hreported : (s.endOwn f accept).reported true f = { s.endOwn f accept with table := t } := by
    rw [State.endOwn_reported h]
    simp [State.deliver, hsettles]
  rw [State.ownDropped_held, State.ownDropped_origin, State.ownDropped_notices, hreported]
  exact ⟨rfl, rfl, rfl⟩

/-- R55: this station is the sender of its own frame. -/
theorem State.Lawful.sender_of_own {q : Queued} (hlaw : s.Lawful) (hs : s.sends q f) : f.head.sender = s.address := by
  obtain ⟨-, -, -, hsent, -, -⟩ := hlaw.sends_frame hs
  exact Queued.sentAs_sender hsent

/-- R98, R104: the claim of a frame in a held place is in the table. -/
theorem State.Lawful.claimed_of_own {q : Queued} (hlaw : s.Lawful) (hs : s.sends q f) {a : Attempt}
    (hq : (∃ p result payload, q = .finish id p a result payload) ∨ ∃ p, q = .release id p a) :
    claimedBy s.table id s.address a = true := by
  obtain ⟨-, -, -, -, hmem, -⟩ := hlaw.sends_frame hs
  have hstands := hlaw.lawUpTo.standing hmem
  rcases hq with ⟨p, result, payload, rfl⟩ | ⟨p, rfl⟩
  · obtain ⟨r, hr, rfl, hst, rfl⟩ := (State.standsFor_held (id := id) (by rfl)).mp hstands
    exact hlaw.claimedBy_of_open hr (by simp [hst])
  · obtain ⟨r, hr, rfl, hst, rfl⟩ := (State.standsFor_held (id := id) (by rfl)).mp hstands
    exact hlaw.claimedBy_of_open hr (by simp [hst])

end

/-- What the outcome TAKEN of an own FINISH or RELEASE leaves, once the handling has left the Held List. -/
theorem State.Lawful.settled_of_ownTaken {s : State} (hlaw : s.Lawful) {q : Queued} {f : Frame} {accept : Level}
    (hs : s.sends q f) (hstores : s.stores f = true) {r : HeldRecord} (hr : r ∈ s.held) (hplace : q.place = .held r.id)
    (htold : ∀ u : State, u.toldTaken accept q = (u.settleHeld r.id).remakeBid)
    (hheld : (s.ownDropped f accept).held = s.held) :
    (((s.ownDropped f accept).toldTaken accept q).tellAlone s.liu.alone).ctl = s.ctl
      ∧ (((s.ownDropped f accept).toldTaken accept q).tellAlone s.liu.alone).held =
          (if r.unread = 0 then s.held.filter fun x => x.id ≠ r.id
           else s.held.map fun x => if x.id = r.id then { x with state := .closed } else x)
      ∧ framePlaced (((s.ownDropped f accept).toldTaken accept q).tellAlone s.liu.alone).queue (.held r.id) = none
      ∧ (((s.ownDropped f accept).toldTaken accept q).tellAlone s.liu.alone).table
          = (applyFrame s.address true s.table f).table
      ∧ (((s.ownDropped f accept).toldTaken accept q).tellAlone s.liu.alone).origin = (s.ownDropped f accept).origin
      ∧ (((s.ownDropped f accept).toldTaken accept q).tellAlone s.liu.alone).notices.filter (fun n => ¬ n.isStation)
          = (s.ownDropped f accept).notices.filter (fun n => ¬ n.isStation) := by
  have hempty := hlaw.place_of_ownDropped hs hstores (accept := accept)
  rw [State.tellAlone_ctl, State.tellAlone_held, State.tellAlone_queue, State.tellAlone_table, State.tellAlone_origin,
    State.tellAlone_notices_filter, State.toldTaken_table, State.ownDropped_table, htold, State.remakeBid_ctl,
    State.remakeBid_held, State.remakeBid_origin, State.remakeBid_notices, State.settleHeld_ctl, State.settleHeld_origin,
    State.settleHeld_notices, State.settleHeld_held (by rw [hheld]; exact hlaw.held_nodup) (by rw [hheld]; exact hr), hheld]
  refine ⟨State.ownDropped_ctl, rfl, ?_, rfl, rfl, rfl⟩
  rw [framePlaced_of_others (State.withoutPlace_remakeBid _) (by simp), State.settleHeld_queue, ← hplace]
  exact hempty

/-- Settles O39. -/
theorem ownFinishOrReleaseSettlesRecord : Obligations.OwnFinishOrReleaseSettlesRecord := by
  unfold Obligations.OwnFinishOrReleaseSettlesRecord
  intro s h q body accept r e hlaw hs hr hrid he hbody
  have hsender : h.sender = s.address := hlaw.sender_of_own hs
  obtain ⟨-, hid⟩ := findEntry_some he
  obtain ⟨hkept, himg, hfail, halone, -⟩ := State.keptByOwn_told (s := s) (f := { head := h, body := body })
    (accept := accept) q s.liu.alone
  rcases hbody with ⟨priority, result, rfl, rfl, hlen⟩ | ⟨priority, reserved, rfl, rfl⟩
  · have hclaimed := hlaw.claimed_of_own hs (.inl ⟨_, _, _, rfl⟩)
    have happlied : applyFrame s.address true s.table { head := h, body := .finish result }
        = { table := removeEntry s.table h.id, reports := [.removed h.id h.attempt (.finished h.sender result h.payload)] } :=
      State.applyFrame_own (f := { head := h, body := .finish result }) (by simp [kindApplies, hsender, hclaimed, hlen])
    obtain ⟨hheld, horigin, hnotices⟩ := hlaw.ownDropped_of_settledRemoval (accept := accept) he
      (cause := .finished h.sender result h.payload) (outcome := .finished) (n := .finished h.id h.sender result h.payload)
      (fun u ho => if_pos ho) (by simp [settlesOwn]) happlied
    obtain ⟨hctl, hheld', hplace, htable, horigin', hnotices'⟩ := hlaw.settled_of_ownTaken hs rfl hr (hrid ▸ rfl)
      (fun u => hrid ▸ rfl) hheld
    rw [hrid] at hheld' hplace
    refine ⟨_, hlaw.exec_of_ownTaken hs rfl, hkept, himg, hfail, halone, hctl, hheld', hplace, fun result' hb => ?_,
      fun reserved hb => by cases hb⟩
    obtain rfl := Body.finish.inj hb
    rw [htable, horigin', hnotices', happlied, horigin, hnotices, hsender]
    exact ⟨rfl, rfl, rfl⟩
  · have hclaimed := hlaw.claimed_of_own hs (.inr ⟨_, rfl⟩)
    have happlied : applyFrame s.address true s.table { head := h, body := .release reserved }
        = reopen s.table e .released s.address := by
      rw [State.applyFrame_own (f := { head := h, body := .release reserved }) (by simp [kindApplies, hsender, hclaimed])]
      simp [applyKind, he, hsender]
    by_cases hlimit : e.limit.toNat = e.attempt.toNat + 1
    · rw [reopen_of_atLimit hlimit, hid] at happlied
      obtain ⟨hheld, horigin, hnotices⟩ := hlaw.ownDropped_of_settledRemoval (accept := accept) he
        (cause := .abandoned e.limit s.address) (outcome := .abandoned) (n := .abandoned h.id e.limit s.address)
        (fun u ho => if_pos ho) (by simp [settlesOwn]) happlied
      obtain ⟨hctl, hheld', hplace, htable, horigin', hnotices'⟩ := hlaw.settled_of_ownTaken hs rfl hr (hrid ▸ rfl)
        (fun u => hrid ▸ rfl) hheld
      rw [hrid] at hheld' hplace
      refine ⟨_, hlaw.exec_of_ownTaken hs rfl, hkept, himg, hfail, halone, hctl, hheld', hplace, fun result hb => (by cases hb),
        fun reserved' hb => ⟨fun hne => absurd hlimit hne, fun _ => ?_⟩⟩
      rw [htable, horigin', hnotices', happlied, horigin, hnotices]
      exact ⟨rfl, rfl, rfl⟩
    · rw [reopen_of_below hlimit, hid] at happlied
      obtain ⟨hheld, horigin, hnotices⟩ := State.ownDropped_of_settledReopening (accept := accept) (id := h.id)
        (by simp [settlesOwn]) happlied
      obtain ⟨hctl, hheld', hplace, htable, horigin', hnotices'⟩ := hlaw.settled_of_ownTaken hs rfl hr (hrid ▸ rfl)
        (fun u => hrid ▸ rfl) hheld
      rw [hrid] at hheld' hplace
      refine ⟨_, hlaw.exec_of_ownTaken hs rfl, hkept, himg, hfail, halone, hctl, hheld', hplace, fun result hb => (by cases hb),
        fun reserved' hb => ⟨fun _ => ?_, fun heq => absurd heq hlimit⟩⟩
      rw [htable, horigin', hnotices', happlied, horigin, hnotices]
      exact ⟨⟨e.nextAttempt, Entry.nextAttempt_toNat, rfl⟩, rfl, rfl⟩

end Sys2Proof.Machine
end

section
/-! SUPPORT. This station's own BID is taken (R31, R99, R104, R119). -/

namespace Sys2Proof.Machine

/-- R99, R119: the record of a claim won. -/
theorem State.createHeld_held {s : State} {id : Identity} {e : Entry} (he : findEntry s.table id = some e) (a : Attempt) :
    (s.createHeld id a).held = s.held ++
      [{ id := id, attempt := a, priority := e.priority, state := if s.station = .leaving then .ending else .awaiting
         unread := 0, deadlineNoticed := false }] := by
  unfold State.createHeld
  by_cases hs : s.station = .leaving <;> simp [he, hs]

/-- R119: in LEAVING the RELEASE of a claim won is posted at once. -/
theorem State.createHeld_queue {s : State} {id : Identity} {e : Entry} (he : findEntry s.table id = some e) (a : Attempt)
    (hs : s.station = .leaving) (ht : s.takesPosts = true) (hempty : framePlaced s.queue (.held id) = none) :
    (s.createHeld id a).queue = s.queue ++ [{ frame := .release id e.priority a, onLine := false }] := by
  unfold State.createHeld
  dsimp only
  rw [he, if_pos (decide_eq_true hs), State.post_of_empty (by exact ht) (by exact hempty)]
  rfl

/-- R87, R17, R102: of the frames outside the two choices' places, the handling keeps those that are not superseded. -/
theorem State.framePlaced_ownDropped {s : State} {f : Frame} {accept : Level} (hb : ∀ fresh, f.body ≠ .join fresh) {p : Place}
    (hbid : p ≠ .bid) (hlapse : p ≠ .lapse) {g : QueuedFrame} (hoff : g.onLine = false)
    (hg : framePlaced ((s.endOwn f accept).reported true f).queue p = some g)
    (hsup : superseded (applyFrame s.address true s.table f).table s.address g.frame = false) :
    framePlaced (s.ownDropped f accept).queue p = some g := by
  refine framePlaced_filter ?_ (by simp [hoff])
  rw [State.handleTaken_eq, State.restatementDuty_of_other hb, State.remakeChoices,
    framePlaced_of_others (State.withoutPlace_remakeBid _) hbid,
    framePlaced_of_others (State.withoutPlace_remakeLapse _) hlapse]
  refine framePlaced_filter hg ?_
  rw [State.reported_table, State.reported_address]
  simp only [hoff, Bool.false_eq_true, false_or, decide_eq_true_eq]
  rw [Bool.not_eq_true]
  exact hsup

/-- Settles O38. -/
theorem ownBidTakenCreatesRecord : Obligations.OwnBidTakenCreatesRecord := by
  unfold Obligations.OwnBidTakenCreatesRecord
  intro s h priority accept e hlaw hs he hopen hattempt
  have hsender : h.sender = s.address := hlaw.sender_of_own hs
  obtain ⟨-, -, -, -, -, ht⟩ := hlaw.sends_frame hs
  have happlied : applyFrame s.address true s.table { head := h, body := .bid }
      = { table := updateEntry s.table h.id fun x =>
            { x with claim := some { claimant := s.address, remaining := x.deadline, expired := false } }
          reports := [.claimed h.id s.address h.attempt] } := by
    rw [State.applyFrame_own (f := { head := h, body := .bid }) (by simp [kindApplies, he, hopen, hattempt]), ← hsender]
    rfl
  generalize hw : (fun x : Entry =>
    { x with claim := some { claimant := s.address, remaining := x.deadline, expired := false } }) = won at happlied
  have hwonId : ∀ x, (won x).id = x.id := fun x => by rw [← hw]
  have hfind : findEntry (updateEntry s.table h.id won) h.id = some (won e) := by
    rw [findEntry_updateEntry hwonId, he, Option.map_some, if_pos (findEntry_some he).2]
  have hempty : framePlaced s.queue (.held h.id) = none := framePlaced_none.mpr fun g hg hp => by
    obtain ⟨r, hr, hid, hst, -⟩ := (State.standsFor_held hp).mp (hlaw.lawUpTo.standing hg)
    obtain ⟨x, c, hx, -, hc, -⟩ := claimedBy_iff.mp (hlaw.claimedBy_of_open hr (by simp [hst]))
    rw [hid, he, Option.some_inj] at hx
    rw [← hx, hopen] at hc
    cases hc
  have hreported : (s.endOwn { head := h, body := .bid } accept).reported true { head := h, body := .bid }
      = State.createHeld { s.endOwn { head := h, body := .bid } accept with table := updateEntry s.table h.id won }
          h.id h.attempt := by
    rw [State.endOwn_reported happlied]
    exact if_pos ⟨rfl, rfl⟩
  obtain ⟨hkept, himg, hfail, halone, -⟩ := State.keptByOwn_told (s := s) (f := { head := h, body := .bid })
    (accept := accept) (.bid h.id priority h.attempt) s.liu.alone
  have htold : (s.ownDropped { head := h, body := .bid } accept).toldTaken accept (.bid h.id priority h.attempt)
      = (s.ownDropped { head := h, body := .bid } accept).remakeBid := rfl
  refine ⟨_, hlaw.exec_of_ownTaken hs rfl, hkept, himg, hfail, halone, ?_⟩
  rw [State.tellAlone_held, State.tellAlone_ctl, State.tellAlone_table, State.tellAlone_origin, State.tellAlone_queue,
    htold, State.remakeBid_ctl, State.remakeBid_held, State.remakeBid_origin, State.remakeBid_table,
    State.ownDropped_table, State.ownDropped_held, State.ownDropped_origin, hreported, happlied]
  refine ⟨State.createHeld_origin _ _ _, State.ownDropped_ctl, ?_, ?_, fun hleaving => ?_⟩
  · rw [← hw]
    rfl
  · have hpriority : (won e).priority = e.priority := by rw [← hw]
    rw [State.createHeld_held hfind, hpriority]
    rfl
  · rw [framePlaced_of_others (State.withoutPlace_remakeBid _) (by simp)]
    refine State.framePlaced_ownDropped (fun _ => by simp) (by simp) (by simp) rfl ?_ ?_
    · rw [hreported, State.createHeld_queue hfind _ (by exact hleaving) (by exact ht) (by exact hempty), ← hw]
      exact framePlaced_append_self (by exact hempty)
    · rw [happlied]
      have hclaimed : claimedBy (updateEntry s.table h.id won) h.id s.address h.attempt = true :=
        claimedBy_iff.mpr ⟨won e, _, hfind, by rw [← hw]; exact hattempt, by rw [← hw], rfl⟩
      simp [superseded, hclaimed]

end Sys2Proof.Machine
end

section
/-! SUPPORT. This station's own JOIN is taken (R42, R144, R146, R148). -/

namespace Sys2Proof.Machine

/-- R93, Table 4-5: outside the places of the two choices, what a frame stands for is in the table. -/
theorem State.LawUpTo.not_superseded {s : State} (h : s.LawUpTo .none) {g : QueuedFrame} (hg : g ∈ s.queue)
    (hbid : g.frame.place ≠ .bid) (hlapse : g.frame.place ≠ .lapse) :
    superseded s.table s.address g.frame = false := by
  have hst := h.standing hg
  obtain ⟨frame, onLine⟩ := g
  have hheld : ∀ (id : Identity) (a : Attempt), (∃ r ∈ s.held, r.id = id ∧ r.state = .ending ∧ r.attempt = a) →
      claimedBy s.table id s.address a = true := by
    rintro id a ⟨r, hr, rfl, hending, rfl⟩
    exact (h.held.claims r hr (by simp [hending])).resolve_left fun hf => hf
  cases frame with
  | raise | withdraw | join => rfl
  | restate id =>
    obtain ⟨ho, r, hr, hserial, hb⟩ := (State.standsFor_identity (by rfl)).mp hst
    obtain ⟨e, he, hid⟩ := h.entry_of_inPool hr (by rcases hb with hb | ⟨hb, -⟩ <;> simp [OriginRecord.inPool, hb])
    rw [hserial, State.ownId_of_origin ho] at hid
    simp only [superseded, Option.isNone_eq_false_iff]
    exact findEntry_isSome.mpr ⟨e, he, hid⟩
  | finish id p a result payload =>
    obtain ⟨r, hr, hid, hending, hattempt⟩ := (State.standsFor_held (by rfl)).mp hst
    simp [superseded, hheld id a ⟨r, hr, hid, hending, hattempt⟩]
  | release id p a =>
    obtain ⟨r, hr, hid, hending, hattempt⟩ := (State.standsFor_held (by rfl)).mp hst
    simp [superseded, hheld id a ⟨r, hr, hid, hending, hattempt⟩]
  | bid => exact absurd rfl hbid
  | lapse => exact absurd rfl hlapse

/-- R100: outside ACTIVE there is no bid choice, and an empty BID place stays empty. -/
theorem State.remakeBid_of_empty {s : State} (hs : s.station ≠ .active) (hempty : framePlaced s.queue .bid = none) :
    s.remakeBid = s := by
  have hnone : s.bidChoice = none := by
    have hno : s.table.filter s.eligible = [] := List.filter_eq_nil_iff.mpr fun e _ => by simp [State.eligible, hs]
    rw [State.bidChoice, hno]
    rfl
  unfold State.remakeBid
  rw [hempty, hnone]

/-- R87: a purge of a queue in which no frame is superseded. -/
theorem State.purge_of_none {s : State} (h : ∀ g ∈ s.queue, superseded s.table s.address g.frame = false) : s.purge = s := by
  have hall : (s.queue.filter fun f => f.onLine ∨ ¬ superseded s.table s.address f.frame) = s.queue :=
    List.filter_eq_self.mpr fun g hg => by simp [h g hg]
  rw [State.purge, hall]

/-- R149: the STATION notice tells that the station has joined. -/
def tellsJoined (ns : List Notice) : Prop := ∃ n ∈ ns, ∃ causes : Byte, n = .station causes ∧ causes.getLsbD 0 = true

theorem State.tellsJoined_raiseJoined (s : State) : tellsJoined (s.raiseCause .joined).notices := by
  rw [State.raiseCause_notices]
  split
  · rename_i h
    obtain ⟨n, hn, hst⟩ := List.any_eq_true.mp h
    cases n with
    | station causes =>
      refine ⟨_, List.mem_map_of_mem hn, causes ||| StationCause.joined.bit, rfl, ?_⟩
      simp [StationCause.bit]
    | finished | abandoned | withdrawn | refused | deadline | revoked => cases hst
  · exact ⟨_, List.mem_append_right _ (List.mem_singleton_self _), StationCause.joined.bit, rfl, by decide⟩

theorem State.tellsJoined_raiseCause {s : State} (h : tellsJoined s.notices) (c : StationCause) :
    tellsJoined (s.raiseCause c).notices := by
  obtain ⟨n, hn, causes, rfl, hbit⟩ := h
  rw [State.raiseCause_notices, if_pos (List.any_eq_true.mpr ⟨_, hn, rfl⟩)]
  exact ⟨_, List.mem_map_of_mem hn, causes ||| c.bit, rfl, by simp [hbit]⟩

theorem State.tellsJoined_tellAlone {s : State} (h : tellsJoined s.notices) (b : Bool) : tellsJoined (s.tellAlone b).notices := by
  unfold State.tellAlone
  split
  · exact h
  · split
    · exact State.tellsJoined_raiseCause h _
    · exact State.tellsJoined_raiseCause h _

section
variable {s : State} {h : Header} {fresh : Bool} {accept : Level}
  (hlaw : s.Lawful) (hs : s.sends (.join fresh) { head := h, body := .join fresh })
include hlaw hs

/-- R144: the state in which the own JOIN is on the Line. -/
theorem State.Lawful.sends_join : s.station = .listen ∧ s.ctl.joinStage = some .joinSending ∧ fresh = s.ctl.freshOwed
    ∧ h.id.origin = s.address ∧ h.sender = s.address := by
  obtain ⟨-, -, -, hsent, hmem, -⟩ := hlaw.sends_frame hs
  obtain ⟨hstage, hfresh⟩ := (State.standsFor_join (by rfl)).mp (hlaw.lawUpTo.standing hmem)
  obtain ⟨hsender, hid⟩ : h.sender = s.address ∧ h.id = { origin := s.address, serial := 0 } := by
    simpa [Queued.sentAs, Queued.keptIn] using hsent
  obtain ⟨-, -, -, -, -, -, -, hcontrol, -⟩ := hlaw
  exact ⟨hcontrol.1.mp (by simp [hstage]), hstage, Queued.join.inj hfresh, by rw [hid], hsender⟩

/-- R9, R124: at a station that owes a fresh JOIN no event of its own is left for it to remove. -/
theorem State.Lawful.applyFrame_of_ownJoin :
    applyFrame s.address true s.table { head := h, body := .join fresh } = .unchanged s.table := by
  obtain ⟨-, -, hfresh, horigin, hsender⟩ := hlaw.sends_join hs
  rw [State.applyFrame_own (f := { head := h, body := .join fresh }) (by simp [kindApplies, horigin, hsender])]
  cases fresh with
  | false => rfl
  | true =>
    have hforeign : ∀ e ∈ s.table, e.id.origin ≠ h.sender := fun e he ho => by
      obtain ⟨r, hr, -, hpool⟩ := (hlaw.lawUpTo.own.entries e he (ho.trans hsender)).resolve_left fun hf => hf
      obtain ⟨-, -, -, -, -, -, -, ⟨-, -, -, howed, -⟩, -⟩ := hlaw
      have hclosed := (howed hfresh.symm).2.2 r hr
      cases hst : r.state <;> simp [OriginRecord.inPool, OriginRecord.isClosed, hst] at hpool hclosed
    have hkept : (s.table.filter fun e => ¬ e.id.origin = h.sender) = s.table :=
      List.filter_eq_self.mpr fun e he => by simpa using hforeign e he
    have hnone : (s.table.filter fun e => e.id.origin = h.sender) = [] :=
      List.filter_eq_nil_iff.mpr fun e he => by simpa using hforeign e he
    simp only [applyKind, if_true, hkept, hnone, List.map_nil, Applied.unchanged]

/-- R42: the JOIN leaves its place, and behind the other frames stand the RESTATEs that it calls for. -/
theorem State.Lawful.ownDropped_of_join : s.ownDropped { head := h, body := .join fresh } accept =
    { s.endOwn { head := h, body := .join fresh } accept with
      image := none
      queue := (s.queue.filter fun g => g.frame.place ≠ .join)
        ++ (s.origin.filter s.owesRestate).map fun r => s.restateOf r.serial } := by
  obtain ⟨hlisten, -, -, horigin, hsender⟩ := hlaw.sends_join hs
  obtain ⟨-, -, -, -, hmem, ht⟩ := hlaw.sends_frame hs
  have happlies : applies s.address true s.table { head := h, body := .join fresh } = true :=
    applies_iff.mpr ⟨.inl rfl, by simp [kindApplies, horigin, hsender]⟩
  generalize hu : s.endOwn { head := h, body := .join fresh } accept = u
  have hq : u.queue = s.queue := by rw [← hu]; rfl
  have htable : u.table = s.table := by rw [← hu]; rfl
  have haddress : u.address = s.address := by rw [← hu]; rfl
  have hstation : u.station = s.station := by rw [← hu]; rfl
  have hreported : u.reported true { head := h, body := .join fresh } = u := by
    rw [State.reported_of (s := u) (a := .unchanged s.table) (by rw [haddress, htable]; exact hlaw.applyFrame_of_ownJoin hs)]
    rw [← htable]
    rfl
  have hut : u.takesPosts = true := by rw [← hu]; exact ht
  have hduty : u.restatementDuty { head := h, body := .join fresh } (applies u.address true u.table { head := h, body := .join fresh })
      = { u with queue := s.queue ++ (s.origin.filter s.owesRestate).map fun r => s.restateOf r.serial } := by
    rw [State.restatementDuty_of_join (fresh := fresh) rfl, haddress, htable, if_pos ⟨happlies, hut⟩, State.restateAll_eq hut]
    · rw [← hu]
      rfl
    · rw [← hu]; exact hlaw.origin_nodup
  have hlisten' := hlaw.lawUpTo.choicePlaces_empty hlisten
  have hpurge : ∀ g ∈ s.queue ++ (s.origin.filter s.owesRestate).map fun r => s.restateOf r.serial,
      superseded s.table s.address g.frame = false := by
    intro g hg
    rcases List.mem_append.mp hg with hg | hg
    · exact hlaw.lawUpTo.not_superseded hg (hlisten' g hg).1 (hlisten' g hg).2
    · obtain ⟨r, hr, rfl⟩ := List.mem_map.mp hg
      obtain ⟨hr, howes⟩ := List.mem_filter.mp hr
      have hlive : r.state = .live := (of_decide_eq_true howes).1
      obtain ⟨e, he, hid⟩ := hlaw.lawUpTo.entry_of_inPool hr (by simp [OriginRecord.inPool, hlive])
      simp only [State.restateOf, superseded, Option.isNone_eq_false_iff]
      exact findEntry_isSome.mpr ⟨e, he, hid⟩
  have hempty : framePlaced (s.queue ++ (s.origin.filter s.owesRestate).map fun r => s.restateOf r.serial) .bid = none := by
    refine framePlaced_none.mpr fun g hg => ?_
    rcases List.mem_append.mp hg with hg | hg
    · exact (hlisten' g hg).1
    · obtain ⟨r, -, rfl⟩ := List.mem_map.mp hg
      simp [State.restateOf, Queued.place]
  have hna : u.station ≠ .active := by rw [hstation, hlisten]; decide
  rw [State.ownDropped, hu, State.handleTaken_eq, hreported, hduty,
    State.purge_of_none (by rw [← htable, ← haddress] at hpurge; exact hpurge), State.remakeChoices,
    State.remakeLapse_of_not_active (by exact hna), State.remakeBid_of_empty (by exact hna) (by exact hempty)]
  rw [State.dropFrame]
  simp only [State.mk.injEq, true_and, and_true, List.filter_append]
  refine congrArg₂ (· ++ ·) (List.filter_congr fun g hg => ?_) (List.filter_eq_self.mpr fun g hg => ?_)
  · rw [decide_eq_decide]
    refine not_congr ⟨fun hon => ?_, fun hp => ?_⟩
    · rw [hlaw.lawUpTo.blocks.queue.onLine_unique hs.2.2.2 hg hon]
      rfl
    · rw [List.inj_on_of_nodup_map hlaw.lawUpTo.blocks.queue.1 hg hmem hp]
  · obtain ⟨r, -, rfl⟩ := List.mem_map.mp hg
    rfl

/-- R94: no BID and no LAPSE waits behind the JOIN. -/
theorem State.Lawful.ownDropped_join_clear : ∀ g ∈ (s.ownDropped { head := h, body := .join fresh } accept).queue,
    g.frame.place ≠ .bid ∧ g.frame.place ≠ .lapse := by
  intro g hg
  rw [hlaw.ownDropped_of_join hs] at hg
  rcases List.mem_append.mp hg with hg | hg
  · exact hlaw.lawUpTo.choicePlaces_empty (hlaw.sends_join hs).1 g (List.mem_filter.mp hg).1
  · obtain ⟨r, -, rfl⟩ := List.mem_map.mp hg
    simp [State.restateOf, Queued.place]

end

theorem State.freshCleared {s : State} {fresh : Bool} (h : fresh = s.ctl.freshOwed) :
    (if fresh then { s with ctl := { s.ctl with freshOwed := false } } else s)
      = { s with ctl := { s.ctl with freshOwed := false } } := by
  cases fresh with
  | true => rfl
  | false => rw [if_neg (by simp), h]

/-- R146: the outcome TAKEN of the JOIN that was owed, accepted by another station. -/
theorem State.joinTaken_accepted {s : State} {fresh : Bool} (h : fresh = s.ctl.freshOwed) :
    s.joinTaken fresh .dominant = { s with ctl := { s.ctl with freshOwed := false, joinStage := some .window } } := by
  unfold State.joinTaken
  rw [State.freshCleared h]

/-- R146: the outcome TAKEN of the JOIN that was owed, accepted by nobody. -/
theorem State.joinTaken_alone {s : State} {fresh : Bool} (h : fresh = s.ctl.freshOwed) :
    s.joinTaken fresh .recessive = State.enterActive { s with ctl := { s.ctl with freshOwed := false } } := by
  unfold State.joinTaken
  rw [State.freshCleared h]

/-- Settles O42. -/
theorem ownJoinTakenOpensTheWindow : Obligations.OwnJoinTakenOpensTheWindow := by
  unfold Obligations.OwnJoinTakenOpensTheWindow
  intro s h fresh accept hlaw hs
  obtain ⟨hlisten, -, hfresh, -, -⟩ := hlaw.sends_join hs
  have hexec : exec (if fresh then .freshJoin h accept else .join h accept) s
      = exec (frameCommand { head := h, body := .join fresh } accept) s := by cases fresh <;> rfl
  obtain ⟨hkept, himg, hfail, halone, -⟩ := State.keptByOwn_told (s := s) (f := { head := h, body := .join fresh })
    (accept := accept) (.join fresh) s.liu.alone
  have hctl := State.ownDropped_ctl (s := s) (f := { head := h, body := .join fresh }) (accept := accept)
  have hqueue := hlaw.ownDropped_queueLaw hs rfl (accept := accept)
  have hd := hlaw.ownDropped_of_join hs (accept := accept)
  have htable : (s.ownDropped { head := h, body := .join fresh } accept).table = s.table := by rw [hd]; rfl
  have hheld : (s.ownDropped { head := h, body := .join fresh } accept).held = s.held := by rw [hd]; rfl
  have horigin : (s.ownDropped { head := h, body := .join fresh } accept).origin = s.origin := by rw [hd]; rfl
  have hq : (s.ownDropped { head := h, body := .join fresh } accept).queue = (s.queue.filter fun g => g.frame.place ≠ .join)
      ++ (s.origin.filter s.owesRestate).map fun r => s.restateOf r.serial := by rw [hd]
  have hclear := hlaw.ownDropped_join_clear hs (accept := accept)
  have hexec' := hexec.trans (hlaw.exec_of_ownTaken hs rfl)
  have htold : (s.ownDropped { head := h, body := .join fresh } accept).toldTaken accept (.join fresh)
      = (s.ownDropped { head := h, body := .join fresh } accept).joinTaken fresh accept := rfl
  rw [htold] at hexec' hkept himg hfail halone
  generalize s.ownDropped { head := h, body := .join fresh } accept = d at *
  have howed : fresh = d.ctl.freshOwed := by rw [hctl]; exact hfresh
  cases accept with
  | dominant =>
    have hjoin := State.joinTaken_accepted howed
    have hstate : d.ctl.state = .listen := (congrArg Controller.state hctl).trans hlisten
    have hnl : ((d.joinTaken fresh .dominant).tellAlone s.liu.alone).station ≠ .leaving := by
      rw [State.station, State.tellAlone_ctl, hjoin, hstate]
      decide
    rw [State.testDrain_of_not_leaving hnl] at hexec'
    refine ⟨_, hexec', hkept, himg, hfail, halone, ?_⟩
    rw [State.tellAlone_table, State.tellAlone_held, State.tellAlone_origin, State.tellAlone_ctl, State.tellAlone_queue, hjoin,
      List.filter_eq_self.mpr fun g hg => decide_eq_true (hclear g hg)]
    exact ⟨htable, hheld, horigin, by rw [← hctl, ← hstate], hq,
      fun _ => ⟨framePlaced_none.mpr fun g hg => (hclear g hg).1, framePlaced_none.mpr fun g hg => (hclear g hg).2⟩,
      fun h => (by cases h), fun h => (by cases h)⟩
  | recessive =>
    have hjoin := State.joinTaken_alone howed
    have heq := State.enterActive_eq { d with ctl := { d.ctl with freshOwed := false } }
    have hactive : (d.joinTaken fresh .recessive).ctl
        = { d.ctl with freshOwed := false, state := .active, joinStage := none } := by rw [hjoin, heq]
    have hnl : ((d.joinTaken fresh .recessive).tellAlone s.liu.alone).station ≠ .leaving := by
      rw [State.station, State.tellAlone_ctl, hactive]
      simp
    rw [State.testDrain_of_not_leaving hnl] at hexec'
    obtain ⟨hothers, hbid, hlapse, -⟩ := State.enterActive_choices (s := { d with ctl := { d.ctl with freshOwed := false } })
      hqueue hclear
    refine ⟨_, hexec', hkept, himg, hfail, halone, ?_⟩
    rw [State.tellAlone_table, State.tellAlone_held, State.tellAlone_origin, State.tellAlone_ctl, State.tellAlone_queue,
      State.joinTaken_table, State.joinTaken_held, State.joinTaken_origin, hactive, hctl, hjoin]
    refine ⟨htable, hheld, horigin, rfl, ?_, fun h => (by cases h), fun _ => ⟨hbid.tellAlone _, hlapse.tellAlone _⟩, fun _ => ?_⟩
    · refine Eq.trans ?_ (hothers.trans hq)
      simp only [withoutPlace, List.filter_filter]
      exact List.filter_congr fun g _ => by simp
    · refine State.tellsJoined_tellAlone ?_ _
      rw [heq]
      exact State.tellsJoined_raiseJoined _

end Sys2Proof.Machine
end

section
/-! SUPPORT. The Frame Queue through the handling of a taken frame (R19, R42, R87, R133). -/

namespace Sys2Proof.Machine

/-- R133: a frame that the removal of an entry takes back. -/
abbrev QueuedFrame.takenBack (g : QueuedFrame) (id : Identity) : Prop :=
  g.frame.place = .identity id ∧ g.frame.isWithdraw = true ∧ g.onLine = false

/-- R9, R20: the entry of a removal report is gone. -/
theorem findEntry_of_removed {me : Address} {b : Bool} {t : List Entry} {f : Frame} {id : Identity} {a : Attempt}
    {c : RemovalCause} (h : Report.removed id a c ∈ (applyFrame me b t f).reports) :
    findEntry (applyFrame me b t f).table id = none := by
  have hreopen : ∀ (e : Entry) (cause : ReopenCause) (from_ : Address),
      Report.removed id a c ∈ (reopen t e cause from_).reports → findEntry (reopen t e cause from_).table id = none := by
    intro e cause from_ hr
    unfold reopen at hr ⊢
    split at hr
    · rw [if_pos (by assumption)]
      obtain ⟨rfl, -, -⟩ := Report.removed.inj (List.mem_singleton.mp hr)
      exact findEntry_removeEntry_self _ _
    · cases List.mem_singleton.mp hr
  unfold applyFrame at h ⊢
  split at h
  swap
  · cases h
  rw [if_pos (by assumption)]
  obtain ⟨head, body⟩ := f
  cases body with
  | raise => cases List.mem_singleton.mp h
  | bid => cases List.mem_singleton.mp h
  | finish result =>
    obtain ⟨rfl, -, -⟩ := Report.removed.inj (List.mem_singleton.mp h)
    exact findEntry_removeEntry_self _ _
  | release reserved =>
    simp only [applyKind] at h ⊢
    cases he : findEntry t head.id with
    | none => simp [he, Applied.unchanged] at h
    | some e =>
      rw [he] at h
      exact hreopen e _ _ h
  | lapse =>
    simp only [applyKind] at h ⊢
    cases he : findEntry t head.id with
    | none => simp [he, Applied.unchanged] at h
    | some e =>
      rw [he] at h
      exact hreopen e _ _ h
  | withdraw =>
    simp only [applyKind] at h ⊢
    cases he : findEntry t head.id with
    | none => simp [he, Applied.unchanged] at h
    | some e =>
      rw [he] at h
      obtain ⟨rfl, -, -⟩ := Report.removed.inj (List.mem_singleton.mp h)
      exact findEntry_removeEntry_self _ _
  | join fresh =>
    cases fresh with
    | false => cases h
    | true =>
      simp only [applyKind, if_true, List.mem_map, List.mem_filter, decide_eq_true_eq] at h ⊢
      obtain ⟨e, ⟨-, ho⟩, he⟩ := h
      obtain ⟨rfl, -, -⟩ := Report.removed.inj he
      exact findEntry_none.mpr fun x hx hid => by
        simp only [List.mem_filter, decide_eq_true_eq] at hx
        exact hx.2 (hid ▸ ho)
  | restate cls limit deadline claimed station remaining =>
    simp only [applyKind, applyRestate, restatedExpiry] at h
    cases he : findEntry t head.id with
    | none =>
      rw [he] at h
      simp only [List.mem_cons, reduceCtorEq, false_or] at h
      split at h <;> simp at h
    | some e =>
      rw [he] at h
      simp only at h
      split at h
      · simp [Applied.unchanged] at h
      · simp only [List.mem_cons, reduceCtorEq, false_or] at h
        split at h <;> simp at h

/-- R133: what a removal report takes out of the queue. -/
theorem State.reportOrigin_queue (s : State) (id : Identity) (c : RemovalCause) :
    ∃ k : QueuedFrame → Bool, (s.reportOrigin id c).queue = s.queue.filter k ∧ ∀ g, k g = false → g.takenBack id := by
  have hsame : ∃ k : QueuedFrame → Bool, s.queue = s.queue.filter k ∧ ∀ g, k g = false → g.takenBack id :=
    ⟨fun _ => true, (List.filter_eq_self.mpr fun _ _ => rfl).symm, fun _ h => by cases h⟩
  have hremoved : ∀ (o : FinalOutcome) (m : Notice),
      ∃ k : QueuedFrame → Bool, (s.originRemoved id o m).queue = s.queue.filter k ∧ ∀ g, k g = false → g.takenBack id := by
    intro o m
    unfold State.originRemoved
    split
    · exact hsame
    · split
      · exact ⟨_, rfl, fun g hg => by simpa using hg⟩
      · exact hsame
  unfold State.reportOrigin
  split
  · cases c with
    | finished => exact hremoved _ _
    | abandoned => exact hremoved _ _
    | withdrawn => exact hremoved _ _
    | originRestarted => exact hsame
  · exact hsame

/-- R19, R133: of the queue, one report takes out at most the WITHDRAW of the entry that it removes. -/
theorem State.deliver_queue {b : Bool} {s : State} (f : Frame) (hs : b = false ∨ s.station ≠ .leaving) (r : Report) :
    ∃ k : QueuedFrame → Bool, (State.deliver b f s r).queue = s.queue.filter k
      ∧ ∀ g, k g = false → ∃ id a c, r = .removed id a c ∧ g.takenBack id := by
  have hsame : ∀ u : State, u.queue = s.queue → ∃ k : QueuedFrame → Bool, u.queue = s.queue.filter k
      ∧ ∀ g, k g = false → ∃ id a c, r = .removed id a c ∧ g.takenBack id := fun u hu =>
    ⟨fun _ => true, hu.trans (List.filter_eq_self.mpr fun _ _ => rfl).symm, fun _ h => by cases h⟩
  cases r with
  | removed id a c =>
    obtain ⟨k, hk, hgone⟩ := s.reportOrigin_queue id c
    refine ⟨k, ?_, fun g hg => ⟨id, a, c, rfl, hgone g hg⟩⟩
    dsimp only [State.deliver]
    split
    · exact hk
    · rw [State.revoke_queue]
      exact hk
  | claimed id a n =>
    refine hsame _ ?_
    dsimp only [State.deliver]
    split
    · rename_i hwon
      have hno : ¬ decide (s.station = .leaving) = true := by
        rcases hs with rfl | hs
        · exact absurd hwon.1 Bool.false_ne_true
        · simpa using hs
      simp only [State.createHeld, if_neg hno]
    · rfl
  | reopened id c a n =>
    refine hsame _ ?_
    dsimp only [State.deliver]
    split
    · rfl
    · exact State.revoke_queue _ _ _
  | updated id c n => exact hsame _ (State.revoke_queue _ _ _)
  | inserted id c => exact hsame _ rfl
  | expired id a => exact hsame _ (State.noticeDeadline_queue _ _ _)

theorem State.foldl_deliver_queue {b : Bool} (f : Frame) : ∀ (l : List Report) {s : State},
    b = false ∨ s.station ≠ .leaving →
    ∃ k : QueuedFrame → Bool, (l.foldl (State.deliver b f) s).queue = s.queue.filter k
      ∧ ∀ g, k g = false → ∃ id a c, Report.removed id a c ∈ l ∧ g.takenBack id
  | [], s, _ => ⟨fun _ => true, (List.filter_eq_self.mpr fun _ _ => rfl).symm, fun _ h => by cases h⟩
  | r :: l, s, hs => by
    obtain ⟨k, hk, hkr⟩ := State.deliver_queue f hs r
    have hstation : (State.deliver b f s r).station = s.station := congrArg Controller.state (s.deliver_ctl b f r)
    obtain ⟨k', hk', hkl⟩ := State.foldl_deliver_queue f l (s := State.deliver b f s r) (hstation ▸ hs)
    refine ⟨fun g => k g && k' g, ?_, fun g hg => ?_⟩
    · rw [List.foldl_cons, hk', hk, List.filter_filter]
      exact List.filter_congr fun g _ => Bool.and_comm _ _
    · rcases Bool.and_eq_false_iff.mp hg with hg | hg
      · obtain ⟨id, a, c, rfl, hback⟩ := hkr g hg
        exact ⟨id, a, c, List.mem_cons_self, hback⟩
      · obtain ⟨id, a, c, hmem, hback⟩ := hkl g hg
        exact ⟨id, a, c, List.mem_cons_of_mem _ hmem, hback⟩

/-- R19: the state once the purge is done, before the re-choices. -/
def State.purged (s : State) (b : Bool) (f : Frame) : State :=
  ((s.reported b f).restatementDuty f (applies s.address b s.table f)).purge

theorem State.handleTaken_purged (s : State) (b : Bool) (f : Frame) :
    s.handleTaken b f = (s.purged b f).remakeLapse.remakeBid := rfl

section
variable {s : State} {b : Bool} {f : Frame}

theorem State.purged_ctl : (s.purged b f).ctl = s.ctl := by
  have h := s.handleTaken_ctl b f
  rwa [State.handleTaken_purged, State.remakeBid_ctl, State.remakeLapse_ctl] at h

theorem State.purged_table : (s.purged b f).table = (applyFrame s.address b s.table f).table := by
  have h := s.handleTaken_table b f
  rwa [State.handleTaken_purged, State.remakeBid_table, State.remakeLapse_table] at h

theorem State.purged_address : (s.purged b f).address = s.address := by
  have h := s.handleTaken_address b f
  rwa [State.handleTaken_purged, State.remakeBid_address, State.remakeLapse_address] at h

/-- R42: the RESTATEs that a JOIN calls for, behind the rest. -/
theorem State.restatementDuty_queue (hn : (s.origin.map OriginRecord.serial).Nodup) (c : Bool) :
    ∃ posted : List QueuedFrame, ((s.reported b f).restatementDuty f c).queue = (s.reported b f).queue ++ posted
      ∧ ∀ g ∈ posted, g.onLine = false ∧ (∃ fresh, f.body = .join fresh)
          ∧ ∃ r ∈ s.origin, r.state = .live ∧ g.frame = .restate (s.ownId r.serial) := by
  by_cases hb : ∃ fresh, f.body = .join fresh
  · obtain ⟨fresh, hb⟩ := hb
    obtain ⟨horigin, -⟩ := State.reported_of_join (s := s) (b := b) hb
    rw [State.restatementDuty_of_join hb]
    split
    · rename_i h
      rw [State.restateAll_eq h.2 (by rw [horigin]; exact hn), horigin]
      refine ⟨_, rfl, fun g hg => ?_⟩
      obtain ⟨r, hr, rfl⟩ := List.mem_map.mp hg
      obtain ⟨hr, howes⟩ := List.mem_filter.mp hr
      refine ⟨rfl, ⟨fresh, hb⟩, r, hr, (of_decide_eq_true howes).1, ?_⟩
      simp [State.restateOf, State.ownId]
    · exact ⟨[], (List.append_nil _).symm, fun _ h => by cases h⟩
  · rw [State.restatementDuty_of_other fun fresh hf => hb ⟨fresh, hf⟩]
    exact ⟨[], (List.append_nil _).symm, fun _ h => by cases h⟩

/-- R19: before the re-choices the queue is what it was, without the superseded frames and the WITHDRAWs of entries that
are gone, and with the RESTATEs that a JOIN calls for behind the rest. -/
theorem State.purged_queue (hn : (s.origin.map OriginRecord.serial).Nodup) (hs : b = false ∨ s.station ≠ .leaving) :
    ∃ (k : QueuedFrame → Bool) (posted : List QueuedFrame),
      (s.purged b f).queue
        = (s.queue.filter fun g => k g ∧ (g.onLine = true ∨ superseded (s.purged b f).table s.address g.frame = false)) ++ posted
      ∧ (∀ g, k g = false → ∃ id, findEntry (s.purged b f).table id = none ∧ g.takenBack id)
      ∧ ∀ g ∈ posted, g.onLine = false ∧ (∃ fresh, f.body = .join fresh)
          ∧ ∃ r ∈ s.origin, r.state = .live ∧ g.frame = .restate (s.ownId r.serial) := by
  obtain ⟨k, hk, hgone⟩ := State.foldl_deliver_queue f (applyFrame s.address b s.table f).reports
    (s := { s with table := (applyFrame s.address b s.table f).table }) hs
  obtain ⟨posted, hposted, hcalls⟩ := State.restatementDuty_queue (s := s) (b := b) (f := f) hn
    (applies s.address b s.table f)
  have hduty : ((s.reported b f).restatementDuty f (applies s.address b s.table f)).queue = s.queue.filter k ++ posted :=
    hposted.trans (congrArg (· ++ posted) hk)
  have htable : ((s.reported b f).restatementDuty f (applies s.address b s.table f)).table = (s.purged b f).table := rfl
  have haddress : ((s.reported b f).restatementDuty f (applies s.address b s.table f)).address = s.address :=
    State.purged_address
  refine ⟨k, posted.filter fun g => g.onLine ∨ ¬ superseded (s.purged b f).table s.address g.frame, ?_, fun g hg => ?_,
    fun g hg => hcalls g (List.mem_filter.mp hg).1⟩
  · have hpurge : (s.purged b f).queue = ((s.reported b f).restatementDuty f (applies s.address b s.table f)).queue.filter
        fun g => g.onLine ∨ ¬ superseded (s.purged b f).table
          ((s.reported b f).restatementDuty f (applies s.address b s.table f)).address g.frame := rfl
    rw [hpurge, haddress, hduty, List.filter_append, List.filter_filter]
    refine congrArg (· ++ _) (List.filter_congr fun g _ => ?_)
    cases k g <;> simp
  · obtain ⟨id, a, c, hmem, hback⟩ := hgone g hg
    exact ⟨id, by rw [State.purged_table]; exact findEntry_of_removed hmem, hback⟩

end

end Sys2Proof.Machine
end

section
/-! SUPPORT. The BID and LAPSE places after a taken frame (R17, R19, R100 to R102). -/

namespace Sys2Proof.Machine

/-- R17: the LAPSE place follows the choice, with the entry's priority where the place was empty before. -/
def State.LapseMade (empty : Prop) (t : State) : Prop :=
  t.LapsePlaceFollows ∧ (empty → ∀ e ∈ t.table, t.OldestExpired e →
    framePlaced t.queue .lapse = some { frame := .lapse e.id e.priority e.attempt, onLine := false })

theorem State.LapseMade.congr {empty : Prop} {s t : State} (h : s.LapseMade empty) {p : Place}
    (hq : withoutPlace t.queue p = withoutPlace s.queue p) (hp : p ≠ .lapse) (ht : t.table = s.table) : t.LapseMade empty := by
  obtain ⟨hfollows, hfilled⟩ := h
  refine ⟨hfollows.congr hq hp ht, fun he e hmem hold => ?_⟩
  rw [State.OldestExpired, ht] at hold
  rw [framePlaced_of_others hq hp.symm]
  exact hfilled he e (ht ▸ hmem) hold

/-- R17: the LAPSE place, re-made over a queue whose LAPSE is not superseded. -/
theorem State.lapseMade_remakeLapse {s : State} (hs : s.station = .active) (hq : s.QueueLaw)
    (ht : (s.table.map Entry.id).Nodup) (hoff : ∀ g ∈ s.queue, g.frame.place = .lapse → g.onLine = false)
    (hsup : ∀ g ∈ s.queue, g.frame.place = .lapse → superseded s.table s.address g.frame = false) {empty : Prop}
    (hempty : empty → framePlaced s.queue .lapse = none) : s.remakeLapse.LapseMade empty := by
  refine ⟨State.lapsePlaceFollows_remakeLapse hs hq.1 hoff fun g hg e he p a hf _ => ?_, fun hh e he hold => ?_⟩
  · have hno := hsup g hg (by rw [hf]; rfl)
    rw [hf, superseded, findEntry_of_mem ht he] at hno
    simp only [decide_eq_false_iff_not, not_not] at hno
    exact hno.2.symm
  · rw [State.OldestExpired, State.remakeLapse_table] at hold
    rw [State.remakeLapse_table] at he
    have hplace := hempty hh
    rw [State.remakeLapse_queue_of_empty hs hplace (State.lapseChoice_some.mpr ⟨he, hold⟩)]
    exact framePlaced_append_self (g := ⟨e.lapse, false⟩) hplace

section
variable {s : State} {b : Bool} {f : Frame} (hlaw : s.QueueLaw) (htable : s.TableLaw)
  (hn : (s.origin.map OriginRecord.serial).Nodup) (hstore : storageObjects s.address b s.table f = false)
  (hactive : s.station = .active)
include hlaw htable hstore

omit htable in
theorem State.purged_queueLaw : (s.purged b f).QueueLaw := by
  have hchanged : s.KeepsLine { s with table := (applyFrame s.address b s.table f).table } :=
    (s.keeps_table _ (tableLaw_applyFrame hstore)).keepsLine_of_queue rfl
  exact (((hchanged.trans (State.KeepsLine.foldl (State.keepsLine_deliver b f) _ _)).trans
    (State.keepsLine_restatementDuty _ _ _)).trans (State.keepsLine_purge _) hlaw).1

omit hlaw in
theorem State.purged_tableLaw : (s.purged b f).TableLaw := by
  rw [State.TableLaw, State.purged_table]
  exact tableLaw_applyFrame hstore htable

include hn hactive

omit hlaw htable hstore in
/-- R19: until the re-choices no BID and no LAPSE enters the queue. -/
theorem State.mem_of_purged {g : QueuedFrame} (hg : g ∈ (s.purged b f).queue)
    (hp : g.frame.place = .bid ∨ g.frame.place = .lapse) :
    g ∈ s.queue ∧ (g.onLine = true ∨ superseded (s.purged b f).table (s.purged b f).address g.frame = false) := by
  obtain ⟨k, posted, hqueue, -, hposted⟩ := State.purged_queue (b := b) (f := f) hn (.inr (by rw [hactive]; decide))
  rw [hqueue] at hg
  rcases List.mem_append.mp hg with hg | hg
  · obtain ⟨hg, hkeep⟩ := List.mem_filter.mp hg
    rw [State.purged_address]
    exact ⟨hg, (of_decide_eq_true hkeep).2⟩
  · obtain ⟨-, -, r, -, -, hf⟩ := hposted g hg
    rw [hf] at hp
    rcases hp with hp | hp <;> cases hp

/-- R17, R19: the handling of a taken frame has the LAPSE place re-made. -/
theorem State.handleTaken_lapseMade (hoff : ∀ g ∈ s.queue, g.frame.place = .lapse → g.onLine = false) :
    (s.handleTaken b f).LapseMade (framePlaced s.queue .lapse = none) := by
  have hpurged := State.purged_queueLaw hlaw hstore
  have hptable := State.purged_tableLaw htable hstore
  have hmem := fun g hg hp => State.mem_of_purged (b := b) (f := f) hn hactive (g := g) hg (.inr hp)
  rw [State.handleTaken_purged]
  refine State.LapseMade.congr (p := .bid) (State.lapseMade_remakeLapse ?_ hpurged hptable.2 (fun g hg hp => ?_)
    (fun g hg hp => ?_) fun hempty => ?_) (State.withoutPlace_remakeBid _) (by simp) (State.remakeBid_table _)
  · rw [State.station, State.purged_ctl]
    exact hactive
  · exact hoff g (hmem g hg hp).1 hp
  · exact (hmem g hg hp).2.resolve_left (by simp [hoff g (hmem g hg hp).1 hp])
  · exact framePlaced_none.mpr fun g hg hp => framePlaced_none.mp hempty g (hmem g hg hp).1 hp

omit htable in
/-- R101, R19: the handling of a taken frame has the BID place re-made. -/
theorem State.handleTaken_bidFollows (hoff : ∀ g ∈ s.queue, g.frame.place = .bid → g.onLine = false) :
    (s.handleTaken b f).BidPlaceFollows := by
  have hpurged := (State.keepsLine_remakeLapse (s.purged b f) (State.purged_queueLaw hlaw hstore)).1
  rw [State.handleTaken_purged]
  refine State.bidPlaceFollows_remakeBid ?_ hpurged.1 fun g hg hp => ?_
  · rw [State.station, State.remakeLapse_ctl, State.purged_ctl]
    exact hactive
  · refine hoff g (State.mem_of_purged (b := b) (f := f) hn hactive ?_ (.inl hp)).1 hp
    exact (mem_of_others (State.withoutPlace_remakeLapse _) (by simp [hp])).mp hg

end

/-! ### Own frames -/

/-- R89: the dropped frame is the only one that leaves. -/
theorem State.withoutPlace_dropFrame {s : State} (h : s.QueueLaw) {q : QueuedFrame} (hq : s.frameOnLine = some q) :
    withoutPlace s.dropFrame.queue q.frame.place = withoutPlace s.queue q.frame.place :=
  withoutPlace_filter fun g hg hp => by
    have hoff : ¬ g.onLine = true := fun hon => hp (by rw [h.onLine_unique hq hg hon])
    simpa using hoff

theorem State.toldTaken_ctl {s : State} (a : Level) {q : Queued} (hq : ∀ fresh, q ≠ .join fresh) :
    (s.toldTaken a q).ctl = s.ctl := by
  cases q with
  | raise | restate =>
    simp only [State.toldTaken]
    split
    · rfl
    · split <;> simp
  | withdraw => rfl
  | bid | lapse | finish | release => simp [State.toldTaken]
  | join fresh => exact absurd rfl (hq fresh)

/-- R89: what the poster of a frame in an identity place does, it does in an identity place. -/
theorem State.toldTaken_identity {s : State} (a : Level) {q : Queued} {id : Identity} (hp : q.place = .identity id) :
    (s.toldTaken a q).held = s.held
      ∧ ∃ i : Identity, withoutPlace (s.toldTaken a q).queue (.identity i) = withoutPlace s.queue (.identity i) := by
  have hpost : ∀ (u : State) (n : Serial),
      withoutPlace (u.postWithdraw n).queue (.identity (u.ownId n)) = withoutPlace u.queue (.identity (u.ownId n)) :=
    fun u n => u.withoutPlace_post (.withdraw (u.ownId n) _)
  cases q with
  | raise i cls priority limit deadline payload =>
    simp only [State.toldTaken]
    split
    · exact ⟨rfl, id, rfl⟩
    · split
      · exact ⟨State.beginWithdraw_held _ _, _, hpost _ _⟩
      · exact ⟨rfl, id, rfl⟩
  | restate i =>
    simp only [State.toldTaken]
    split
    · exact ⟨rfl, id, rfl⟩
    · split
      · exact ⟨State.postWithdraw_held _ _, _, hpost _ _⟩
      · exact ⟨rfl, id, rfl⟩
  | withdraw => exact ⟨rfl, id, rfl⟩
  | bid | lapse | finish | release | join => cases hp

section
variable {s : State} {q : Queued} {f : Frame} (hlaw : s.Lawful) (hs : s.sends q f) (hstores : s.stores f = true)
  (accept : Level)
include hlaw hs hstores

/-- R17, R19, R100 to R102: the two places after a taken frame of this station that leaves it ACTIVE. -/
theorem State.Lawful.choices_of_own (hactive : ((s.ownDropped f accept).toldTaken accept q).station = .active) :
    ((s.ownDropped f accept).toldTaken accept q).BidPlaceFollows
      ∧ ((s.ownDropped f accept).toldTaken accept q).LapseMade (framePlaced s.queue .lapse = none) := by
  obtain ⟨hqueue, hline⟩ := hlaw.ownHandled_queueLaw hs hstores (accept := accept)
  have hdropped := hlaw.ownDropped_queueLaw hs hstores (accept := accept)
  have hempty := hlaw.place_of_ownDropped hs hstores (accept := accept)
  have hothers : withoutPlace (s.ownDropped f accept).queue q.place
      = withoutPlace ((s.endOwn f accept).handleTaken true f).queue q.place := State.withoutPlace_dropFrame hqueue hline
  have hoff := State.ownDropped_off (s := s) (f := f) (accept := accept)
  by_cases hjoin : ∃ fresh, q = .join fresh
  · obtain ⟨fresh, rfl⟩ := hjoin
    obtain ⟨-, -, -, hsent, -, -⟩ := hlaw.sends_frame hs
    obtain ⟨head, body⟩ := f
    obtain rfl : body = .join fresh := Queued.join_of_sentAs hsent rfl
    obtain ⟨hlisten, -, hfresh, -, -⟩ := hlaw.sends_join hs
    have hclear := hlaw.ownDropped_join_clear hs (accept := accept)
    have hctl := State.ownDropped_ctl (s := s) (f := { head := head, body := .join fresh }) (accept := accept)
    have htold : (s.ownDropped { head := head, body := .join fresh } accept).toldTaken accept (.join fresh)
        = (s.ownDropped { head := head, body := .join fresh } accept).joinTaken fresh accept := rfl
    rw [htold] at hactive ⊢
    generalize s.ownDropped { head := head, body := .join fresh } accept = d at *
    have howed : fresh = d.ctl.freshOwed := by rw [hctl]; exact hfresh
    cases accept with
    | dominant =>
      have hstate : d.ctl.state = .listen := (congrArg Controller.state hctl).trans hlisten
      rw [State.joinTaken_accepted howed, State.station, hstate] at hactive
      cases hactive
    | recessive =>
      rw [State.joinTaken_alone howed]
      obtain ⟨-, hbid, hlapse, hfilled⟩ := State.enterActive_choices
        (s := { d with ctl := { d.ctl with freshOwed := false } }) hdropped hclear
      exact ⟨hbid, hlapse, fun _ e he hold => hfilled e (State.lapseChoice_some.mpr ⟨he, hold⟩)⟩
  have hctl := State.toldTaken_ctl (s := s.ownDropped f accept) accept fun fresh h => hjoin ⟨fresh, h⟩
  rw [State.station, hctl] at hactive
  have hsactive : s.station = .active := (congrArg Controller.state State.ownDropped_ctl).symm.trans hactive
  have hunique : ∀ p, p ≠ q.place → ∀ g ∈ s.queue, g.frame.place = p → g.onLine = false := fun p hp g hg hgp => by
    rw [← Bool.not_eq_true]
    intro hon
    rw [hlaw.lawUpTo.blocks.queue.onLine_unique hs.2.2.2 hg hon] at hgp
    exact hp hgp.symm
  have hobjects := hstores
  rw [State.stores_eq (b := true) (.inl rfl), Bool.not_eq_true'] at hobjects
  have hbid : q.place ≠ .bid → (s.ownDropped f accept).BidPlaceFollows := fun hp =>
    (State.handleTaken_bidFollows (s := s.endOwn f accept) hlaw.lawUpTo.blocks.queue hlaw.origin_nodup hobjects hsactive
      (hunique .bid hp.symm)).congr hothers hp rfl rfl rfl
  have hlapse : q.place ≠ .lapse → (s.ownDropped f accept).LapseMade (framePlaced s.queue .lapse = none) := fun hp =>
    (State.handleTaken_lapseMade (s := s.endOwn f accept) hlaw.lawUpTo.blocks.queue hlaw.lawUpTo.blocks.table
      hlaw.origin_nodup hobjects hsactive (hunique .lapse hp.symm)).congr hothers hp rfl
  generalize s.ownDropped f accept = d at *
  have hidentity : ∀ id, q.place = .identity id → (d.toldTaken accept q).BidPlaceFollows
      ∧ (d.toldTaken accept q).LapseMade (framePlaced s.queue .lapse = none) := fun id hp => by
    obtain ⟨hheld, i, hsame⟩ := State.toldTaken_identity (s := d) accept hp
    exact ⟨(hbid (by simp [hp])).congr hsame (by simp) (State.toldTaken_config _ _ _) (State.toldTaken_table _ _ _) hheld,
      (hlapse (by simp [hp])).congr hsame (by simp) (State.toldTaken_table _ _ _)⟩
  have hsettled : ∀ id, q.place = .held id → (d.settleHeld id).remakeBid.BidPlaceFollows
      ∧ (d.settleHeld id).remakeBid.LapseMade (framePlaced s.queue .lapse = none) := fun id hp => by
    refine ⟨State.bidPlaceFollows_remakeBid ?_ ?_ ?_, (hlapse (by simp [hp])).congr (p := .bid) ?_ (by simp) (by simp)⟩
    · rw [State.station, State.settleHeld_ctl]
      exact hactive
    · rw [State.settleHeld_queue]
      exact hdropped.1
    · rw [State.settleHeld_queue]
      exact fun g hg _ => hoff g hg
    · rw [State.withoutPlace_remakeBid, State.settleHeld_queue]
  cases q with
  | raise => exact hidentity _ rfl
  | restate => exact hidentity _ rfl
  | withdraw => exact hidentity _ rfl
  | finish => exact hsettled _ rfl
  | release => exact hsettled _ rfl
  | bid =>
    exact ⟨State.bidPlaceFollows_remakeBid hactive hdropped.1 fun g hg _ => hoff g hg,
      (hlapse (by simp [Queued.place])).congr (State.withoutPlace_remakeBid _) (by simp) (State.remakeBid_table _)⟩
  | lapse =>
    refine ⟨(hbid (by simp [Queued.place])).congr (State.withoutPlace_remakeLapse _) (by simp) (State.remakeLapse_config _)
      (State.remakeLapse_table _) (State.remakeLapse_held _), State.lapsePlaceFollows_of_empty hactive hdropped hempty,
      fun hnone => ?_⟩
    exact absurd rfl (framePlaced_none.mp hnone _ (State.frameOnLine_some hs.2.2.2).1)
  | join fresh => exact absurd ⟨fresh, rfl⟩ hjoin

end

/-- R151: the drain leaves no station ACTIVE. -/
theorem State.testDrain_of_active {s : State} (h : s.testDrain.station = .active) : s.testDrain = s := by
  refine s.testDrain_cases.resolve_right fun ⟨_, _, _, hdetached⟩ => ?_
  rw [hdetached, State.station, State.enterDetached_ctl] at h
  cases h

theorem State.LapseMade.tellAlone {empty : Prop} {u : State} (h : u.LapseMade empty) (b : Bool) :
    (u.tellAlone b).LapseMade empty :=
  h.congr (p := .bid) (by rw [State.tellAlone_queue]) (by simp) (by rw [State.tellAlone_table])

/-- R17, R19, R100 to R102: the two places after a taken frame of a peer, in ACTIVE. -/
theorem State.Lawful.choices_of_peer {s : State} (hlaw : s.Lawful) {f : Frame} (himage : s.image = none)
    (hsender : f.head.sender ≠ s.address) (hstores : s.stores f = true) (hactive : s.station = .active) :
    (s.heard f).BidPlaceFollows ∧ (s.heard f).LapseMade (framePlaced s.queue .lapse = none) := by
  rw [State.stores_eq (b := false) (.inr hsender), Bool.not_eq_true'] at hstores
  have hoff := hlaw.lawUpTo.off_of_no_image himage
  exact ⟨(State.handleTaken_bidFollows (s := s.endPeer f) hlaw.lawUpTo.blocks.queue hlaw.origin_nodup hstores hactive
      fun g hg _ => hoff g hg).tellAlone _,
    (State.handleTaken_lapseMade (s := s.endPeer f) hlaw.lawUpTo.blocks.queue hlaw.lawUpTo.blocks.table hlaw.origin_nodup
      hstores hactive fun g hg _ => hoff g hg).tellAlone _⟩

/-- Settles O36. -/
theorem placesFollowTheChoices : Obligations.PlacesFollowTheChoices := by
  unfold Obligations.PlacesFollowTheChoices
  intro s f accept hlaw hstores
  have hexec := exec_frameCommand f accept s
  refine ⟨_, hexec, ?_⟩
  rintro (⟨hhears, hsender, hgood, hactive⟩ | ⟨⟨q, hs⟩, hactive⟩)
  · obtain ⟨hbid, hlapse, hfilled⟩ := hlaw.choices_of_peer hhears.2.1 hsender hstores hactive
    have hstation : (s.heard f).station = .active := by
      rw [State.heard, State.station, State.tellAlone_ctl, State.handleTaken_ctl]
      exact hactive
    rw [Host.Outcome.next.inj (hexec.symm.trans (exec_of_taken hhears hgood accept hsender hstores)),
      State.testDrain_of_not_leaving (by rw [hstation]; decide)]
    exact ⟨hbid, hlapse, hfilled⟩
  · rw [Host.Outcome.next.inj (hexec.symm.trans (hlaw.exec_of_ownTaken hs hstores))] at hactive ⊢
    have hsame := State.testDrain_of_active hactive
    rw [hsame] at hactive ⊢
    rw [State.station, State.tellAlone_ctl] at hactive
    obtain ⟨hbid, hlapse⟩ := hlaw.choices_of_own hs hstores accept hactive
    obtain ⟨hlapse, hfilled⟩ := hlapse.tellAlone s.liu.alone
    exact ⟨hbid.tellAlone _, hlapse, hfilled⟩

end Sys2Proof.Machine
end

section
/-! SUPPORT. No superseded frame waits after a taken frame, and what of the queue a peer's frame leaves (R87, R88, R133). -/

namespace Sys2Proof.Machine

/-- R87, R94: with no own frame on the Line, and the two places of ACTIVE following their choices, no frame waits that the
table has superseded. -/
theorem State.LawUpTo.none_superseded {t : State} (h : t.LawUpTo .none) (himage : t.image = none)
    (hchoices : t.station = .active → t.BidPlaceFollows ∧ t.LapsePlaceFollows) :
    ∀ g ∈ t.queue, superseded t.table t.address g.frame = false := by
  intro g hg
  have hoff := h.off_of_no_image himage g hg
  have htable := h.blocks.table.2
  by_cases hbid : g.frame.place = .bid
  · have hactive := (State.standsFor_bid hbid).mp (h.standing hg) |>.1.resolve_right (by simp [hoff])
    obtain ⟨e, he, hframe, hmay, -⟩ := (hchoices hactive).1.2 g hg hbid
    obtain ⟨hopen, -⟩ := State.mayBid_iff.mp hmay
    rw [hframe, superseded, findEntry_of_mem htable he]
    simp [hopen]
  · by_cases hlapse : g.frame.place = .lapse
    · have hactive := (State.standsFor_lapse hlapse).mp (h.standing hg) |>.resolve_right (by simp [hoff])
      obtain ⟨e, he, ⟨hexpired, -⟩, p, hframe⟩ := (hchoices hactive).2.2 g hg hlapse
      have hclaim : e.claim.isSome = true := by
        cases hc : e.claim with
        | none => simp [hc] at hexpired
        | some c => rfl
      rw [hframe, superseded, findEntry_of_mem htable he]
      simp [hclaim]
    · exact h.not_superseded hg hbid hlapse

/-- R133: a WITHDRAW waits only while its entry stands. -/
def Queued.entryStands (t : List Entry) : Queued → Bool
  | .withdraw id _ => (findEntry t id).isSome
  | _ => true

/-- The frames outside the BID and LAPSE places that a table leaves in the queue (Table 4-5, R133). -/
def QueuedFrame.staysIn (t : List Entry) (me : Address) (g : QueuedFrame) : Bool :=
  ¬ (g.frame.place = .bid ∨ g.frame.place = .lapse) ∧ superseded t me g.frame = false ∧ g.frame.entryStands t = true

theorem QueuedFrame.staysIn_of_nil {me : Address} {g : QueuedFrame} (h : g.staysIn [] me = true) (t : List Entry) :
    g.staysIn t me = true := by
  obtain ⟨frame, onLine⟩ := g
  cases frame with
  | raise | join => rfl
  | withdraw => simp [QueuedFrame.staysIn, Queued.entryStands, findEntry] at h
  | bid | lapse => simp [QueuedFrame.staysIn, Queued.place] at h
  | restate | finish | release => simp [QueuedFrame.staysIn, superseded, claimedBy, findEntry] at h

/-- The frames outside the BID and LAPSE places. -/
def unchosen (q : List QueuedFrame) : List QueuedFrame :=
  q.filter fun g => ¬ (g.frame.place = .bid ∨ g.frame.place = .lapse)

theorem State.unchosen_remakeBid (s : State) : unchosen s.remakeBid.queue = unchosen s.queue := by
  have hsplit : ∀ q : List QueuedFrame, unchosen q = (withoutPlace q .bid).filter fun g => g.frame.place ≠ .lapse := fun q => by
    rw [withoutPlace_eq_filter, List.filter_filter]
    exact List.filter_congr fun g _ => by simp [Bool.and_comm]
  rw [hsplit, hsplit, State.withoutPlace_remakeBid]

theorem State.unchosen_remakeLapse (s : State) : unchosen s.remakeLapse.queue = unchosen s.queue := by
  have hsplit : ∀ q : List QueuedFrame, unchosen q = (withoutPlace q .lapse).filter fun g => g.frame.place ≠ .bid := fun q => by
    rw [withoutPlace_eq_filter, List.filter_filter]
    exact List.filter_congr fun g _ => by simp
  rw [hsplit, hsplit, State.withoutPlace_remakeLapse]

/-- R132, R133: a WITHDRAW waits for a record whose entry stands. -/
theorem State.LawUpTo.entryStands {s : State} (h : s.LawUpTo .none) {g : QueuedFrame} (hg : g ∈ s.queue) :
    g.frame.entryStands s.table = true := by
  have hst := h.standing hg
  obtain ⟨frame, onLine⟩ := g
  cases frame with
  | withdraw id p =>
    obtain ⟨ho, r, hr, hserial, hb⟩ := (State.standsFor_identity (id := id) (by rfl)).mp hst
    have hst : r.state = .withdrawing := hb
    obtain ⟨e, he, hid⟩ := h.entry_of_inPool hr (by simp [OriginRecord.inPool, hst])
    rw [hserial, State.ownId_of_origin ho] at hid
    exact findEntry_isSome.mpr ⟨e, he, hid⟩
  | raise | restate | bid | lapse | finish | release | join => rfl

/-- R87, R88: what a taken frame of a peer leaves of the queue outside the BID and LAPSE places. -/
theorem State.Lawful.unchosen_heard {s : State} (hlaw : s.Lawful) {f : Frame} (hl : s.liuHeld = false)
    (himage : s.image = none) (hstore : storageObjects s.address false s.table f = false) :
    ∃ posted : List QueuedFrame,
      unchosen (s.heard f).queue = (s.queue.filter (QueuedFrame.staysIn (s.heard f).table s.address)) ++ posted
      ∧ ∀ g ∈ posted, g.onLine = false ∧ (∃ fresh, f.body = .join fresh)
          ∧ ∃ r ∈ s.origin, r.state = .live ∧ g.frame = .restate (s.ownId r.serial) := by
  have hheard := hlaw.lawUpTo.heard hl himage hstore
  have hoff := hlaw.lawUpTo.off_of_no_image himage
  obtain ⟨k, posted, hqueue, hgone, hposted⟩ := State.purged_queue (s := s.endPeer f) (b := false) (f := f)
    hlaw.origin_nodup (.inl rfl)
  have hsame : unchosen (s.heard f).queue = unchosen ((s.endPeer f).purged false f).queue := by
    rw [State.heard_queue, State.handleTaken_purged, State.unchosen_remakeBid, State.unchosen_remakeLapse]
  have htable : ((s.endPeer f).purged false f).table = (s.heard f).table := by
    rw [State.purged_table, State.heard_table]
    rfl
  rw [htable] at hqueue hgone
  have hkept : unchosen posted = posted := List.filter_eq_self.mpr fun g hg => by
    obtain ⟨-, -, r, -, -, hf⟩ := hposted g hg
    simp [hf, Queued.place]
  refine ⟨posted, ?_, hposted⟩
  rw [hsame, hqueue, unchosen, List.filter_append]
  refine congrArg₂ (· ++ ·) ?_ hkept
  rw [List.filter_filter]
  refine List.filter_congr fun g hg => ?_
  rw [QueuedFrame.staysIn, Bool.eq_iff_iff]
  have hg' : g ∈ s.queue := hg
  simp only [Bool.and_eq_true, decide_eq_true_eq, hoff g hg', Bool.false_eq_true, false_or, State.endPeer_address]
  refine and_congr_right fun hchosen => ⟨fun ⟨hk, hsup⟩ => ⟨hsup, ?_⟩, fun ⟨hsup, hstands⟩ => ⟨?_, hsup⟩⟩
  · refine hheard.entryStands (g := g) ?_
    have hmem : g ∈ unchosen (s.heard f).queue := by
      rw [hsame, hqueue]
      refine List.mem_filter.mpr ⟨List.mem_append_left _ (List.mem_filter.mpr ⟨hg, ?_⟩), decide_eq_true hchosen⟩
      simp [hk, hsup]
    exact (List.mem_filter.mp hmem).1
  · by_contra hk
    obtain ⟨id, hnone, hplace, hwithdraw, -⟩ := hgone g (by simpa using hk)
    obtain ⟨frame, onLine⟩ := g
    cases frame with
    | withdraw i p =>
      obtain rfl := Place.identity.inj hplace
      simp [Queued.entryStands, hnone] at hstands
    | raise | restate | bid | lapse | finish | release | join => cases hwithdraw

/-- R151: a drain that is complete leaves of no queue anything. -/
theorem State.Lawful.unchosen_drained {s : State} (hlaw : s.Lawful) {f : Frame} (hl : s.liuHeld = false)
    (himage : s.image = none) (hstore : storageObjects s.address false s.table f = false) :
    ∃ posted : List QueuedFrame,
      unchosen (s.heard f).testDrain.queue
        = (s.queue.filter (QueuedFrame.staysIn (s.heard f).testDrain.table s.address)) ++ posted
      ∧ ∀ g ∈ posted, g.onLine = false ∧ (∃ fresh, f.body = .join fresh)
          ∧ ∃ r ∈ s.origin, r.state = .live ∧ g.frame = .restate (s.ownId r.serial) := by
  obtain ⟨posted, hqueue, hposted⟩ := hlaw.unchosen_heard hl himage hstore
  rcases (s.heard f).testDrain_cases with hsame | ⟨-, -, hcomplete, hdetached⟩
  · rw [hsame]
    exact ⟨posted, hqueue, hposted⟩
  · have hempty : (s.heard f).queue = [] := (of_decide_eq_true hcomplete).2.2.1
    rw [hempty] at hqueue
    obtain ⟨hnone, -⟩ := List.append_eq_nil_iff.mp hqueue.symm
    have htable : (s.heard f).testDrain.table = [] := by rw [hdetached]; exact State.raiseCause_table _ _
    refine ⟨[], ?_, fun _ h => by cases h⟩
    rw [State.testDrain_queue, hempty, htable, List.filter_eq_nil_iff.mpr fun g hg hstays => ?_]
    · rfl
    · exact List.filter_eq_nil_iff.mp hnone g hg (QueuedFrame.staysIn_of_nil hstays _)

/-- A table of distinct identities is searched as a list. -/
theorem any_entry {t : List Entry} (hn : (t.map Entry.id).Nodup) (id : Identity) (P : Entry → Prop) [DecidablePred P] :
    (t.any fun e => decide (e.id = id ∧ P e)) = true ↔ ∃ e, findEntry t id = some e ∧ P e := by
  simp only [List.any_eq_true, decide_eq_true_eq]
  constructor
  · rintro ⟨e, he, rfl, hP⟩
    exact ⟨e, findEntry_of_mem hn he, hP⟩
  · rintro ⟨e, he, hP⟩
    obtain ⟨hmem, hid⟩ := findEntry_some he
    exact ⟨e, hmem, hid, hP⟩

/-- Table 4-5, in the words of the obligation: a queued frame that the table has made pointless. -/
theorem superseded_eq {t : List Entry} (hn : (t.map Entry.id).Nodup) (me : Address) :
    (∀ id p a, superseded t me (.bid id p a)
        = decide ¬ (t.any fun e => decide (e.id = id ∧ e.claim = none ∧ e.attempt = a)) = true)
    ∧ (∀ id p a, superseded t me (.lapse id p a)
        = decide ¬ (t.any fun e => decide (e.id = id ∧ e.claim ≠ none ∧ e.attempt = a)) = true)
    ∧ (∀ id a, claimedBy t id me a
        = t.any fun e => decide (e.id = id ∧ e.attempt = a ∧ e.claim.map Claim.claimant = some me))
    ∧ ∀ id, (findEntry t id).isNone = decide ¬ (t.any fun e => decide (e.id = id)) = true := by
  refine ⟨fun id p a => ?_, fun id p a => ?_, fun id a => ?_, fun id => ?_⟩
  · rw [Bool.eq_iff_iff, decide_eq_true_eq, any_entry hn id fun e => e.claim = none ∧ e.attempt = a, superseded]
    cases findEntry t id <;> simp [imp_iff_not_or]
  · rw [Bool.eq_iff_iff, decide_eq_true_eq, any_entry hn id fun e => e.claim ≠ none ∧ e.attempt = a, superseded]
    cases findEntry t id <;> simp [Option.isSome_iff_ne_none, imp_iff_not_or]
  · rw [Bool.eq_iff_iff, any_entry hn id fun e => e.attempt = a ∧ e.claim.map Claim.claimant = some me, claimedBy_iff]
    simp [Option.map_eq_some_iff]
  · rw [Bool.eq_iff_iff, decide_eq_true_eq, findEntry_isNone]
    simp

/-- Settles O35. -/
theorem noSupersededFrameWaits : Obligations.NoSupersededFrameWaits := by
  unfold Obligations.NoSupersededFrameWaits
  intro s f accept hlaw
  have hexec := exec_frameCommand f accept s
  generalize s.frame f accept = t at hexec
  have hlawful : t.LawUpTo .none := hlaw.lawUpTo.exec (by
    obtain ⟨head, body⟩ := f
    cases body with
    | join fresh => cases fresh <;> simp [frameCommand]
    | raise | bid | finish | release | lapse | withdraw | restate => simp [frameCommand]) hexec
  obtain ⟨hbid, hlapse, hclaimed, hpresent⟩ := superseded_eq hlawful.blocks.table.2 s.address
  refine ⟨t, hexec, ?_⟩
  intro present claimed superseded chosen
  have hsuperseded : ∀ q, superseded q = Machine.superseded t.table s.address q := by
    intro q
    cases q with
    | raise | withdraw | join => rfl
    | bid id p a => exact (hbid id p a).symm
    | lapse id p a => exact (hlapse id p a).symm
    | restate id => exact (hpresent id).symm
    | finish id p a result payload => simp only [superseded, claimed, Machine.superseded, hclaimed]
    | release id p a => simp only [superseded, claimed, Machine.superseded, hclaimed]
  have hnone : t.address = s.address → t.image = none → (t.station = .active → t.BidPlaceFollows ∧ t.LapsePlaceFollows) →
      ∀ q ∈ t.queue, superseded q.frame = false := fun haddress himage hchoices q hq => by
    rw [hsuperseded, ← haddress]
    exact hlawful.none_superseded himage hchoices q hq
  have hchoices := fun hstores => placesFollowTheChoices s f accept hlaw hstores
  refine ⟨fun ⟨q, hs⟩ hstores => ?_, fun hhears hgood hsender => ?_⟩
  · obtain ⟨hkept, himg, -⟩ := State.keptByOwn_told (s := s) (f := f) (accept := accept) q s.liu.alone
    obtain rfl := Host.Outcome.next.inj (hexec.symm.trans (hlaw.exec_of_ownTaken hs hstores))
    refine hnone ?_ ((State.testDrain_image _).trans himg) fun hactive => ?_
    · rw [State.testDrain_address, State.address, hkept.2.2.2.1]
      rfl
    · obtain ⟨t', hexec', hfollow⟩ := hchoices hstores
      obtain rfl := Host.Outcome.next.inj (hexec.symm.trans hexec')
      obtain ⟨hbid, hlapse, -⟩ := hfollow (.inr ⟨⟨q, hs⟩, hactive⟩)
      exact ⟨hbid, hlapse⟩
  · by_cases hclash : f.head.sender = s.address
    · obtain ⟨t', hexec', -, -, -, -, -, -, -, hempty, -⟩ := addressClashMutes s f accept hlaw hhears hclash hgood
      obtain rfl := Host.Outcome.next.inj (hexec.symm.trans hexec')
      exact ⟨fun q hq => by simp [hempty] at hq, fun hne => absurd hclash hne⟩
    have hstores := hsender.resolve_left hclash
    obtain rfl := Host.Outcome.next.inj (hexec.symm.trans (exec_of_taken hhears hgood accept hclash hstores))
    obtain ⟨-, -, -, -, hctl, -, -, himg, -⟩ := State.keptByPeer_heard s f hhears.2.1 hclash
    refine ⟨hnone ?_ ((State.testDrain_image _).trans himg) fun hactive => ?_, fun _ => ?_⟩
    · rw [State.testDrain_address]
      simp [State.heard]
    · obtain ⟨t', hexec', hfollow⟩ := hchoices hstores
      obtain rfl := Host.Outcome.next.inj (hexec.symm.trans hexec')
      have hsame := State.testDrain_of_active hactive
      rw [hsame] at hactive
      obtain ⟨hbid, hlapse, -⟩ := hfollow (.inl ⟨hhears, hclash, hgood, (congrArg Controller.state hctl).symm.trans hactive⟩)
      exact ⟨hbid, hlapse⟩
    · have hstore := hstores
      rw [State.stores_eq (b := false) (.inr hclash), Bool.not_eq_true'] at hstore
      obtain ⟨posted, hqueue, hposted⟩ := hlaw.unchosen_drained hhears.1 hhears.2.1 hstore
      refine ⟨posted, ?_, hposted⟩
      refine Eq.trans ?_ (hqueue.trans (congrArg (· ++ posted) (List.filter_congr fun g _ => ?_)))
      · exact List.filter_congr fun g _ => by simp [chosen]
      · simp only [QueuedFrame.staysIn, hsuperseded, chosen, present]
        have hstands : ∀ id, (findEntry (s.heard f).testDrain.table id).isSome
            = (s.heard f).testDrain.table.any fun e => decide (e.id = id) := fun id => by
          rw [Bool.eq_iff_iff, findEntry_isSome]
          simp
        obtain ⟨frame, onLine⟩ := g
        cases frame with
        | withdraw id p => simp [Queued.entryStands, Queued.place, hstands]
        | raise | restate | bid | lapse | finish | release | join => simp [Queued.entryStands, Queued.place]

end Sys2Proof.Machine
end

section
/-! SUPPORT. Runs of equal samples, and the samples of a span at a station that receives it (R60, R61, R74, R75). -/

namespace Sys2Proof.Machine

/-! ### Runs -/

/-- A row of samples, after `run` samples of the level `x`, holds `n` of that level in succession. -/
def hasRun (x : Bool) (n : Nat) : Nat → List Bool → Bool
  | run, [] => n ≤ run
  | run, b :: rest => n ≤ run || hasRun x n (if b = x then run + 1 else 0) rest

theorem hasRun_of_le {x : Bool} {n run : Nat} (h : n ≤ run) (bits : List Bool) : hasRun x n run bits = true := by
  cases bits with
  | nil => exact decide_eq_true h
  | cons b rest => simp [hasRun, h]

theorem hasRun_cons {x : Bool} {n run : Nat} (h : run < n) (b : Bool) (rest : List Bool) :
    hasRun x n run (b :: rest) = hasRun x n (if b = x then run + 1 else 0) rest := by
  simp [hasRun, Nat.not_le.mpr h]

/-- A row that begins with a run of another level keeps no run from before. -/
theorem replicate_prefix_le {x : Bool} {n : Nat} : ∀ {run : Nat} {b : Bool} {rest : List Bool}, b ≠ x →
    List.replicate n x <+: List.replicate run x ++ b :: rest → n ≤ run := by
  induction n with
  | zero => exact fun _ _ => Nat.zero_le _
  | succ n ih =>
    intro run b rest hb h
    cases run with
    | zero =>
      rw [List.replicate_succ, List.replicate_zero, List.nil_append, List.cons_prefix_cons] at h
      exact absurd h.1.symm hb
    | succ run =>
      rw [List.replicate_succ, List.replicate_succ, List.cons_append, List.cons_prefix_cons] at h
      exact Nat.succ_le_succ (ih hb h.2)

/-- A run lies before a sample of another level, or after it. -/
theorem replicate_infix_break {x b : Bool} {n : Nat} (hb : b ≠ x) {rest : List Bool} :
    ∀ {run : Nat}, List.replicate n x <:+: List.replicate run x ++ b :: rest ↔ n ≤ run ∨ List.replicate n x <:+: rest := by
  intro run
  constructor
  · induction run with
    | zero =>
      intro h
      rcases List.infix_cons_iff.mp h with h | h
      · exact .inl (replicate_prefix_le (run := 0) hb h)
      · exact .inr h
    | succ run ih =>
      intro h
      rw [List.replicate_succ, List.cons_append] at h
      rcases List.infix_cons_iff.mp h with h | h
      · exact .inl (replicate_prefix_le (run := run + 1) hb (by rwa [List.replicate_succ, List.cons_append]))
      · exact (ih h).imp_left Nat.le_succ_of_le
  · rintro (h | h)
    · refine List.IsPrefix.isInfix ?_
      rw [← Nat.add_sub_cancel' h, List.replicate_add, List.append_assoc]
      exact List.prefix_append _ _
    · exact h.trans ((List.suffix_cons _ _).trans (List.suffix_append _ _)).isInfix

/-- The runs of a row are its blocks of equal samples. -/
theorem hasRun_iff {x : Bool} {n : Nat} (bits : List Bool) :
    ∀ {run : Nat}, hasRun x n run bits = true ↔ List.replicate n x <:+: List.replicate run x ++ bits := by
  have hfits : ∀ {run : Nat} {bits : List Bool}, n ≤ run → List.replicate n x <:+: List.replicate run x ++ bits := by
    intro run bits h
    refine List.IsPrefix.isInfix ?_
    rw [← Nat.add_sub_cancel' h, List.replicate_add, List.append_assoc]
    exact List.prefix_append _ _
  induction bits with
  | nil =>
    intro run
    rw [hasRun, decide_eq_true_eq]
    refine ⟨hfits, fun h => ?_⟩
    simpa using h.length_le
  | cons b rest ih =>
    intro run
    rw [hasRun, Bool.or_eq_true, decide_eq_true_eq, ih]
    by_cases hb : b = x
    · subst hb
      rw [if_pos rfl, List.replicate_succ', List.append_assoc, List.singleton_append]
      exact ⟨fun h => h.elim hfits id, .inr⟩
    · rw [if_neg hb, replicate_infix_break hb, List.replicate_zero, List.nil_append]

/-- In the words of the obligation. -/
theorem hasRun_eq_false {x : Bool} {n : Nat} {bits : List Bool} :
    hasRun x n 0 bits = false ↔ ∀ before later : List Bool, bits ≠ before ++ List.replicate n x ++ later := by
  rw [← Bool.not_eq_true, hasRun_iff, List.replicate_zero, List.nil_append]
  exact ⟨fun h before later he => h ⟨before, later, he.symm⟩, fun h ⟨before, later, he⟩ => h before later he.symm⟩

theorem holdsStuck_eq (bits : List Bool) : ∀ {run : Nat}, run ≤ 12 → holdsStuck run bits = hasRun false 12 run bits := by
  induction bits with
  | nil =>
    intro run h
    rw [holdsStuck, hasRun, decide_eq_decide]
    exact ⟨fun he => he.ge, fun hge => h.antisymm hge⟩
  | cons b rest ih =>
    intro run h
    by_cases he : run = 12
    · rw [hasRun_of_le he.ge]
      simp [holdsStuck, he, Config.stuckSamples]
    · have hlt : run < 12 := by omega
      rw [hasRun_cons hlt, ← ih (by split <;> omega)]
      cases b <;> simp [holdsStuck, he, Config.stuckSamples]

/-! ### The counts over a row -/

/-- R74: below its last value the count of dominant samples is the length of the run. -/
theorem Liu.runOn_eq (l : Liu) (hp : l.phase ≠ .recovering) (hd : l.dominant < 12) (b : Bool) :
    (if b = false then l.dominant + 1 else 0) = (l.sample b).dominant := by
  cases b with
  | true => rfl
  | false =>
    simp only [if_true, Liu.sample, Bool.false_eq_true, if_false, if_neg hp, Config.stuckSamples]
    omega

/-- R74: the count of dominant samples continues over a row into what follows it. -/
theorem hasRun_append {l : Liu} (hp : l.phase ≠ .recovering) (slots : List Bool) (bits : List Bool) :
    hasRun false 12 l.dominant (bits ++ slots)
      = (hasRun false 12 l.dominant bits || hasRun false 12 (l.sampleAll bits).dominant slots) := by
  induction bits generalizing l with
  | nil =>
    by_cases h : 12 ≤ l.dominant
    · simp [hasRun_of_le h]
    · simp [hasRun, h, Liu.sampleAll]
  | cons b rest ih =>
    by_cases h : 12 ≤ l.dominant
    · rw [List.cons_append, hasRun_of_le h, hasRun_of_le h, Bool.true_or]
    · have hlt := Nat.not_le.mp h
      rw [List.cons_append, hasRun_cons hlt, hasRun_cons hlt, l.runOn_eq hp hlt, ih (by simpa using hp)]
      rfl

/-- R60, R61: counts of recessive samples that stand at `r`, short of every threshold. -/
def Liu.Counted (l : Liu) (r : Nat) : Prop :=
  l.recessive = r ∧ l.idle = r ∧ (l.startUpIdle = 16 ∨ l.startUpIdle = r) ∧ r < 16

theorem Liu.counted_dominant (l : Liu) : (l.sample false).Counted 0 := by
  refine ⟨rfl, rfl, ?_, by omega⟩
  simp only [Liu.sample, Bool.false_eq_true, if_false, Config.startUpSamples]
  by_cases h : l.startUpIdle = 16 <;> simp [h]

theorem Liu.Counted.recessive {l : Liu} {r : Nat} (h : l.Counted r) (hr : r + 1 < 16) : (l.sample true).Counted (r + 1) := by
  obtain ⟨hrec, hidle, hstart, -⟩ := h
  simp only [Liu.Counted, Liu.sample, if_true, Config.recoverySamples, Config.idleSamples, Config.startUpSamples]
  omega

section
variable {s : State} {r : Nat} (hl : s.liuHeld = false) (himage : s.image = none)
  (hp : s.liu.phase = .receiving ∨ s.liu.phase = .recovering)
include hl himage hp

/-- R60: a recessive sample in a frame or a recovery, short of every threshold, changes only the counts. -/
theorem State.hear_recessive (hc : s.liu.Counted r) (hr : r + 1 < 16) :
    s.hear true = { s with liu := s.liu.sample true } := by
  obtain ⟨hrec, hidle, hstart, -⟩ := hc
  obtain ⟨hrec', hidle', hstart', -⟩ := Liu.Counted.recessive ⟨hrec, hidle, hstart, by omega⟩ hr
  have hspacing : (s.liu.sample true).phase ≠ .spacing := by
    rw [Liu.sample_phase]
    rcases hp with hp | hp <;> simp [hp]
  rw [State.hear, if_neg (by simp [hl, himage]), if_pos rfl]
  have hno : ¬ ((s.liu.sample true).phase = .spacing ∧ Config.spacingSamples ≤ (s.liu.sample true).recessive) :=
    fun h => hspacing h.1
  have hrecovery : ¬ ((s.liu.sample true).phase = .recovering
      ∧ Config.recoverySamples ≤ (s.liu.sample true).recessive) := by
    simp only [hrec', Config.recoverySamples]
    omega
  have hstarted : ¬ (s.liu.startUpIdle < Config.startUpSamples
      ∧ (s.liu.sample true).startUpIdle = Config.startUpSamples) := by
    simp only [Liu.sample, if_true, Config.startUpSamples]
    omega
  have hwindow : ¬ (s.liu.idle < Config.idleSamples ∧ (s.liu.sample true).idle = Config.idleSamples) := by
    simp only [hidle', Config.idleSamples]
    omega
  simp only [State.quietSample, if_neg hno, if_neg hrecovery, if_neg hstarted, if_neg hwindow]

/-- R26, R74: a dominant sample in a frame or a recovery is counted, and may be a stuck Line. -/
theorem State.hear_dominant :
    s.hear false = if s.liu.phase = .receiving ∧ (s.liu.sample false).dominant = 12
      then State.stuckLine { s with liu := s.liu.sample false } else { s with liu := s.liu.sample false } := by
  have hedge : s.liu.seesStartEdge = false := by
    refine Liu.seesStartEdge_of_phase ?_ ?_ <;> rcases hp with hp | hp <;> simp [hp]
  have hiff : (s.liu.sample false).phase ≠ .recovering ↔ s.liu.phase = .receiving := by
    rw [Liu.sample_phase]
    rcases hp with hp | hp <;> simp [hp]
  rw [State.hear, if_neg (by simp [hl, himage]), if_neg (by simp), State.dominantSample, hedge, if_neg (by simp),
    State.sampleLine]
  dsimp only
  simp only [hiff, Config.stuckSamples]

end

/-- R60, R74: a row of samples without a stuck Line, short of every threshold, changes only the counts. -/
theorem State.watch_plain (bits : List Bool) : ∀ {s : State} {r : Nat}, s.liuHeld = false → s.image = none →
    (s.liu.phase = .receiving ∧ hasRun false 12 s.liu.dominant bits = false) ∨ s.liu.phase = .recovering →
    s.liu.Counted r → hasRun true 16 r bits = false → s.watch bits = { s with liu := s.liu.sampleAll bits } := by
  induction bits with
  | nil => intros; rfl
  | cons b rest ih =>
    intro s r hl himage hp hc hquiet
    have hphase : s.liu.phase = .receiving ∨ s.liu.phase = .recovering := hp.imp_left And.left
    have hr16 : r < 16 := hc.2.2.2
    rw [hasRun_cons hr16] at hquiet
    have hrun : s.liu.phase = .receiving → hasRun false 12 (s.liu.sample b).dominant rest = false := fun hreceiving => by
      obtain ⟨-, hrun⟩ := hp.resolve_right (by simp [hreceiving])
      have hlt : s.liu.dominant < 12 := by
        by_contra hge
        rw [hasRun_of_le (Nat.not_lt.mp hge)] at hrun
        cases hrun
      rwa [hasRun_cons hlt, s.liu.runOn_eq (by simp [hreceiving]) hlt] at hrun
    have hp' : ((s.liu.sample b).phase = .receiving ∧ hasRun false 12 (s.liu.sample b).dominant rest = false)
        ∨ (s.liu.sample b).phase = .recovering := by
      rw [Liu.sample_phase]
      exact hphase.imp_left fun hreceiving => ⟨hreceiving, hrun hreceiving⟩
    have hstep : s.hear b = { s with liu := s.liu.sample b }
        ∧ (s.liu.sample b).Counted (if b = true then r + 1 else 0) := by
      cases b with
      | true =>
        rw [if_pos rfl] at hquiet ⊢
        have hr : r + 1 < 16 := by
          by_contra hge
          rw [hasRun_of_le (Nat.not_lt.mp hge)] at hquiet
          cases hquiet
        exact ⟨State.hear_recessive hl himage hphase hc hr, hc.recessive hr⟩
      | false =>
        have hfree : ¬ (s.liu.phase = .receiving ∧ (s.liu.sample false).dominant = 12) := fun ⟨hreceiving, hstuck⟩ => by
          have hrun := hrun hreceiving
          rw [hasRun_of_le hstuck.ge] at hrun
          cases hrun
        rw [State.hear_dominant hl himage hphase, if_neg hfree]
        exact ⟨rfl, s.liu.counted_dominant⟩
    obtain ⟨hhear, hc'⟩ := hstep
    rw [State.watch, List.foldl_cons, hhear]
    exact ih (s := { s with liu := s.liu.sample b }) hl himage hp' hc' hquiet

end Sys2Proof.Machine
end

section
/-! SUPPORT. A peer's frame that is taken nowhere (R65 to R68, R71, R74). -/

namespace Sys2Proof.Machine

/-! ### A stuck Line in the span -/

/-- R74: the state once LINE_FAULT has been raised, before the drain is tested. -/
def State.faulted (s : State) (l : Liu) : State := { s with liu := l, notices := (s.raiseCause .lineFault).notices }

/-- R151: the drain is about to be found complete. -/
def State.drainEnds (s : State) : Prop := s.station = .leaving ∧ s.ctl.draining = true ∧ s.drainComplete = true

theorem State.faulted_testDrain_of_ends {s : State} (h : s.drainEnds) (l : Liu) :
    (s.faulted l).testDrain = (s.faulted l).enterDetached := if_pos h

theorem State.faulted_testDrain_of_goes_on {s : State} (h : ¬ s.drainEnds) (l : Liu) : (s.faulted l).testDrain = s.faulted l :=
  if_neg h

/-- A held LIU samples nothing (R76). -/
theorem State.watch_of_held {s : State} (h : s.liuHeld = true) (bits : List Bool) : s.watch bits = s := by
  induction bits with
  | nil => rfl
  | cons b rest ih =>
    have hhear : s.hear b = s := if_pos (by simp [h])
    rw [State.watch, List.foldl_cons, hhear]
    exact ih

section
variable {s : State} (hlaw : s.Lawful) (hl : s.liuHeld = false) (himage : s.image = none)
  (hw : s.ctl.restartWaiting = false)

/-- The law does not look at the LIU but for its failure count. -/
theorem State.Lawful.withLiu (hlaw : s.Lawful) {l : Liu} (h : l.failures = s.liu.failures) :
    State.Lawful { s with liu := l } := by
  obtain ⟨htable, hqueue, ⟨hle, hmute, hquiet⟩, hrest⟩ := hlaw
  exact ⟨htable, hqueue, ⟨h ▸ hle, fun h8 => hmute (h ▸ h8), hquiet⟩, hrest⟩

include hl himage in
/-- R75: after a stuck Line the rest of the span is sampled in RECOVERING, or by a held LIU not at all. -/
theorem State.watch_of_faulted {l : Liu} {r : Nat} (hp : l.phase = .recovering) (hc : l.Counted r) {bits : List Bool}
    (hquiet : hasRun true 16 r bits = false) :
    ∃ l' : Liu, (s.faulted l).testDrain.watch bits = (s.faulted l').testDrain ∧ l'.phase = .recovering
      ∧ l'.failures = l.failures ∧ l'.alone = l.alone := by
  by_cases hends : s.drainEnds
  · refine ⟨l, State.watch_of_held ?_ bits, hp, rfl, rfl⟩
    rw [State.faulted_testDrain_of_ends hends]
    simp [State.liuHeld, State.station, State.enterDetached_ctl]
  · refine ⟨l.sampleAll bits, ?_, by simpa using hp, by simp, by simp⟩
    rw [State.faulted_testDrain_of_goes_on hends, State.faulted_testDrain_of_goes_on hends]
    exact State.watch_plain bits (s := s.faulted l) hl himage (.inr hp) hc hquiet

include hlaw hl himage hw

/-- R74: a stuck Line while no own frame is on it. -/
theorem State.Lawful.stuckLine_faulted {l : Liu} (hfail : l.failures = s.liu.failures) (hp : l.phase ≠ .recovering) :
    State.stuckLine { s with liu := l } = (s.faulted l.stick).testDrain := by
  rw [State.Lawful.stuckLine_of_none (s := { s with liu := l }) hl hw hp (hlaw.withLiu hfail) himage, State.raiseCause_eq]
  have hnotices : (State.raiseCause { s with liu := l.stick } .lineFault).notices = (s.raiseCause .lineFault).notices :=
    State.raiseCause_notices_congr (by rfl) _
  rw [State.faulted, ← hnotices]

/-- R74: twelve dominant samples in succession, in a span that is received from its start bit. -/
theorem State.Lawful.watch_stuck (bits : List Bool) : ∀ {l : Liu} {r : Nat}, l.failures = s.liu.failures →
    l.alone = s.liu.alone → l.phase = .receiving → l.dominant < 12 → l.Counted r → hasRun false 12 l.dominant bits = true →
    hasRun true 16 r bits = false →
    ∃ l' : Liu, State.watch { s with liu := l } bits = (s.faulted l').testDrain ∧ l'.phase = .recovering
      ∧ l'.failures = s.liu.failures ∧ l'.alone = s.liu.alone := by
  induction bits with
  | nil =>
    intro l r _ _ _ hd _ hrun _
    exact absurd (of_decide_eq_true hrun) (Nat.not_le.mpr hd)
  | cons b rest ih =>
    intro l r hfail halone hp hd hc hrun hquiet
    have hfail' : (l.sample b).failures = s.liu.failures := by simpa using hfail
    have halone' : (l.sample b).alone = s.liu.alone := by simpa using halone
    have hp' : (l.sample b).phase = .receiving := by simpa using hp
    have hr16 : r < 16 := hc.2.2.2
    rw [hasRun_cons hd, l.runOn_eq (by simp [hp]) hd] at hrun
    rw [hasRun_cons hr16] at hquiet
    rw [State.watch, List.foldl_cons]
    cases b with
    | true =>
      rw [if_pos rfl] at hquiet
      have hr : r + 1 < 16 := by
        by_contra hge
        rw [hasRun_of_le (Nat.not_lt.mp hge)] at hquiet
        cases hquiet
      rw [State.hear_recessive (s := { s with liu := l }) hl himage (.inl hp) hc hr]
      exact ih hfail' halone' hp' (by simp [Liu.sample]) (hc.recessive hr) hrun hquiet
    | false =>
      rw [if_neg (by simp)] at hquiet
      rw [State.hear_dominant (s := { s with liu := l }) hl himage (.inl hp)]
      by_cases hstuck : (l.sample false).dominant = 12
      · rw [if_pos ⟨hp, hstuck⟩, hlaw.stuckLine_faulted hl himage hw hfail' (by simp [hp])]
        have hcounted : (l.sample false).stick.Counted 0 := by
          refine ⟨rfl, rfl, ?_, by omega⟩
          simp only [Liu.stick, Config.startUpSamples]
          by_cases h16 : (l.sample false).startUpIdle = 16 <;> simp [h16]
        obtain ⟨l', hwatch, hp'', hfail'', halone''⟩ := State.watch_of_faulted (s := s) hl himage rfl hcounted hquiet
        exact ⟨l', hwatch, hp'', hfail''.trans hfail', halone''.trans halone'⟩
      · rw [if_neg fun h => hstuck h.2]
        have hd' : (l.sample false).dominant < 12 := by
          rw [← l.runOn_eq (by simp [hp]) hd] at hstuck ⊢
          simp only [if_true] at hstuck ⊢
          omega
        exact ih hfail' halone' hp' hd' l.counted_dominant hrun hquiet

end

/-! ### The slots -/

section
variable {s : State} (ownAccept ownObject : Bool)

/-- R67, R74: a recessive ACCEPT slot breaks every run, so that the OBJECT slot is no stuck Line. -/
theorem State.objectedSlots_of_recessive :
    s.objectedSlots .recessive ownAccept ownObject
      = { s with liu := { s.liu with phase := .slots }.endFrame [true, false] ownAccept ownObject false } := by
  have hfirst : State.sampleLine { s with liu := s.liu.atAccept ownAccept } Level.recessive.bit
      = { s with liu := (s.liu.atAccept ownAccept).sample true } := 
    State.sampleLine_of_lt (by simp [Liu.sample, Level.bit, Config.stuckSamples])
  have hsecond : State.sampleLine { s with liu := ((s.liu.atAccept ownAccept).sample true).atObject ownObject } false
      = { s with liu := (((s.liu.atAccept ownAccept).sample true).atObject ownObject).sample false } :=
    State.sampleLine_of_lt (by simp [Liu.sample, Liu.atObject, Liu.atAccept, Config.stuckSamples])
  unfold State.objectedSlots
  simp only [hfirst]
  rw [if_neg (by simp)]
  unfold State.objectSlot
  simp only [hsecond]
  rw [if_neg (by simp)]
  exact congrArg (fun l => { s with liu := l }) (Liu.slots_endFrame s.liu .recessive ownAccept ownObject)

/-- R74: the twelfth dominant sample in succession. -/
theorem State.sampleLine_of_stuck {b : Bool} (hp : s.liu.phase ≠ .recovering) (hd : (s.liu.sample b).dominant = 12) :
    s.sampleLine b = State.stuckLine { s with liu := s.liu.sample b } :=
  if_pos ⟨by simpa using hp, hd⟩

/-- R67, R74: after ten or eleven dominant samples two dominant slots are a stuck Line. -/
theorem State.objectedSlots_of_ge (hl : s.liuHeld = false) (hge : 10 ≤ s.liu.dominant) (hlt : s.liu.dominant < 12) :
    ∃ l : Liu, l.phase = .slots ∧ l.failures = s.liu.failures ∧ l.alone = s.liu.alone
      ∧ s.objectedSlots .dominant ownAccept ownObject = State.stuckLine { s with liu := l } := by
  have haccept : ((s.liu.atAccept ownAccept).sample false).dominant = s.liu.dominant + 1 :=
    ((s.liu.atAccept ownAccept).runOn_eq (by simp) hlt false).symm
  unfold State.objectedSlots
  by_cases hfirst : s.liu.dominant = 11
  · have hstuck : State.sampleLine { s with liu := s.liu.atAccept ownAccept } Level.dominant.bit
        = State.stuckLine { s with liu := (s.liu.atAccept ownAccept).sample false } :=
      State.sampleLine_of_stuck (by simp) (by rw [Level.bit, haccept, hfirst])
    refine ⟨(s.liu.atAccept ownAccept).sample false, by simp, by simp, by simp, ?_⟩
    simp only [hstuck]
    exact if_pos (State.stuckLine_phase (s := { s with liu := (s.liu.atAccept ownAccept).sample false }) hl (by simp))
  · have hplain : State.sampleLine { s with liu := s.liu.atAccept ownAccept } Level.dominant.bit
        = { s with liu := (s.liu.atAccept ownAccept).sample false } :=
      State.sampleLine_of_lt (by rw [Level.bit, haccept, Config.stuckSamples]; omega)
    have hobject : ((((s.liu.atAccept ownAccept).sample false).atObject ownObject).sample false).dominant = 12 := by
      rw [← Liu.runOn_eq _ (by simp) (by rw [Liu.atObject_dominant, haccept]; omega), if_pos rfl, Liu.atObject_dominant, haccept]
      omega
    have hstuck : State.sampleLine { s with liu := ((s.liu.atAccept ownAccept).sample false).atObject ownObject } false
        = State.stuckLine { s with liu := (((s.liu.atAccept ownAccept).sample false).atObject ownObject).sample false } :=
      State.sampleLine_of_stuck (by simp) hobject
    refine ⟨(((s.liu.atAccept ownAccept).sample false).atObject ownObject).sample false, by simp, by simp, by simp, ?_⟩
    simp only [hplain]
    rw [if_neg (by simp)]
    unfold State.objectSlot
    simp only [hstuck]
    exact if_pos (State.stuckLine_phase
      (s := { s with liu := (((s.liu.atAccept ownAccept).sample false).atObject ownObject).sample false }) hl (by simp))

end

end Sys2Proof.Machine
end

section
/-! SUPPORT. A peer's frame that is taken nowhere changes nothing but the LIU, unless the Line is stuck (R71, R74). -/

namespace Sys2Proof.Machine

/-- R49, R67: a station looks for room only for a frame of another sender. -/
theorem State.storageObjects_iff {s : State} {f : Frame} :
    storageObjects s.address false s.table f = true ↔ f.head.sender ≠ s.address ∧ s.stores f = false := by
  by_cases hsender : f.head.sender = s.address
  · have happ : applies s.address false s.table f = false := by
      rw [← Bool.not_eq_true, applies_iff]
      simp [hsender]
    refine ⟨fun h => ?_, fun h => absurd hsender h.1⟩
    unfold storageObjects at h
    cases hb : f.body <;> simp [hb, happ] at h
  · rw [State.stores_eq (b := false) (.inr hsender), Bool.not_eq_false']
    exact ⟨fun h => ⟨hsender, h⟩, And.right⟩

/-- R67, R74: slots that hold no twelfth dominant sample end the frame. -/
theorem State.objectedSlots_free {s : State} {accept : Level} (ownAccept ownObject : Bool)
    (h : hasRun false 12 s.liu.dominant [decide (accept = .recessive), false] = false) :
    s.objectedSlots accept ownAccept ownObject
      = { s with liu := { s.liu with phase := .slots }.endFrame [accept.bit, false] ownAccept ownObject false } := by
  cases accept with
  | recessive => exact State.objectedSlots_of_recessive ownAccept ownObject
  | dominant =>
    refine State.objectedSlots_of_le .dominant ownAccept ownObject ?_
    simp [hasRun] at h
    omega

/-- R74: slots that hold the twelfth dominant sample are both dominant, after ten or eleven. -/
theorem dominant_of_slots {d : Nat} {accept : Level} (hd : d < 12)
    (h : hasRun false 12 d [decide (accept = .recessive), false] = true) : accept = .dominant ∧ 10 ≤ d := by
  cases accept with
  | recessive =>
    simp [hasRun] at h
    omega
  | dominant =>
    simp [hasRun] at h
    exact ⟨rfl, by omega⟩

/-- R26, R65: a peer's frame received from its start bit is answered as its span requires. -/
theorem exec_of_nowhere {s : State} (hl : s.liuHeld = false) (himage : s.image = none) (hr : s.receives) (bits : List Bool)
    (accept : Level) : exec (.frameTakenNowhere bits accept) s = .next (s.spanNowhere bits accept) := by
  have hmeets : s.meets = s := by
    refine if_neg fun ⟨hsees, hready⟩ => ?_
    rcases hr with hp | ⟨-, hnot⟩
    · rw [Liu.seesStartEdge_of_phase (by simp [hp]) (by simp [hp])] at hsees
      cases hsees
    · rw [hready] at hnot
      cases hnot
  have hreceives : s.liu.receivesFrame = true := by
    rcases hr with hp | ⟨hsees, -⟩
    · simp [Liu.receivesFrame, hp]
    · simp [Liu.receivesFrame, hsees]
  refine congrArg Host.Outcome.next ?_
  rw [if_neg (by simp [hl, himage]), if_pos hreceives, hmeets]
  exact if_neg (by simp [hl])

/-- R26, R74: the LIU at the start edge of a frame that it receives. -/
def Liu.atStart (l : Liu) : Liu := { l.atEdge with phase := .receiving }

section
variable {s : State} (hl : s.liuHeld = false) (himage : s.image = none) {bits : List Bool}
  (hhead : bits.head? = some false) (hquiet : hasRun true 16 0 bits = false)
include hl himage hhead hquiet

/-- R60, R74: a span in which the Line is not stuck changes only the counts. -/
theorem State.watch_span (hrun : hasRun false 12 0 bits = false) :
    State.watch { s with liu := s.liu.atStart } bits = { s with liu := s.liu.atStart.sampleAll bits } := by
  cases bits with
  | nil => cases hhead
  | cons b rest =>
    obtain rfl : b = false := Option.some_inj.mp hhead
    have hfree : (s.liu.atStart.sample false).dominant = 1 := rfl
    rw [hasRun_cons (by omega), if_pos rfl] at hrun
    rw [hasRun_cons (by omega), if_neg (by simp)] at hquiet
    rw [State.watch, List.foldl_cons, State.hear_dominant (s := { s with liu := s.liu.atStart }) hl himage (.inl rfl),
      if_neg fun h => by simp [hfree] at h]
    exact State.watch_plain rest (s := { s with liu := s.liu.atStart.sample false }) hl himage (.inl ⟨rfl, hrun⟩)
      s.liu.atStart.counted_dominant hquiet

/-- R74: a span in which the Line is stuck. -/
theorem State.Lawful.watch_stuckSpan (hlaw : s.Lawful) (hw : s.ctl.restartWaiting = false)
    (hrun : hasRun false 12 0 bits = true) :
    ∃ l : Liu, State.watch { s with liu := s.liu.atStart } bits = (s.faulted l).testDrain ∧ l.phase = .recovering
      ∧ l.failures = s.liu.failures ∧ l.alone = s.liu.alone := by
  cases bits with
  | nil => cases hhead
  | cons b rest =>
    obtain rfl : b = false := Option.some_inj.mp hhead
    have hfree : (s.liu.atStart.sample false).dominant = 1 := rfl
    rw [hasRun_cons (by omega), if_pos rfl] at hrun
    rw [hasRun_cons (by omega), if_neg (by simp)] at hquiet
    rw [State.watch, List.foldl_cons, State.hear_dominant (s := { s with liu := s.liu.atStart }) hl himage (.inl rfl),
      if_neg fun h => by simp [hfree] at h]
    exact hlaw.watch_stuck hl himage hw rest rfl rfl rfl (by rw [hfree]; omega) s.liu.atStart.counted_dominant hrun hquiet

end

/-- The slots that follow a span, by what a receiver found in it (R66 to R68). -/
def slotsAfter (accept : Level) : Verdict → List Bool
  | .placeLost => []
  | .placeKept => [decide (accept = .recessive), false]
  | .clean _ => [false, false]

section
variable {s : State}

/-- R66 to R68: a frame taken nowhere ends with what the station found in it, when the Line is not stuck. -/
theorem State.peerNowhere_free {accept : Level} {v : Verdict}
    (h : hasRun false 12 s.liu.dominant (slotsAfter accept v) = false) :
    ∃ l : Liu, s.peerNowhere accept v = { s with liu := l } ∧ l.phase = .spacing ∧ l.failures = s.liu.failures
      ∧ l.alone = s.liu.alone
      ∧ (v = .placeLost → l.droveRun = true ∧ l.droveAccept = false ∧ l.droveObject = false)
      ∧ (v = .placeKept → l.droveRun = false ∧ l.droveAccept = false ∧ l.droveObject = true)
      ∧ ∀ f, v = .clean f → l.droveRun = false ∧ l.droveAccept = true
          ∧ (l.droveObject = true ↔ f.head.sender ≠ s.address ∧ s.stores f = false) := by
  cases v with
  | placeLost =>
    exact ⟨s.liu.endFrame runBits false false true, rfl, rfl, by simp [Liu.endFrame], by simp [Liu.endFrame],
      fun _ => ⟨rfl, rfl, rfl⟩, fun h => (by cases h), fun f h => (by cases h)⟩
  | placeKept =>
    exact ⟨_, State.objectedSlots_free false true h, rfl, by simp [Liu.endFrame], by simp [Liu.endFrame],
      fun h => (by cases h), fun _ => ⟨rfl, rfl, rfl⟩, fun f h => (by cases h)⟩
  | clean f =>
    refine ⟨_, State.objectedSlots_free (accept := .dominant) true (storageObjects s.address false s.table f) h, rfl,
      by simp [Liu.endFrame], by simp [Liu.endFrame], fun h => (by cases h), fun h => (by cases h), fun g hg => ?_⟩
    obtain rfl := Verdict.clean.inj hg
    exact ⟨rfl, rfl, State.storageObjects_iff⟩

/-- R74: the Line is stuck in the slots of a frame taken nowhere. -/
theorem State.peerNowhere_stuck (hl : s.liuHeld = false) {accept : Level} {v : Verdict} (hd : s.liu.dominant < 12)
    (h : hasRun false 12 s.liu.dominant (slotsAfter accept v) = true) :
    ∃ l : Liu, l.phase = .slots ∧ l.failures = s.liu.failures ∧ l.alone = s.liu.alone
      ∧ s.peerNowhere accept v = State.stuckLine { s with liu := l } := by
  cases v with
  | placeLost => exact absurd (of_decide_eq_true h) (Nat.not_le.mpr hd)
  | placeKept =>
    obtain ⟨rfl, hge⟩ := dominant_of_slots hd h
    exact State.objectedSlots_of_ge false true hl hge hd
  | clean f =>
    obtain ⟨-, hge⟩ := dominant_of_slots (accept := .dominant) hd h
    exact State.objectedSlots_of_ge true _ hl hge hd

end

/-- Settles O50. -/
theorem frameTakenNowhereChangesOnlyLiu : Obligations.FrameTakenNowhereChangesOnlyLiu := by
  unfold Obligations.FrameTakenNowhereChangesOnlyLiu
  intro s bits accept hl himage hr hhead hquiet slots
  have hslots : slots = slotsAfter accept (receive bits) := by
    cases hv : receive bits <;> simp only [slots, hv, slotsAfter]
  have hquiet := hasRun_eq_false.mpr hquiet
  have hexec := exec_of_nowhere hl himage hr bits accept
  have hspan : s.spanNowhere bits accept
      = if hasRun false 12 0 bits then State.watch { s with liu := s.liu.atStart } bits
        else State.peerNowhere (State.watch { s with liu := s.liu.atStart } bits) accept (receive bits) := by
    rw [← holdsStuck_eq bits (Nat.zero_le 12)]
    rfl
  have happend : ∀ later, hasRun false 12 0 (bits ++ later)
      = (hasRun false 12 0 bits || hasRun false 12 (s.liu.atStart.sampleAll bits).dominant later) := fun later =>
    hasRun_append (l := s.liu.atStart) (by simp [Liu.atStart]) later bits
  have hfail : (s.liu.atStart.sampleAll bits).failures = s.liu.failures := by simp [Liu.atStart, Liu.atEdge]
  have halone : (s.liu.atStart.sampleAll bits).alone = s.liu.alone := by simp [Liu.atStart, Liu.atEdge]
  refine ⟨fun hfree => ?_, fun before later hlaw hw hstuck => ?_⟩
  · have hfree := hasRun_eq_false.mpr hfree
    rw [happend, Bool.or_eq_false_iff, hslots] at hfree
    obtain ⟨hspanFree, hslotsFree⟩ := hfree
    obtain ⟨l, hends, hphase, hfail', halone', hlost, hkept, hclean⟩ := State.peerNowhere_free
      (s := { s with liu := s.liu.atStart.sampleAll bits }) hslotsFree
    refine ⟨_, hexec, ?_⟩
    rw [hspan, hspanFree, if_neg (by simp), State.watch_span hl himage hhead hquiet hspanFree, hends]
    exact ⟨rfl, hphase, hfail'.trans hfail, halone'.trans halone, hlost, hkept, hclean⟩
  · have hrun : hasRun false 12 0 (bits ++ slots) = true := by
      rw [← Bool.not_eq_false]
      exact fun h => hasRun_eq_false.mp h before later hstuck
    rw [hexec, hspan]
    by_cases hspanStuck : hasRun false 12 0 bits = true
    · obtain ⟨l, hwatch, hphase, hfail', halone'⟩ := hlaw.watch_stuckSpan hl himage hhead hquiet hw hspanStuck
      rw [if_pos hspanStuck, hwatch]
      exact ⟨s.faulted l, rfl, rfl, hphase, hfail', halone'⟩
    · have hspanFree := (Bool.not_eq_true _).mp hspanStuck
      have hd : (s.liu.atStart.sampleAll bits).dominant < 12 := by
        have hnil := happend []
        rw [List.append_nil, hspanFree, Bool.false_or] at hnil
        exact Nat.not_le.mp fun hge => by simp [hasRun, hge] at hnil
      rw [happend, hspanFree, Bool.false_or, hslots] at hrun
      obtain ⟨l, hphase, hfail', halone', hends⟩ := State.peerNowhere_stuck
        (s := { s with liu := s.liu.atStart.sampleAll bits }) hl hd hrun
      rw [if_neg hspanStuck, State.watch_span hl himage hhead hquiet hspanFree, hends,
        hlaw.stuckLine_faulted hl himage hw (hfail'.trans hfail) (by simp [hphase])]
      exact ⟨s.faulted l.stick, rfl, rfl, rfl, hfail'.trans hfail, halone'.trans halone⟩

end Sys2Proof.Machine
end
